-- ==== Sys2Proof/Word.lean ====
section
/-! DEFINITION. The plain types the whole model is written over: bytes, addresses, and the indices that name radios, stations,
channels and lanes (00_scope.md, "Names of things"; R175 for the widths of fields). -/

namespace Sys2Proof

/-- One byte of a record, a message or a frame. -/
abbrev Byte := BitVec 8

/-- A 16-bit field: a check code, a replay sequence, a CRC (R175). -/
abbrev Half := BitVec 16

/-- A 32-bit field: a pass number or a sector time (R144, R175). -/
abbrev Word := BitVec 32

/-- A 48-bit device address (R1). -/
abbrev Address := BitVec 48

/-- A radio head, named by its radio index 0 to 63. -/
abbrev RadioIx := Fin 64

/-- A station context, named by its station index 0 to 4095. -/
abbrev StationIx := Fin 4096

/-- A replay channel, named by its channel number 0 to 15. -/
abbrev ChannelIx := Fin 16

/-- A lane, and so its master: 0 BOARD, 1 VENUE, 2 TICKET, 3 REPLAY. -/
abbrev LaneIx := Fin 4

/-- A rate class 0 to 11 (R128). -/
abbrev RateClass := Fin 12

end Sys2Proof
end

