-- ==== Sys2Proof/Syntax.lean ====
section
/-! DEFINITION. The commands of the block: one constructor for each row of spec/opcode_table.json, with the operands the row's rule
gives it. A control message's fields are those of the table in section 11.3 (11_record_layouts_and_signals.md). -/

namespace Sys2Proof

/-- A fan frame: an Ethernet frame kept whole and not examined beyond its two addresses (section 1.9, R63). -/
structure FanFrame where
  destination : Address
  source : Address
  payload : List Byte
  deriving DecidableEq, Repr

/-- What POWER_ON_RESET is (R152): the RESET pin is driven low, which holds the device in reset; or the device leaves reset, as the pin
rises or power does, and bit r of `carrier` says whether seat link r has carrier then. -/
inductive ResetEvent where
  | held
  | left (carrier : BitVec 64)
  deriving DecidableEq, Repr

/-- The commands. `radio` is the seat link a message, frame or event belongs to; `sequence` is a received message's sequence number;
`lane` is the lane whose head request is served. -/
inductive Instr where
  /-- POWER_ON_RESET (R152). -/
  | powerOnReset (event : ResetEvent)
  /-- CARRIER_APPEAR (R25). -/
  | carrierAppear (radio : RadioIx)
  /-- CARRIER_LOSS (R25). -/
  | carrierLoss (radio : RadioIx)
  /-- SAMPLE_EXPIRY (R27). -/
  | sampleExpiry (radio : RadioIx)
  /-- BUDGET_PERIOD_EXPIRY (R147). -/
  | budgetPeriodExpiry
  /-- REFILL (R136). -/
  | refill (radio : RadioIx)
  /-- HANDOFF_DEADLINE_EXPIRY (R53, R57). -/
  | handoffDeadlineExpiry (station : StationIx)
  /-- GUARD_DEADLINE_EXPIRY (R54). -/
  | guardDeadlineExpiry (station : StationIx)
  /-- ORPHAN_DEADLINE_EXPIRY (R16). -/
  | orphanDeadlineExpiry (station : StationIx)
  /-- JOIN (R6, R7). -/
  | join (radio : RadioIx) (sequence : Byte) (device : Address) (rate : Byte)
  /-- ROAM (R46); bit 0 of `flags` is the link-lost flag. -/
  | roam (radio : RadioIx) (sequence : Byte) (device : Address) (rate : Byte) (flags : Byte)
  /-- LEAVE (R11). -/
  | leave (radio : RadioIx) (sequence : Byte) (station : Half)
  /-- RATE (R12). -/
  | rate (radio : RadioIx) (sequence : Byte) (station : Half) (rate : Byte)
  /-- CLAIM (R94, R95). -/
  | claim (radio : RadioIx) (sequence : Byte) (station : Half) (pass : Word) (code : Half)
  /-- SUBSCRIBE (R118). -/
  | subscribe (radio : RadioIx) (sequence : Byte) (station : Half) (channel : Byte)
  /-- UNSUBSCRIBE (R119). -/
  | unsubscribe (radio : RadioIx) (sequence : Byte) (station : Half) (channel : Byte)
  /-- RELEASED (R49). -/
  | released (radio : RadioIx) (sequence : Byte) (station : Half) (device : Address) (undelivered : Half)
  /-- KEEPALIVE (R26); bit 0 of `flags` is the alert flag. -/
  | keepalive (radio : RadioIx) (sequence : Byte) (flags : Byte)
  /-- CORRUPT_CONTROL_MESSAGE (R32, R177): the bytes as received. -/
  | corruptControlMessage (radio : RadioIx) (bytes : List Byte)
  /-- MALFORMED_CONTROL_MESSAGE (R34, R177): the bytes as received. -/
  | malformedControlMessage (radio : RadioIx) (bytes : List Byte)
  /-- DOWNLINK_FAN_FRAME (R19). -/
  | downlinkFanFrame (frame : FanFrame)
  /-- UPLINK_FAN_FRAME (R21). -/
  | uplinkFanFrame (radio : RadioIx) (frame : FanFrame)
  /-- TRANSMIT_COMPLETE (R20). -/
  | transmitComplete (radio : RadioIx)
  /-- REPLAY_PACKET (R125, R178): the body of an EtherType 0x88B7 frame, and whether it passes the trunk frame check. -/
  | replayPacket (frameCheck : Bool) (body : List Byte)
  /-- GROUP_DECISION (R129 to R134): of the packets offered to this group and not yet decided, oldest first, number `which`. -/
  | groupDecision (radio : RadioIx) (channel : ChannelIx) (which : Nat)
  /-- EXPIRY_SWEEP_VISIT (R88). -/
  | expirySweepVisit
  /-- ZONE_SWEEP_VISIT (R108). -/
  | zoneSweepVisit
  /-- SPI_WRITE_REQUEST (R176): the bytes after command 0x01. -/
  | spiWriteRequest (bytes : List Byte)
  /-- SPI_READ_RESPONSE (R176): how many bytes the board processor clocks out after command 0x02. -/
  | spiReadResponse (clocked : Nat)
  /-- SPI_OTHER_COMMAND (R176): the command byte and the bytes after it. -/
  | spiOtherCommand (command : Byte) (bytes : List Byte)
  /-- TRUNK_CONTROL_FRAME (R161, R176): the body of an EtherType 0x88B6 frame. -/
  | trunkControlFrame (frameCheck : Bool) (source : Address) (body : List Byte)
  /-- UNKNOWN_REQUEST_KIND (R157). -/
  | unknownRequestKind (lane : LaneIx)
  /-- RADIO_PROFILE_SET (R41). -/
  | radioProfileSet (lane : LaneIx)
  /-- SEAT_MAP_WRITE (R104). -/
  | seatMapWrite (lane : LaneIx)
  /-- LINK_RESTART (R43). -/
  | linkRestart (lane : LaneIx)
  /-- LINK_FAULT_ARM (R39). -/
  | linkFaultArm (lane : LaneIx)
  /-- STATION_EJECT (R18). -/
  | stationEject (lane : LaneIx)
  /-- PHASE_SET (R149). -/
  | phaseSet (lane : LaneIx)
  /-- SECTOR_SET (R148). -/
  | sectorSet (lane : LaneIx)
  /-- MATCH_CLEAR (R150). -/
  | matchClear (lane : LaneIx)
  /-- COUNTERS_CLEAR (R164). -/
  | countersClear (lane : LaneIx)
  /-- PASS_LOAD (R75, R76). -/
  | passLoad (lane : LaneIx)
  /-- PASS_AMEND (R78, R79). -/
  | passAmend (lane : LaneIx)
  /-- PASS_REVOKE (R81). -/
  | passRevoke (lane : LaneIx)
  /-- PASS_REMOVE (R82). -/
  | passRemove (lane : LaneIx)
  /-- PASS_UNLOCK (R85). -/
  | passUnlock (lane : LaneIx)
  /-- CHANNEL_OPEN (R112, R113). -/
  | channelOpen (lane : LaneIx)
  /-- CHANNEL_CLOSE (R114). -/
  | channelClose (lane : LaneIx)
  /-- NOTICE_LEVELS_SET (R169). -/
  | noticeLevelsSet (lane : LaneIx)
  /-- NOTICE_MASK_SET (R173). -/
  | noticeMaskSet (lane : LaneIx)
  /-- NOTICE_ACCEPT (R171). -/
  | noticeAccept (lane : LaneIx)
  /-- NOTICE_RETURN (R172). -/
  | noticeReturn (lane : LaneIx)
  /-- NOTICE_CLEAR (R170). -/
  | noticeClear (lane : LaneIx)
  /-- STATION_READ (R22). -/
  | stationRead (lane : LaneIx)
  /-- PASS_READ (R91). -/
  | passRead (lane : LaneIx)
  /-- RADIO_READ (R44). -/
  | radioRead (lane : LaneIx)
  /-- GROUP_READ (R127). -/
  | groupRead (lane : LaneIx)
  /-- SEAT_MAP_READ (R105). -/
  | seatMapRead (lane : LaneIx)
  /-- COUNTERS_READ (R164). -/
  | countersRead (lane : LaneIx)
  /-- SECTOR_READ (R153). -/
  | sectorRead (lane : LaneIx)
  /-- RIGHTS_SET (R159). -/
  | rightsSet (lane : LaneIx)
  /-- SECTOR_TIME_TICK (R144). -/
  | sectorTimeTick
  deriving DecidableEq, Repr

end Sys2Proof
end

