-- ==== Sys2Proof/Decode.lean ====
section
/-! DEFINITION. The command that a word of spec/opcode_table.json spells. No row of the table gives any bits ("fields" is empty in
all 62), so no word spells a command. The bytes that radio heads and masters send are read in Machine/Received.lean and
Machine/Lanes.lean. -/

namespace Sys2Proof

/-- The command that the table's bits of `w` spell: none, because the table gives no row any bits. -/
def decodeTableWord (_nbits _w : Nat) : Option Instr := none

end Sys2Proof
end

