-- ==== Sys2Proof/Machine/Bytes.lean ====
section
/-! DEFINITION. Byte order, the CRC of a control message and the shape of a received control message (R175, R177; section 11.3). -/

namespace Sys2Proof.Machine

/-- A 16-bit value as two bytes, most significant first (R175). -/
def be16 (n : Nat) : List Byte := [BitVec.ofNat 8 (n / 256), BitVec.ofNat 8 n]

/-- A 32-bit value as four bytes, most significant first (R175). -/
def be32 (n : Nat) : List Byte := be16 (n / 65536) ++ be16 n

/-- A 48-bit device address as six bytes, most significant first (R175). -/
def be48 (a : Address) : List Byte := be16 (a.toNat / 4294967296) ++ be32 a.toNat

/-- One byte that holds a small number (R175). -/
def byteOf (n : Nat) : Byte := BitVec.ofNat 8 n

/-- A flag, attribute or presence byte: 1 where it is set, 0 otherwise (R175). -/
def flagByte (b : Bool) : Byte := if b then 1#8 else 0#8

/-- The number that a list of bytes holds, most significant byte first (R175). -/
def unsigned : List Byte → Nat := List.foldl (fun n b => n * 256 + b.toNat) 0

/-- One bit of the division by x^16 + x^12 + x^5 + 1 (R177). -/
def crcBit (c : Half) : Half := if c.msb then (c <<< 1) ^^^ 0x1021#16 else c <<< 1

/-- The CRC after one more byte, its most significant bit first (R177). -/
def crcByte (c : Half) (b : Byte) : Half :=
  crcBit (crcBit (crcBit (crcBit (crcBit (crcBit (crcBit (crcBit (c ^^^ (b.zeroExtend 16 <<< 8)))))))))

/-- The CRC of a control message's bytes: it starts from 0xFFFF and is not inverted at the end (R177). -/
def crc16 (bytes : List Byte) : Half := bytes.foldl crcByte 0xFFFF#16

/-- A message's bytes with their CRC in the last two bytes (R177). -/
def withCrc (bytes : List Byte) : List Byte := bytes ++ be16 (crc16 bytes).toNat

/-- A received message fails the CRC check of R32: it has fewer than 7 bytes, or its last two bytes are not the CRC computed over
its own bytes (R177). -/
def crcFails (bytes : List Byte) : Bool :=
  bytes.length < 7 || unsigned (bytes.drop (bytes.length - 2)) != (crc16 (bytes.take (bytes.length - 2))).toNat

/-- The payload length of each of the nine kinds that a radio head sends (section 11.3). -/
def payloadLength (kind : Byte) : Option Nat :=
  match kind.toNat with
  | 1 => some 7
  | 2 => some 8
  | 3 => some 0
  | 4 => some 1
  | 5 => some 6
  | 6 => some 1
  | 7 => some 1
  | 8 => some 8
  | 9 => some 1
  | _ => none

/-- The kind and length check of R34 and R177: the kind is one of 0x01 to 0x09, P is the value the table gives for it, and the
message has 7 + P bytes. -/
def shapeFails (bytes : List Byte) : Bool :=
  match bytes with
  | kind :: _ :: _ :: _ :: p :: _ => payloadLength kind != some p.toNat || bytes.length != 7 + p.toNat
  | _ => true

end Sys2Proof.Machine
end

