-- ==== Sys2Proof/Config.lean ====
section
/-! DEFINITION. The fixed quantities of the device (00_scope.md, "Fixed quantities"), and the free values: what the manual leaves
open, as constants without a body, so that no proof can see what they are. -/

namespace Sys2Proof.Config

/-- Station contexts in the station table (R1). -/
def stationContexts : Nat := 4096
/-- Slots of the pass table (R70). -/
def passSlots : Nat := 8192
/-- Entries of the seat map (R103). -/
def seatBlocks : Nat := 1024
/-- Frame buffers of the hold pool (R64). -/
def holdPool : Nat := 2048
/-- Frames a radio transmit queue holds at most (R20). -/
def transmitQueue : Nat := 64
/-- Requests a lane's queue holds at most (R154). -/
def laneQueue : Nat := 8
/-- Responses lane 0's list holds at most (R160). -/
def responseList : Nat := 8
/-- Subscriptions a station holds at most (R115). -/
def subscriptionLimit : Nat := 4
/-- Stations bound to one pass at most (R92). -/
def boundLimit : Nat := 2
/-- Mismatches that lock a pass (R84). -/
def lockoutAt : Nat := 3
/-- The unicast fan-out limit (R131). -/
def fanOutLimit : Nat := 8
/-- The per-copy overhead of a unicast transmission, in microseconds (R130). -/
def unicastOverhead : Nat := 60
/-- The overhead of a multicast transmission, in microseconds (R130). -/
def multicastOverhead : Nat := 36
/-- The period of the keepalive sample timer, in milliseconds (R146). -/
def samplePeriod : Nat := 100
/-- The value at which a counter stays (R164). -/
def counterMax : Nat := 4294967295
/-- The device version that SECTOR_READ reports (R153). -/
def deviceVersion : Half := 0x5A01#16
/-- The parameter block of the longest request a master may frame (section 11.2). -/
def parameterLimit : Nat := 240
/-- The Ethernet broadcast address, to which a lane that has learnt no master sends (R176). -/
def broadcast : Address := 0xFFFFFFFFFFFF#48

/-- FREE VALUE (log entry 8). Which of the 65,535 wrong CRCs an injected CORRUPT_CRC gives a message (R40: "a CRC that is wrong
for its contents"): the n-th draw's difference from the right CRC, less one. Nothing constrains it. -/
opaque crcDamage : Nat → Fin 65535

/-- FREE VALUE (log entry 9). The rank by which one event treats a station among the several it concerns, where the rule gives no
order (R15, R29, R37, R60 to R62): the n-th draw's rank of each station index. Nothing constrains it. -/
opaque stationRank : Nat → Nat → Nat

end Sys2Proof.Config
end

