-- ==== Sys2Proof/Machine/Table.lean ====
section
/-! DEFINITION. A sparse table: the entries that are present, by key, with strictly rising keys. It holds the station contexts that
are not FREE (R1), the address map (R3), the occupied pass slots (R70), the pass map (R71), the mapped seat blocks (R103), the
replay groups (R116) and the counters that are not 0 (R164). An absent key is the table's empty value, so that two tables that say
the same are the same list. -/

namespace Sys2Proof.Machine

/-- Present entries by key; in canonical form the keys strictly rise (`Table.wf`). -/
abbrev Table (α : Type) := List (Nat × α)

/-- The keys strictly rise: the canonical form. -/
def Table.wf {α : Type} : Table α → Bool
  | [] => true
  | [_] => true
  | (k, _) :: (k', v') :: rest => k < k' && Table.wf ((k', v') :: rest)

/-- The entry under a key. -/
def Table.find {α : Type} (t : Table α) (k : Nat) : Option α :=
  match t with
  | [] => none
  | (k', v) :: rest => if k' = k then some v else Table.find rest k

/-- The table with the entry `v` under `k`, replacing any earlier one. -/
def Table.put {α : Type} (t : Table α) (k : Nat) (v : α) : Table α :=
  match t with
  | [] => [(k, v)]
  | (k', v') :: rest =>
    if k < k' then (k, v) :: (k', v') :: rest
    else if k = k' then (k, v) :: rest
    else (k', v') :: Table.put rest k v

/-- The table without an entry under `k`. -/
def Table.drop {α : Type} (t : Table α) (k : Nat) : Table α :=
  t.filter fun e => e.1 != k

/-- The lowest key from `i` on that has no entry, looking at `fuel` keys. -/
def Table.lowestFreeFrom {α : Type} (t : Table α) (fuel i : Nat) : Option Nat :=
  match fuel with
  | 0 => none
  | fuel + 1 => if (Table.find t i).isNone then some i else Table.lowestFreeFrom t fuel (i + 1)

/-- The lowest key below `size` that has no entry: the lowest FREE context (R6), the lowest free slot (R76). -/
def Table.lowestFree {α : Type} (t : Table α) (size : Nat) : Option Nat := Table.lowestFreeFrom t size 0

end Sys2Proof.Machine
end

