-- ==== Sys2Proof/Machine/Counters.lean ====
section
/-! DEFINITION. The name of every counter of the device, in the order in which the counter table of the owning chapter lists them
(R164, section 11.5), and the key under which State holds each. -/

namespace Sys2Proof.Machine

/-- The station table's counters: section 1.11, then section 3.9. -/
inductive StationCounter where
  | allocated | readmits | tableFullRefusals | radioFullRefusals | strays | leaves | freed | orphaned | evicted | restored | ejected
  | downlinkForwarded | downlinkHeld | downlinkUnknown | downlinkOrphan | downlinkTransmitFull | uplinkDrops
  | roamsReceived | deferrals | handoffsBegun | lateReleases | handoffsCompleted | completionsByRelease | completionsByLeave
  | undeliveredFrames | forcedCompletions | supersedes | returnsCompleted | abandonmentsToOrphan | abandonmentsToOld
  | holdPoolDrops | holdOverwriteDrops | holdShrinkDrops | flushDrops | holdDiscards
  deriving DecidableEq, Repr

/-- A seat link's counters (R44). -/
inductive LinkCounter where
  | carrierAppears | carrierLosses | keepalivesReceived | headAlerts | linkUpEntries | linkDownExits | crcErrors | sequenceGaps
  | malformedMessages | notUpIgnored | messagesReceived | messagesSent | suppressedMessages | responseErrors | faultInjections
  | restarts | transmitDiscards
  deriving DecidableEq, Repr

/-- The pass table's counters (section 4.9). -/
inductive PassCounter where
  | loaded | loadedExpired | loadRefusals | amends | directExpiries | revocations | removals | mismatches | lockouts | unlocks
  | sweepsStarted | sweepRestarts | sweepExpiries | sweepsCompleted
  deriving DecidableEq, Repr

/-- The admission block's counters (section 5.6). -/
inductive AdmissionCounter where
  | claimsReceived | refusedNotHere | refusedUnknown | refusedRevoked | refusedExpired | refusedLocked | refusedNotYet | refusedInUse
  | reconfirmed | bound | rebound | unbindings | reloads | seatMapWrites | sweepsStarted | sweepRestarts | zoneChanges
  | sweepsCompleted
  deriving DecidableEq, Repr

/-- The replay block's counters that are kept for the whole block (section 6.10). -/
inductive ReplayCounter where
  | opens | closes | added | confirmed | answeredLimit | answeredDenied | answeredNotHere | unsubscribed | unsubscribedEmpty | pruned
  | groupsCreated | groupsDiscarded | migrations | rejoins | malformedPackets | closedDrops
  deriving DecidableEq, Repr

/-- The replay block's counters that are kept for each channel (section 6.10). -/
inductive ChannelCounter where
  | packetsReceived | stalePackets | sequenceGaps | gapDeltaDrops
  deriving DecidableEq, Repr

/-- A radio's counters in the airtime block (section 7.5). -/
inductive AirtimeCounter where
  | deltasSkipped | emptyRecipients | queueOverflowDrops | budgetDrops | keyBorrows | airtimeCharged | unicastSends | multicastSends
  | copiesEnqueued | refillOverflow
  deriving DecidableEq, Repr

/-- The sector clock and phase block's counters (section 8.8). -/
inductive SectorCounter where
  | settingsApplied | phaseAdvances | orderRefusals | matchClears
  deriving DecidableEq, Repr

/-- A lane's counters (R164); the last three are lane 0's lost responses and short writes and lanes 1 to 3's notices raised. -/
inductive LaneCounter where
  | requestsReceived | queueFull | badKind | denied | responsesSent | rightsChanges | lostResponses | shortWrites | noticesRaised
  deriving DecidableEq, Repr

/-- The trunk's counters (R161, R164). -/
inductive TrunkCounter where
  | badFrames | misaddressedFrames
  deriving DecidableEq, Repr

/-- Every counter of the device, under its own name (R164). -/
inductive Counter where
  | station (c : StationCounter)
  | link (radio : RadioIx) (c : LinkCounter)
  | pass (c : PassCounter)
  | admission (c : AdmissionCounter)
  | replay (c : ReplayCounter)
  | channel (channel : ChannelIx) (c : ChannelCounter)
  | airtime (radio : RadioIx) (c : AirtimeCounter)
  | sector (c : SectorCounter)
  | lane (lane : LaneIx) (c : LaneCounter)
  | trunk (c : TrunkCounter)
  deriving DecidableEq, Repr

/-- The key under which State holds a counter: the block's number, then the radio, channel or lane, then the position in the
block's table. -/
def Counter.key : Counter → Nat
  | .station c => c.ctorIdx
  | .link r c => 4096 + r.val * 64 + c.ctorIdx
  | .pass c => 64 + c.ctorIdx
  | .admission c => 128 + c.ctorIdx
  | .replay c => 192 + c.ctorIdx
  | .channel h c => 256 + h.val * 64 + c.ctorIdx
  | .airtime r c => 8192 + r.val * 64 + c.ctorIdx
  | .sector c => 1280 + c.ctorIdx
  | .lane l c => 1344 + l.val * 64 + c.ctorIdx
  | .trunk c => 1600 + c.ctorIdx

end Sys2Proof.Machine
end

