-- ==== Sys2Proof/Machine/State.lean ====
section
/-! DEFINITION. The state of the device as plain data, block by block, with the rule of spec/ that names each piece, the state after
power-on reset, and the reasons a step can stop. -/

namespace Sys2Proof.Machine

/-! ### Seat links (chapter 2) -/

/-- Link state (R24). -/
inductive LinkState where
  | absent | detected | up | down
  deriving DecidableEq, Repr

/-- The kind of a link's running samples (R24, R27). -/
inductive SampleKind where
  | none | good | miss
  deriving DecidableEq, Repr

/-- What an armed fault does to a message (R39, R40). -/
inductive FaultKind where
  | corruptCrc | skipSequence | dropMessage
  deriving DecidableEq, Repr

/-- A fault arm: the kind, the position 1 to 8, and the messages counted since the arm (R24, R39). -/
structure FaultArm where
  kind : FaultKind
  position : Nat
  count : Nat
  deriving DecidableEq, Repr

/-- Which event sets "link detected" (R31). -/
inductive DetectMode where
  | onCarrier | onUp
  deriving DecidableEq, Repr

/-- A radio profile (R41); refill, cap and bias are in microseconds. -/
structure Profile where
  stationLimit : Nat
  refill : Nat
  cap : Nat
  bias : Nat
  detect : DetectMode
  strict : Bool
  deriving DecidableEq, Repr

/-- The default profile (R41). -/
def Profile.default : Profile :=
  { stationLimit := 96, refill := 3000, cap := 6000, bias := 100, detect := .onCarrier, strict := false }

/-- The class of a replay packet (section 6.8, section 11.4). -/
inductive ReplayClass where
  | key | delta
  deriving DecidableEq, Repr

/-- A replay packet that has passed the form check; its length L is the length of its contents (R178). -/
structure Packet where
  channel : ChannelIx
  cls : ReplayClass
  sequence : Half
  contents : List Byte
  deriving DecidableEq, Repr

/-- An entry of a radio transmit queue: a fan frame, or a replay copy addressed to one station or to a group (R20, R134, R178). -/
inductive TxEntry where
  | fan (frame : FanFrame)
  | unicast (station : Nat) (device : Address) (rate : RateClass) (packet : Packet)
  | multicast (group : Address) (rate : RateClass) (packet : Packet)
  deriving DecidableEq, Repr

/-- A seat link record (R24), with the carrier that RADIO_READ reports (R44). -/
structure SeatLink where
  state : LinkState
  carrier : Bool
  sample : SampleKind
  filter : Nat
  keepaliveSeen : Bool
  alertSeen : Bool
  awaitingFirstUp : Bool
  rxSequence : Byte
  txSequence : Byte
  arm : Option FaultArm
  profile : Profile
  queue : List TxEntry
  deriving DecidableEq, Repr

/-- A seat link record after power-on reset, with or without carrier (R24, R152). -/
def SeatLink.powerOn (carrier : Bool) : SeatLink :=
  { state := if carrier then .detected else .absent, carrier := carrier, sample := .none, filter := 0, keepaliveSeen := false,
    alertSeen := false, awaitingFirstUp := carrier, rxSequence := 0, txSequence := 0, arm := none, profile := Profile.default,
    queue := [] }

/-! ### Station contexts (chapters 1 and 3) -/

/-- Tier (R1); a pass's tier is never GUEST (R70). -/
inductive Tier where
  | guest | general | club | suite
  deriving DecidableEq, Repr

/-- The pair of prior radio and guard deadline, present together or not at all (R1, R54). -/
structure Prior where
  radio : RadioIx
  deadline : Word
  deriving DecidableEq, Repr

/-- The state of a context that is not FREE, with the fields that are present in it (R1): the current radio; in HANDOFF the target,
the deadline and the hold queue; after a completed handoff the prior pair; in ORPHAN the orphan deadline. -/
inductive Place where
  | associated (radio : RadioIx) (prior : Option Prior)
  | handoff (radio target : RadioIx) (deadline : Word) (prior : Option Prior) (held : List FanFrame)
  | orphan (radio : RadioIx) (deadline : Word)
  deriving DecidableEq, Repr

/-- A binding (R92); the zone set is listed in ascending radio order. -/
structure Binding where
  slot : Nat
  tier : Tier
  mask : BitVec 16
  zone : List RadioIx
  deriving DecidableEq, Repr

/-- A subscription entry (R115). -/
structure Subscription where
  channel : ChannelIx
  awaitingKey : Bool
  paused : Bool
  deriving DecidableEq, Repr

/-- A station context that is not FREE (R1). -/
structure Station where
  device : Address
  place : Place
  rate : RateClass
  tier : Tier
  binding : Option Binding
  subs : List Subscription
  deriving DecidableEq, Repr

/-! ### Passes and sweeps (chapters 4 and 5) -/

/-- Match phase (R149). -/
inductive Phase where
  | pregame | firstHalf | halftime | secondHalf | extraTime | postgame | closed
  deriving DecidableEq, Repr

/-- Pass state (R70). -/
inductive PassState where
  | active | locked | revoked | expired
  deriving DecidableEq, Repr

/-- A pass record (R70). -/
structure Pass where
  number : Word
  code : Half
  tier : Tier
  home : Nat
  width : Nat
  mask : BitVec 16
  validFrom : Phase
  validUntil : Phase
  state : PassState
  bound : List Nat
  mismatches : Nat
  deriving DecidableEq, Repr

/-- The two pieces of state of a sweep (R86, R106). -/
structure Sweep where
  running : Bool
  cursor : Nat
  deriving DecidableEq, Repr

/-- A sweep that is not running; its cursor reads 0 (R86, R106). -/
def Sweep.stopped : Sweep := { running := false, cursor := 0 }

/-! ### Replay (chapter 6) -/

/-- Channel state (R111). -/
inductive ChannelState where
  | closed | live
  deriving DecidableEq, Repr

/-- A channel record (R111); `openAll` is the OPEN attribute. -/
structure Channel where
  state : ChannelState
  openAll : Bool
  seatLocked : Bool
  expected : Option Half
  deriving DecidableEq, Repr

/-- A CLOSED channel: attributes clear, expected sequence unset (R111). -/
def Channel.closed : Channel := { state := .closed, openAll := false, seatLocked := false, expected := none }

/-- Delivery state of a replay group (R116). -/
inductive Delivery where
  | skipToKey | inStep
  deriving DecidableEq, Repr

/-- A replay group: its members in the order they were appended, and its delivery state (R116). -/
structure Group where
  members : List Nat
  delivery : Delivery
  deriving DecidableEq, Repr

/-- A packet offered to a group, whose decision is not yet taken (R126). -/
structure Offer where
  radio : RadioIx
  channel : ChannelIx
  packet : Packet
  deriving DecidableEq, Repr

/-! ### Sector settings (chapter 8) -/

/-- The four sector settings (R148): milliseconds, but the orphan hold in seconds. -/
structure Settings where
  handoffTimeout : Nat
  returnGuard : Nat
  orphanHold : Nat
  budgetPeriod : Nat
  deriving DecidableEq, Repr

/-- The default settings (R148). -/
def Settings.default : Settings := { handoffTimeout := 40, returnGuard := 2000, orphanHold := 30, budgetPeriod := 10 }

/-! ### Lanes and notices (chapters 9 and 10) -/

/-- A request record (section 11.2). -/
structure Request where
  kind : Byte
  tag : Byte
  params : List Byte
  deriving DecidableEq, Repr

/-- The outcome codes, in the order of the table of R157. -/
inductive Answer where
  | done | denied | queueFull | badKind | badArg | notFound | duplicate | tableFull | order | conflict | nothingPending | nothingSaved
  deriving DecidableEq, Repr

/-- A response record (section 11.2). -/
structure Response where
  kind : Byte
  tag : Byte
  answer : Answer
  block : List Byte
  deriving DecidableEq, Repr

/-- A set of request classes; bit 0 RADIO, then PASS, REPLAY, NOTICE, INSPECT, and bit 5 CONFIG (R175). -/
abbrev Rights := BitVec 6

/-- A lane (R154, R176). The armed flag and the learnt master address belong to lanes 1 to 3; lane 0's stay as reset leaves them. -/
structure Lane where
  queue : List Request
  rights : Rights
  armed : Bool
  master : Option Address
  deriving DecidableEq, Repr

/-- A lane after power-on reset with its power-on grant (R154, R158). -/
def Lane.powerOn (rights : Rights) : Lane := { queue := [], rights := rights, armed := true, master := none }

/-- A notice level, 0 to 7 (R167). -/
abbrev Level := Fin 8

/-- A notice group, 0 to 7 (R165). -/
abbrev NoticeGroup := Fin 8

/-- One master's notice state (R167). The set of a group's sources has bit n for source n; `saved` has the top of the stack first. -/
structure Notice where
  status : Vector (BitVec 4) 8
  enables : Vector (BitVec 4) 8
  levels : Vector Level 8
  mask : Level
  saved : List Level
  lineUp : Bool
  deriving DecidableEq, Repr

/-- A master's notice state after power-on reset (R167). -/
def Notice.powerOn : Notice :=
  { status := Vector.replicate 8 0#4, enables := Vector.replicate 8 0#4, levels := Vector.replicate 8 0, mask := 0, saved := [],
    lineUp := false }

/-! ### Outputs, and the whole state -/

/-- What the device puts on its wires: a control message or a frame on a seat link, an uplink frame or a control frame on the trunk,
bytes on the SPI port. -/
inductive Output where
  | control (radio : RadioIx) (bytes : List Byte)
  | radioFrame (radio : RadioIx) (entry : TxEntry)
  | uplink (frame : FanFrame)
  | trunkFrame (destination : Address) (body : List Byte)
  | spi (bytes : List Byte)
  deriving DecidableEq, Repr

/-- The state of the device. -/
structure State where
  /-- Station contexts that are not FREE, by station index (R1). -/
  stations : Table Station
  /-- The address map: station index by device address (R3). -/
  addressMap : Table Nat
  /-- Station count of each radio (R4). -/
  stationCount : Vector Nat 64
  /-- Free buffers of the hold pool (R64). -/
  holdFree : Nat
  /-- Seat link records (R24). -/
  links : Vector SeatLink 64
  /-- Occupied pass slots, by slot index (R70). -/
  passes : Table Pass
  /-- The pass map: slot index by pass number (R71). -/
  passMap : Table Nat
  /-- The expiry sweep (R86). -/
  expirySweep : Sweep
  /-- Seat-map entries that are not UNMAPPED, by seat block (R103). -/
  seatMap : Table RadioIx
  /-- The zone sweep (R106). -/
  zoneSweep : Sweep
  /-- Channel records (R111). -/
  channels : Vector Channel 16
  /-- Replay groups, by radio and channel (R116; `groupKey`). -/
  groups : Table Group
  /-- Offered packets whose group decision is not yet taken, oldest first (R126). -/
  offers : List Offer
  /-- Replay credit of each radio, in microseconds (R135). -/
  credit : Vector Int 64
  /-- Refills that the budget period timer has brought to each radio and that are not yet taken (R136, R147). -/
  refillsDue : Vector Nat 64
  /-- Sector time (R144). -/
  sectorTime : Word
  /-- Sector settings (R148). -/
  settings : Settings
  /-- The budget period timer's period in force (R147). -/
  periodInForce : Nat
  /-- The budget period timer's next expiry (R147). -/
  nextExpiry : Word
  /-- The keepalive sample timer's position within its period (R146). -/
  samplePosition : Nat
  /-- Sample expiries brought to each link and not yet taken (R27, R146). -/
  samplesDue : Vector Nat 64
  /-- Match phase (R149). -/
  phase : Phase
  /-- The four lanes (R154). -/
  lanes : Vector Lane 4
  /-- Lane 0's response list, oldest first (R160). -/
  responses : List Response
  /-- Each master's notice state (R167). -/
  notices : Vector Notice 4
  /-- The RESET pin holds the device in reset (R152). -/
  inReset : Bool
  /-- Every counter that is not 0, by `Counter.key` (R164). -/
  counters : Table Nat
  /-- The model's own: everything the device has put on its wires, in order (log entry 7). -/
  wire : List Output
  /-- The model's own: how many free values of Config have been drawn (log entry 8). -/
  draws : Nat
  /-- The model's own: the commands that wait, first in, first out (log entry 1). -/
  pending : List Instr
  deriving DecidableEq, Repr

/-- The rights table's power-on grant (R158). -/
def powerOnLanes : Vector Lane 4 :=
  #v[Lane.powerOn 0b111111#6, Lane.powerOn 0b011001#6, Lane.powerOn 0b011010#6, Lane.powerOn 0b011100#6]

/-- The device as it leaves power-on reset, with carrier on the seat links whose bit is set (R152 and the reset statements of every
chapter). -/
def State.powerOn (carrier : BitVec 64) : State :=
  { stations := [], addressMap := [], stationCount := Vector.replicate 64 0, holdFree := Config.holdPool,
    links := Vector.ofFn fun r : Fin 64 => SeatLink.powerOn (carrier.getLsbD r.val),
    passes := [], passMap := [], expirySweep := Sweep.stopped, seatMap := [], zoneSweep := Sweep.stopped,
    channels := Vector.replicate 16 Channel.closed, groups := [], offers := [],
    credit := Vector.replicate 64 3000, refillsDue := Vector.replicate 64 0,
    sectorTime := 0, settings := Settings.default, periodInForce := 10, nextExpiry := 10, samplePosition := 0,
    samplesDue := Vector.replicate 64 0, phase := .pregame, lanes := powerOnLanes, responses := [],
    notices := Vector.replicate 4 Notice.powerOn, inReset := false, counters := [], wire := [], draws := 0, pending := [] }

/-- The machine right after reset. Carrier is an input: no link has it here (log entry 6). -/
def State.reset : State := State.powerOn 0#64

/-! ### Reasons to stop -/

/-- No event of the device stops it: the manual names no fault of the machine, and every error is answered, counted or noticed. The
type has no constructor. -/
inductive Fault : Type
  deriving DecidableEq, Repr

/-- Why the model gives a command no meaning. -/
inductive Refusal where
  /-- Raised by `exec`'s arm alone, for a row of the opcode table that has no meaning yet; safe, since nothing can then be proved of
  it. No arm raises it: every row has its meaning. -/
  | notModelled (mnemonic : String)
  deriving DecidableEq, Repr

end Sys2Proof.Machine
end

