-- ==== Sys2Proof/Machine/Flags.lean ====
section
/-! DEFINITION. Every flag and condition the spec computes from the state: deadlines passed (R145), hold depth (R102), phases and
windows (R73), permission and the paused and awaiting-key flags (R115, R117), pending and eligible notice groups (R168). -/

namespace Sys2Proof.Machine

/-! ### Deadlines (R145) -/

/-- A deadline is passed at sector time `now` when (now - deadline) modulo 2^32 is less than 2^31. -/
def passed (deadline now : Word) : Bool := (now - deadline).toNat < 2147483648

/-- The time remaining to a deadline that is ahead, modulo 2^32; 0 for one that is passed. -/
def remaining (deadline now : Word) : Nat := if passed deadline now then 0 else (deadline - now).toNat

/-- A deadline an interval of milliseconds after `now`, modulo 2^32. -/
def deadlineAfter (now : Word) (interval : Nat) : Word := now + BitVec.ofNat 32 interval

/-! ### Tiers, phases and windows -/

/-- The hold depth of a tier: GUEST 8, GENERAL 16, CLUB 24, SUITE 32 frames (R1, R102). -/
def Tier.holdDepth : Tier → Nat
  | .guest => 8
  | .general => 16
  | .club => 24
  | .suite => 32

/-- The value of a match phase, 0 to 6 (R149). -/
def Phase.value : Phase → Nat
  | .pregame => 0
  | .firstHalf => 1
  | .halftime => 2
  | .secondHalf => 3
  | .extraTime => 4
  | .postgame => 5
  | .closed => 6

/-- The match phase of a value (R149). -/
def Phase.ofValue : Nat → Option Phase
  | 0 => some .pregame
  | 1 => some .firstHalf
  | 2 => some .halftime
  | 3 => some .secondHalf
  | 4 => some .extraTime
  | 5 => some .postgame
  | 6 => some .closed
  | _ => none

/-- A pass has begun when its valid from is at or before the phase (R73). -/
def Pass.begun (p : Pass) (now : Phase) : Bool := p.validFrom.value ≤ now.value

/-- A pass's window has ended when its valid until is earlier than the phase (R73). -/
def Pass.ended (p : Pass) (now : Phase) : Bool := p.validUntil.value < now.value

/-- A pass is ACTIVE or LOCKED. -/
def Pass.inForce (p : Pass) : Bool := p.state = .active || p.state = .locked

/-- An ACTIVE or LOCKED pass whose window has ended is overdue (R73). -/
def Pass.overdue (p : Pass) (now : Phase) : Bool := p.inForce && p.ended now

/-! ### Where a station is (R1) -/

/-- The current radio of a context that is not FREE. -/
def Station.current (st : Station) : RadioIx :=
  match st.place with
  | .associated r _ => r
  | .handoff r _ _ _ _ => r
  | .orphan r _ => r

/-- The station is on a radio: ASSOCIATED with it as current radio, or HANDOFF with it as current radio or target (R1). -/
def Station.isOn (st : Station) (r : RadioIx) : Bool :=
  match st.place with
  | .associated o _ => o == r
  | .handoff o n _ _ _ => o == r || n == r
  | .orphan _ _ => false

/-- The radio whose replay groups the station belongs to: its current radio in ASSOCIATED and HANDOFF, none in ORPHAN (R116). -/
def Station.groupRadio (st : Station) : Option RadioIx :=
  match st.place with
  | .associated r _ => some r
  | .handoff r _ _ _ _ => some r
  | .orphan _ _ => none

/-- The frames in the station's hold queue; none outside HANDOFF (R64). -/
def Station.held (st : Station) : List FanFrame :=
  match st.place with
  | .handoff _ _ _ _ held => held
  | _ => []

/-- The prior radio and guard deadline, if present (R1). -/
def Station.prior (st : Station) : Option Prior :=
  match st.place with
  | .associated _ p => p
  | .handoff _ _ _ p _ => p
  | .orphan _ _ => none

/-! ### Permission and the flags of a subscription entry -/

/-- A subscription to a channel is permitted to a station with this binding (R115). -/
def permitted (channels : Vector Channel 16) (binding : Option Binding) (c : ChannelIx) : Bool :=
  channels[c].state = .live &&
    (channels[c].openAll || (match binding with | none => false | some b => b.mask.getLsbD c.val))

/-- The paused flag that the table of R117 gives for a station's entry for channel c. -/
def pausedNow (channels : Vector Channel 16) (st : Station) (c : ChannelIx) : Bool :=
  match st.groupRadio with
  | none => true
  | some r =>
    channels[c].seatLocked && (match st.binding with | none => true | some b => !b.zone.contains r)

/-- An entry after a pause evaluation: the flag of R117, and awaiting key set where the flag goes from set to clear. -/
def reflag (channels : Vector Channel 16) (st : Station) (e : Subscription) : Subscription :=
  { e with paused := pausedNow channels st e.channel,
           awaitingKey := e.awaitingKey || (e.paused && !pausedNow channels st e.channel) }

/-- A station after the pause evaluation of every entry (R117). -/
def Station.reflagged (channels : Vector Channel 16) (st : Station) : Station :=
  { st with subs := st.subs.map (reflag channels st) }

/-- A station's entry for a channel, if it holds one. -/
def Station.entry (st : Station) (c : ChannelIx) : Option Subscription := st.subs.find? fun e => e.channel == c

/-! ### Notices (R165, R168) -/

/-- The 27 notice sources, group by group in the order of the table of R165. -/
inductive Source where
  | linkUp | linkDown | linkDetected | headAlert
  | crcError | sequenceGap | responseError | strayMessage
  | handoffForced | superseded | lateRelease | pingPongDeferral
  | orphanEvicted | stationTableFull | radioFull | holdPoolExhausted
  | claimRefused | lockout | passRevokedWithBoundStations
  | zoneSweepComplete | expirySweepComplete
  | replaySequenceGap | budgetDrop | transmitQueueOverflow | closedChannel
  | denied | laneOverflow
  deriving DecidableEq, Repr

/-- A source's group and its number within the group (R165). -/
def Source.place : Source → NoticeGroup × Nat
  | .linkUp => (0, 0)
  | .linkDown => (0, 1)
  | .linkDetected => (0, 2)
  | .headAlert => (0, 3)
  | .crcError => (1, 0)
  | .sequenceGap => (1, 1)
  | .responseError => (1, 2)
  | .strayMessage => (1, 3)
  | .handoffForced => (2, 0)
  | .superseded => (2, 1)
  | .lateRelease => (2, 2)
  | .pingPongDeferral => (2, 3)
  | .orphanEvicted => (3, 0)
  | .stationTableFull => (3, 1)
  | .radioFull => (3, 2)
  | .holdPoolExhausted => (3, 3)
  | .claimRefused => (4, 0)
  | .lockout => (4, 1)
  | .passRevokedWithBoundStations => (4, 2)
  | .zoneSweepComplete => (5, 0)
  | .expirySweepComplete => (5, 1)
  | .replaySequenceGap => (6, 0)
  | .budgetDrop => (6, 1)
  | .transmitQueueOverflow => (6, 2)
  | .closedChannel => (6, 3)
  | .denied => (7, 0)
  | .laneOverflow => (7, 1)

/-- The source numbers that a group has, as a set (R165). -/
def groupSources (g : NoticeGroup) : BitVec 4 :=
  if g = 4 then 0b0111#4 else if g = 5 ∨ g = 7 then 0b0011#4 else 0b1111#4

/-- The sources of a group that are both set and enabled for a master (R168). -/
def Notice.active (n : Notice) (g : NoticeGroup) : BitVec 4 := n.status[g] &&& n.enables[g]

/-- A group is pending for a master when one of its sources is set and enabled (R168). -/
def Notice.pending (n : Notice) (g : NoticeGroup) : Bool := n.active g != 0#4

/-- A pending group is eligible when its level is above the mask level (R168). -/
def Notice.eligible (n : Notice) (g : NoticeGroup) : Bool := n.pending g && decide (n.mask < n.levels[g])

/-- At least one group is eligible (R168). -/
def Notice.anyEligible (n : Notice) : Bool := (List.finRange 8).any n.eligible

/-- The eligible group that NOTICE_ACCEPT chooses: the highest level, and among several the lowest group number (R171). -/
def Notice.chosen (n : Notice) : Option NoticeGroup :=
  (List.finRange 8).foldl (fun best g =>
    if n.eligible g then
      match best with
      | none => some g
      | some b => if n.levels[b] < n.levels[g] then some g else some b
    else best) none

/-- A source set in a master's status copy (R166). -/
def Notice.raise (src : Source) (n : Notice) : Notice :=
  { n with status := n.status.set src.place.1 (n.status[src.place.1] ||| (1#4 <<< src.place.2)) }

end Sys2Proof.Machine
end

