-- ==== Sys2Proof/Machine/Ops.lean ====
section
/-! DEFINITION. The operations over the state that the meanings share: counters (R164), notice sources and the line evaluation (R162,
R166, R168), control messages to radio heads (R36, R40; section 11.3), replay group membership (R116), and one event. -/

namespace Sys2Proof.Machine

/-! ### Counters (R164) -/

/-- The value of a counter. -/
def State.counter (s : State) (c : Counter) : Nat := (s.counters.find c.key).getD 0

/-- A counter's table after `n` is added to the counter under `k`: it stays at 4,294,967,295, and a counter at 0 is not listed. -/
def tally (t : Table Nat) (k n : Nat) : Table Nat :=
  if min ((t.find k).getD 0 + n) Config.counterMax = 0 then t.drop k
  else t.put k (min ((t.find k).getD 0 + n) Config.counterMax)

/-- An amount added to a sum counter. -/
def State.addTo (s : State) (c : Counter) (n : Nat) : State := { s with counters := tally s.counters c.key n }

/-- One count. -/
def State.count (s : State) (c : Counter) : State := s.addTo c 1

/-- Counters set to 0. -/
def State.zero (s : State) (cs : List Counter) : State :=
  { s with counters := cs.foldl (fun t c => t.drop c.key) s.counters }

/-! ### Field updates -/

/-- A seat link record replaced. -/
def State.setLink (s : State) (r : RadioIx) (l : SeatLink) : State := { s with links := s.links.set r l }

/-- A station context replaced, or allocated. -/
def State.setStation (s : State) (ix : Nat) (st : Station) : State := { s with stations := s.stations.put ix st }

/-- A pass record replaced, or loaded. -/
def State.setPass (s : State) (slot : Nat) (p : Pass) : State := { s with passes := s.passes.put slot p }

/-- A lane replaced. -/
def State.setLane (s : State) (lane : LaneIx) (l : Lane) : State := { s with lanes := s.lanes.set lane l }

/-- A radio's station count raised by one (R4). -/
def State.raiseCount (s : State) (r : RadioIx) : State :=
  { s with stationCount := s.stationCount.set r (s.stationCount[r] + 1) }

/-- A radio's station count lowered by one (R4). -/
def State.lowerCount (s : State) (r : RadioIx) : State :=
  { s with stationCount := s.stationCount.set r (s.stationCount[r] - 1) }

/-- Something put on one of the device's wires. -/
def State.emit (s : State) (o : Output) : State := { s with wire := s.wire ++ [o] }

/-- A radio's link is UP. -/
def State.isUp (s : State) (r : RadioIx) : Bool := s.links[r].state = .up

/-! ### Notice sources and lines -/

/-- An event sets a source's status in all four masters' copies (R166). -/
def State.note (s : State) (src : Source) : State := { s with notices := s.notices.map (Notice.raise src) }

/-- The body of a NOTICE_RAISED frame: lane, body type 2, the sector time of the rise (R162, section 11.2). -/
def noticeRaisedBody (lane : LaneIx) (now : Word) : List Byte := [byteOf lane.val, 2#8] ++ be32 now.toNat

/-- A trunk frame to a lane's master: to its learnt address, or to the broadcast address while it has learnt none (R176). -/
def State.emitTrunk (s : State) (lane : LaneIx) (body : List Byte) : State :=
  s.emit (.trunkFrame (s.lanes[lane].master.getD Config.broadcast) body)

/-- A master's line state becomes up or down: the rise of a trunk lane whose armed flag is set sends one NOTICE_RAISED and clears
the flag, and a fall sets it again; lane 0's pin follows the line state (R162). -/
def State.driveLine (s : State) (lane : LaneIx) (up : Bool) : State :=
  let s := { s with notices := s.notices.set lane { s.notices[lane] with lineUp := up } }
  if lane = 0 then s
  else if up then
    if s.lanes[lane].armed then
      ((s.emitTrunk lane (noticeRaisedBody lane s.sectorTime)).count (.lane lane .noticesRaised)).setLane lane
        { s.lanes[lane] with armed := false }
    else s
  else s.setLane lane { s.lanes[lane] with armed := true }

/-- The line evaluation of one master at an event (R168): made where the event changed that master's notice state, and handed on
where the line state changes. -/
def State.evaluateLine (before : Vector Notice 4) (s : State) (lane : LaneIx) : State :=
  if s.notices[lane] = before[lane] then s
  else if s.notices[lane].anyEligible = s.notices[lane].lineUp then s
  else s.driveLine lane s.notices[lane].anyEligible

/-- The line evaluation of all four masters at the end of an event (R168). -/
def State.settle (s : State) (before : Vector Notice 4) : State :=
  (List.finRange 4).foldl (State.evaluateLine before) s

/-- The NOTICE pin of lane 0: its line state (R162), but low while the device is held in reset (R152). -/
def State.noticePin (s : State) : Bool := !s.inReset && s.notices[(0 : LaneIx)].lineUp

/-- The READY pin of lane 0: high while the response list holds a response (R160), but low while the device is held in reset (R152). -/
def State.readyPin (s : State) : Bool := !s.inReset && !s.responses.isEmpty

/-- One event: its effect, and with it the line evaluation. While the device is held in reset, what arrives is lost and not counted,
and nothing is sent (R152, log entry 40). -/
def event (s : State) (effect : State → State) : Host.Outcome State Fault Refusal :=
  .next (if s.inReset then s else (effect s).settle s.notices)

/-! ### Control messages to a radio head (R36, R40; section 11.3) -/

/-- The reason of a REFUSE. -/
inductive RefuseReason where
  | tableFull | radioFull | superseded
  deriving DecidableEq, Repr

/-- The result code of a PASS_RESULT, in the order of section 11.3. -/
inductive ClaimResult where
  | ok | notHere | unknown | revoked | expired | locked | notYet | mismatch | inUse
  deriving DecidableEq, Repr

/-- The result code of a SUB_RESULT, in the order of section 11.3. -/
inductive SubResult where
  | ok | limit | denied | notHere
  deriving DecidableEq, Repr

/-- The seven control messages that the device sends, with their fields. -/
inductive ControlOut where
  | admission (station : Nat) (device : Address) (rate : RateClass)
  | refuse (station : Option Nat) (device : Address) (reason : RefuseReason)
  | defer (station : Nat) (device : Address) (remaining : Nat)
  | release (station : Nat) (device : Address)
  | drop (station : Nat) (device : Address)
  | passResult (station : Nat) (pass : Word) (result : ClaimResult) (tier : Tier)
  | subResult (station : Nat) (channel : Byte) (result : SubResult)
  deriving DecidableEq, Repr

/-- A message's kind code, 0x81 to 0x87. -/
def ControlOut.kind : ControlOut → Byte
  | .admission .. => 0x81#8
  | .refuse .. => 0x82#8
  | .defer .. => 0x83#8
  | .release .. => 0x84#8
  | .drop .. => 0x85#8
  | .passResult .. => 0x86#8
  | .subResult .. => 0x87#8

/-- A message's station index field; 0xFFFF where it is absent. -/
def ControlOut.stationField : ControlOut → Nat
  | .admission ix .. => ix
  | .refuse ix _ _ => ix.getD 0xFFFF
  | .defer ix .. => ix
  | .release ix _ => ix
  | .drop ix _ => ix
  | .passResult ix .. => ix
  | .subResult ix .. => ix

/-- A message's payload. -/
def ControlOut.payload : ControlOut → List Byte
  | .admission _ a rate => be48 a ++ [byteOf rate.val]
  | .refuse _ a reason => be48 a ++ [byteOf reason.ctorIdx]
  | .defer _ a ms => be48 a ++ be16 ms
  | .release _ a => be48 a
  | .drop _ a => be48 a
  | .passResult _ pass result tier => be32 pass.toNat ++ [byteOf result.ctorIdx, byteOf tier.ctorIdx]
  | .subResult _ channel result => [channel, byteOf result.ctorIdx]

/-- A message's bytes before its CRC, with a sequence number. -/
def ControlOut.header (m : ControlOut) (sequence : Byte) : List Byte :=
  [m.kind, sequence] ++ be16 m.stationField ++ [byteOf m.payload.length] ++ m.payload

/-- A message as the radio head receives it, with a correct CRC. -/
def ControlOut.bytes (m : ControlOut) (sequence : Byte) : List Byte := withCrc (m.header sequence)

/-- A message with the n-th draw's wrong CRC: any value but the right one (log entry 8). -/
def ControlOut.damaged (m : ControlOut) (sequence : Byte) (draw : Nat) : List Byte :=
  m.header sequence ++
    be16 (crc16 (m.header sequence) ^^^ BitVec.ofNat 16 ((Config.crcDamage draw).val + 1)).toNat

/-- The message that an armed fault acts on is sent as R40's table says; `l` is the link without its arm. -/
def State.inject (s : State) (r : RadioIx) (l : SeatLink) (kind : FaultKind) (m : ControlOut) : State :=
  match kind with
  | .corruptCrc =>
    { (s.emit (.control r (m.damaged l.txSequence s.draws))).setLink r { l with txSequence := l.txSequence + 1 } with
      draws := s.draws + 1 }
  | .skipSequence =>
    (s.emit (.control r (m.bytes (l.txSequence + 1)))).setLink r { l with txSequence := l.txSequence + 2 }
  | .dropMessage => s.setLink r { l with txSequence := l.txSequence + 1 }

/-- A message sent whole with the transmit sequence (R36). -/
def State.transmit (s : State) (r : RadioIx) (l : SeatLink) (m : ControlOut) : State :=
  (s.emit (.control r (m.bytes l.txSequence))).setLink r { l with txSequence := l.txSequence + 1 }

/-- A control message produced for a radio: sent by its link with the transmit sequence where the link is UP, changed by an armed
fault whose position it reaches, and suppressed where the link is not UP (R36, R39, R40). -/
def State.send (s : State) (r : RadioIx) (m : ControlOut) : State :=
  let l := s.links[r]
  if l.state = .up then
    match l.arm with
    | none => (s.transmit r l m).count (.link r .messagesSent)
    | some a =>
      if a.count + 1 = a.position then
        ((s.inject r { l with arm := none } a.kind m).count (.link r .faultInjections)).count (.link r .messagesSent)
      else
        (s.transmit r { l with arm := some { a with count := a.count + 1 } } m).count (.link r .messagesSent)
  else s.count (.link r .suppressedMessages)

/-! ### Replay group membership (R116) -/

/-- The key under which State holds the group of a radio and a channel. -/
def groupKey (r : RadioIx) (c : ChannelIx) : Nat := r.val * 16 + c.val

/-- The group of a radio and a channel, if it exists. -/
def State.group (s : State) (r : RadioIx) (c : ChannelIx) : Option Group := s.groups.find (groupKey r c)

/-- A group discarded. The packets offered to it go with it: their decisions find no group (R126). -/
def State.discardGroup (s : State) (r : RadioIx) (c : ChannelIx) : State :=
  { s with groups := s.groups.drop (groupKey r c),
           offers := s.offers.filter fun o => !(o.radio == r && o.channel == c) }.count (.replay .groupsDiscarded)

/-- A station appended to the group of a radio and a channel, which is created in SKIP_TO_KEY if it does not exist. -/
def State.joinGroup (s : State) (r : RadioIx) (c : ChannelIx) (ix : Nat) : State :=
  match s.group r c with
  | none =>
    { s with groups := s.groups.put (groupKey r c) { members := [ix], delivery := .skipToKey } }.count (.replay .groupsCreated)
  | some g => { s with groups := s.groups.put (groupKey r c) { g with members := g.members ++ [ix] } }

/-- A station removed from the group of a radio and a channel; a group left empty is discarded. -/
def State.leaveGroup (s : State) (r : RadioIx) (c : ChannelIx) (ix : Nat) : State :=
  match s.group r c with
  | none => s
  | some g =>
    if g.members.erase ix = [] then s.discardGroup r c
    else { s with groups := s.groups.put (groupKey r c) { g with members := g.members.erase ix } }

/-- A station removed from the groups of a radio for each of these entries. -/
def State.leaveGroups (s : State) (r : Option RadioIx) (entries : List Subscription) (ix : Nat) : State :=
  match r with
  | none => s
  | some r => entries.foldl (fun s e => s.leaveGroup r e.channel ix) s

/-- A station appended to the groups of a radio for each of these entries, in order. -/
def State.joinGroups (s : State) (r : RadioIx) (entries : List Subscription) (ix : Nat) : State :=
  entries.foldl (fun s e => s.joinGroup r e.channel ix) s

/-! ### A free order (log entry 9) -/

/-- Station indices in the free order of the n-th draw. -/
def freeOrder (draw : Nat) (stations : List Nat) : List Nat :=
  stations.insertionSort fun a b => Config.stationRank draw a ≤ Config.stationRank draw b

end Sys2Proof.Machine
end

