-- ==== Sys2Proof/Machine/Operands.lean ====
section
/-! DEFINITION. Every operand form of the records that the device takes: request records and their parameter blocks (sections 11.1 and
11.2), replay packet bodies (section 11.4), and the encodings of the values in them (R175). -/

namespace Sys2Proof.Machine

/-! ### Single values (R175) -/

/-- A radio index byte, 0 to 63. -/
def radioOf (b : Byte) : Option RadioIx := if h : b.toNat < 64 then some ⟨b.toNat, h⟩ else none

/-- A channel byte, 0 to 15. -/
def channelOf (b : Byte) : Option ChannelIx := if h : b.toNat < 16 then some ⟨b.toNat, h⟩ else none

/-- A lane byte, 0 to 3. -/
def laneOf (b : Byte) : Option LaneIx := if h : b.toNat < 4 then some ⟨b.toNat, h⟩ else none

/-- A level or notice group byte, 0 to 7. -/
def levelOf (b : Byte) : Option Level := if h : b.toNat < 8 then some ⟨b.toNat, h⟩ else none

/-- A phase byte, 0 to 6. -/
def phaseOf (b : Byte) : Option Phase := Phase.ofValue b.toNat

/-- A flag, attribute or presence byte: 0 or 1. -/
def flagOf (b : Byte) : Option Bool := if b = 0#8 then some false else if b = 1#8 then some true else none

/-- The tier of a pass: GENERAL 1, CLUB 2, SUITE 3 (R75). -/
def passTierOf (b : Byte) : Option Tier :=
  if b = 1#8 then some .general else if b = 2#8 then some .club else if b = 3#8 then some .suite else none

/-- A detect mode byte: ON_CARRIER 0, ON_UP 1 (R175). -/
def detectOf (b : Byte) : Option DetectMode := if b = 0#8 then some .onCarrier else if b = 1#8 then some .onUp else none

/-- A fault kind byte, by its position in the list of R39. -/
def faultKindOf (b : Byte) : Option FaultKind :=
  if b = 0#8 then some .corruptCrc else if b = 1#8 then some .skipSequence else if b = 2#8 then some .dropMessage else none

/-- A seat-map entry value: a radio index, or all-ones for UNMAPPED; `none` for any other byte (R104, R175). -/
def entryOf (b : Byte) : Option (Option RadioIx) := if b = 0xFF#8 then some none else (radioOf b).map some

/-- A seat-map entry as a byte (R175). -/
def entryByte : Option RadioIx → Byte
  | none => 0xFF#8
  | some r => byteOf r.val

/-- The encoding of a tier, link state, sample kind, phase, ... by its position in the list of its rule (R175). -/
def Tier.byte (t : Tier) : Byte := byteOf t.ctorIdx

/-- A set of request classes in one byte (R175). -/
def rightsByte (c : Rights) : Byte := c.zeroExtend 8

/-- A set of a notice group's source numbers in one byte (R175). -/
def sourcesByte (m : BitVec 4) : Byte := m.zeroExtend 8

/-! ### Request kinds (R158, R175) -/

/-- The 29 request kinds. -/
inductive RequestKind where
  | radioProfileSet | seatMapWrite | linkRestart | linkFaultArm | stationEject | phaseSet | sectorSet | matchClear | countersClear
  | passLoad | passAmend | passRevoke | passRemove | passUnlock
  | channelOpen | channelClose
  | noticeLevelsSet | noticeMaskSet | noticeAccept | noticeReturn | noticeClear
  | stationRead | passRead | radioRead | groupRead | seatMapRead | countersRead | sectorRead
  | rightsSet
  deriving DecidableEq, Repr

/-- Every request kind. -/
def RequestKind.all : List RequestKind :=
  [.radioProfileSet, .seatMapWrite, .linkRestart, .linkFaultArm, .stationEject, .phaseSet, .sectorSet, .matchClear, .countersClear,
    .passLoad, .passAmend, .passRevoke, .passRemove, .passUnlock, .channelOpen, .channelClose, .noticeLevelsSet, .noticeMaskSet,
    .noticeAccept, .noticeReturn, .noticeClear, .stationRead, .passRead, .radioRead, .groupRead, .seatMapRead, .countersRead,
    .sectorRead, .rightsSet]

/-- A kind's code: 16 times its class number plus its position in its class's list (R175). -/
def RequestKind.code : RequestKind → Byte
  | .radioProfileSet => 0x10#8
  | .seatMapWrite => 0x11#8
  | .linkRestart => 0x12#8
  | .linkFaultArm => 0x13#8
  | .stationEject => 0x14#8
  | .phaseSet => 0x15#8
  | .sectorSet => 0x16#8
  | .matchClear => 0x17#8
  | .countersClear => 0x18#8
  | .passLoad => 0x20#8
  | .passAmend => 0x21#8
  | .passRevoke => 0x22#8
  | .passRemove => 0x23#8
  | .passUnlock => 0x24#8
  | .channelOpen => 0x30#8
  | .channelClose => 0x31#8
  | .noticeLevelsSet => 0x40#8
  | .noticeMaskSet => 0x41#8
  | .noticeAccept => 0x42#8
  | .noticeReturn => 0x43#8
  | .noticeClear => 0x44#8
  | .stationRead => 0x50#8
  | .passRead => 0x51#8
  | .radioRead => 0x52#8
  | .groupRead => 0x53#8
  | .seatMapRead => 0x54#8
  | .countersRead => 0x55#8
  | .sectorRead => 0x56#8
  | .rightsSet => 0x60#8

/-- The classes a lane must hold to issue a kind (R158): one class, but RADIO and CONFIG for MATCH_CLEAR (R157). -/
def RequestKind.needs (k : RequestKind) : Rights :=
  if k = .matchClear then 0b100001#6
  else if k = .rightsSet then 0b100000#6
  else if k.ctorIdx < 9 then 0b000001#6
  else if k.ctorIdx < 14 then 0b000010#6
  else if k.ctorIdx < 16 then 0b000100#6
  else if k.ctorIdx < 21 then 0b001000#6
  else 0b010000#6

/-- A kind byte is one of the request kinds (R157). -/
def knownKind (b : Byte) : Bool := RequestKind.all.any fun k => k.code == b

/-! ### Request and response records (section 11.2) -/

/-- A request record: kind, tag, N, and N bytes of parameters; `none` where there are fewer than 4 bytes or not 4 + N (R176). -/
def requestOf (bytes : List Byte) : Option Request :=
  match bytes with
  | kind :: tag :: n1 :: n0 :: params =>
    if params.length = unsigned [n1, n0] then some { kind := kind, tag := tag, params := params } else none
  | _ => none

/-- A response record. -/
def Response.bytes (r : Response) : List Byte :=
  [r.kind, r.tag, byteOf r.answer.ctorIdx] ++ be16 r.block.length ++ r.block

/-- The body of a control frame that carries a response: lane, body type 1, response record (section 11.2). -/
def responseBody (lane : LaneIx) (r : Response) : List Byte := [byteOf lane.val, 1#8] ++ r.bytes

/-! ### Parameter blocks -/

/-- An optional parameter of `n` bytes at the front of a block: its presence byte, then its bytes where it is present; `none` where
the block is too short or the presence byte is neither 0 nor 1 (section 11.1). -/
def optionalParam (n : Nat) (block : List Byte) : Option (Option (List Byte) × List Byte) :=
  match block with
  | [] => none
  | b :: rest =>
    match flagOf b with
    | none => none
    | some false => some (none, rest)
    | some true => if n ≤ rest.length then some (some (rest.take n), rest.drop n) else none

/-- Where a block names its subject by index or by value: a selector byte 0 and `narrow` bytes, or 1 and `wide` bytes. -/
def selectorParam (narrow wide : Nat) (block : List Byte) : Option (Nat ⊕ Nat) :=
  match block with
  | [] => none
  | b :: rest =>
    if b = 0#8 ∧ rest.length = narrow then some (.inl (unsigned rest))
    else if b = 1#8 ∧ rest.length = wide then some (.inr (unsigned rest))
    else none

/-- The seat blocks that a first block and a count name, where the checks of R104 pass: the count is 1 to 16 and the blocks lie in
0 to 1023. -/
def blocksOk (first count : Nat) : Bool := 1 ≤ count && count ≤ 16 && first + count ≤ Config.seatBlocks

/-! ### Counter scopes (R164, section 11.5) -/

/-- The scopes of COUNTERS_READ and COUNTERS_CLEAR, in the order of the list of R164. -/
inductive Scope where
  | station
  | link (radio : RadioIx)
  | pass
  | admission
  | replay (channel : Option ChannelIx)
  | airtime (radio : RadioIx)
  | sector
  | lanes
  deriving DecidableEq, Repr

/-- The scope that a parameter block names: the scope byte, a radio index for the seat link and airtime scopes, and an optional
channel for the replay scope (section 11.1). -/
def scopeOf (block : List Byte) : Option Scope :=
  match block with
  | [] => none
  | b :: rest =>
    match b.toNat, rest with
    | 0, [] => some .station
    | 1, [r] => (radioOf r).map .link
    | 2, [] => some .pass
    | 3, [] => some .admission
    | 4, [p] => if p = 0#8 then some (.replay none) else none
    | 4, [p, c] => if p = 1#8 then (channelOf c).map fun c => .replay (some c) else none
    | 5, [r] => (radioOf r).map .airtime
    | 6, [] => some .sector
    | 7, [] => some .lanes
    | _, _ => none

/-! ### Replay packets (section 11.4) -/

/-- The packet that a frame body carries: its class is KEY or DELTA, its channel 0 to 15, its length 64 to 1,500, and the body holds
exactly 6 + L bytes; `none` for a malformed packet (R125, R178). -/
def packetOf (body : List Byte) : Option Packet :=
  match body with
  | c :: k :: s1 :: s0 :: l1 :: l0 :: contents =>
    match channelOf c with
    | none => none
    | some c =>
      if contents.length = unsigned [l1, l0] ∧ 64 ≤ contents.length ∧ contents.length ≤ 1500 then
        if k = 0#8 then some { channel := c, cls := .key, sequence := BitVec.ofNat 16 (unsigned [s1, s0]), contents := contents }
        else if k = 1#8 then
          some { channel := c, cls := .delta, sequence := BitVec.ofNat 16 (unsigned [s1, s0]), contents := contents }
        else none
      else none
  | _ => none

end Sys2Proof.Machine
end

