-- ==== Sys2Proof/Machine/Lanes.lean ====
section
/-! DEFINITION. The lane interface (chapter 9, section 11.2): arrival of requests, their service and its checks, responses, the SPI
port, and RIGHTS_SET. -/

namespace Sys2Proof.Machine

/-- What an owner answers: the outcome and its result block. -/
structure Reply where
  answer : Answer
  block : List Byte
  deriving DecidableEq, Repr

/-- A refusal with an empty result block. -/
def Reply.plain (a : Answer) : Reply := { answer := a, block := [] }

/-- BAD_ARG with an empty result block: a parameter out of range or a block of the wrong length (R157). -/
def Reply.badArg : Reply := Reply.plain .badArg

/-- DONE with a result block. -/
def Reply.done (block : List Byte) : Reply := { answer := .done, block := block }

/-- The response to a request. -/
def Reply.response (p : Reply) (q : Request) : Response := { kind := q.kind, tag := q.tag, answer := p.answer, block := p.block }

/-- A response sent on its lane (R160, R161): placed at the end of lane 0's list, or lost and counted where the list is full; on lanes
1 to 3 sent as one control frame and counted. -/
def State.respond (s : State) (lane : LaneIx) (r : Response) : State :=
  if lane = 0 then
    if s.responses.length < Config.responseList then { s with responses := s.responses ++ [r] }
    else s.count (.lane 0 .lostResponses)
  else (s.emitTrunk lane (responseBody lane r)).count (.lane lane .responsesSent)

/-- A request arrives on a lane: counted, and appended to the lane's queue or answered QUEUE_FULL (R155). -/
def State.arrive (s : State) (lane : LaneIx) (q : Request) : State :=
  let s := s.count (.lane lane .requestsReceived)
  if s.lanes[lane].queue.length < Config.laneQueue then
    s.setLane lane { s.lanes[lane] with queue := s.lanes[lane].queue ++ [q] }
  else
    ((s.count (.lane lane .queueFull)).note .laneOverflow).respond lane ((Reply.plain .queueFull).response q)

/-- A lane's head request may be served: on lane 0 only while the response list has room (R156, R160). -/
def State.canServe (s : State) (lane : LaneIx) : Bool := lane != 0 || decide (s.responses.length < Config.responseList)

/-- The request at the head of a lane's queue, where it may be served, and the state without it (R156). -/
def State.head (s : State) (lane : LaneIx) : Option (Request × State) :=
  match s.lanes[lane].queue with
  | [] => none
  | q :: rest => if s.canServe lane then some (q, s.setLane lane { s.lanes[lane] with queue := rest }) else none

/-- The service of a lane's head request of one kind: the rights check of R157, then its owner, then the response. Where the head is
another request, or there is none, or it may not be served, no such service happens (log entry 4). -/
def State.service (s : State) (lane : LaneIx) (k : RequestKind) (owner : List Byte → State → Reply × State) : State :=
  match s.head lane with
  | none => s
  | some (q, t) =>
    if q.kind = k.code then
      if k.needs &&& ~~~t.lanes[lane].rights = 0#6 then
        (owner q.params t).2.respond lane ((owner q.params t).1.response q)
      else
        ((t.count (.lane lane .denied)).note .denied).respond lane
          (Reply.response { answer := .denied, block := [rightsByte (k.needs &&& ~~~t.lanes[lane].rights)] } q)
    else s

/-- One service as an event. -/
def serve (lane : LaneIx) (k : RequestKind) (owner : List Byte → State → Reply × State) (s : State) :
    Host.Outcome State Fault Refusal :=
  event s fun s => s.service lane k owner

/-! ### The rows -/

/-- UNKNOWN_REQUEST_KIND (R157): a head request of unknown kind is refused BAD_KIND. -/
def execUnknownRequestKind (lane : LaneIx) (s : State) : Host.Outcome State Fault Refusal :=
  event s fun s =>
    match s.head lane with
    | none => s
    | some (q, t) =>
      if knownKind q.kind then s
      else (t.count (.lane lane .badKind)).respond lane ((Reply.plain .badKind).response q)

/-- SPI_WRITE_REQUEST (R176): the request arrives on lane 0 as CS_N rises, or the short write is discarded and counted. -/
def execSpiWriteRequest (bytes : List Byte) (s : State) : Host.Outcome State Fault Refusal :=
  event s fun s =>
    match requestOf bytes with
    | none => s.count (.lane 0 .shortWrites)
    | some q => s.arrive 0 q

/-- SPI_READ_RESPONSE (R160, R176): a 2-byte length and the oldest response are clocked out, as far as the transaction goes, and the
response leaves the list; an empty list gives length 0 and nothing changes. -/
def execSpiReadResponse (clocked : Nat) (s : State) : Host.Outcome State Fault Refusal :=
  event s fun s =>
    match s.responses with
    | [] => s.emit (.spi ((be16 0).take clocked))
    | r :: rest =>
      ({ s with responses := rest }.emit (.spi ((be16 r.bytes.length ++ r.bytes).take clocked))).count (.lane 0 .responsesSent)

/-- SPI_OTHER_COMMAND (R176): the transaction is ignored. -/
def execSpiOtherCommand (_command : Byte) (_bytes : List Byte) (s : State) : Host.Outcome State Fault Refusal := .next s

/-- The lane of a control frame's body, whose first byte names it: a trunk lane, or none where the byte names lane 0 or a lane above 3
(R161). -/
def trunkLaneOf (b : Byte) : Option LaneIx := (laneOf b).filter fun lane => lane != 0

/-- TRUNK_CONTROL_FRAME (R161, R176): a bad or misaddressed frame is discarded and counted; any other teaches its lane the master's
address and delivers its request. A frame is misaddressed by its lane whatever follows the lane, and by its body type where it has
one (log entry 19). -/
def execTrunkControlFrame (frameCheck : Bool) (source : Address) (body : List Byte) (s : State) :
    Host.Outcome State Fault Refusal :=
  event s fun s =>
    if !frameCheck then s.count (.trunk .badFrames)
    else
      match body with
      | [] => s.count (.trunk .badFrames)
      | laneByte :: rest =>
        match trunkLaneOf laneByte, rest with
        | none, _ => s.count (.trunk .misaddressedFrames)
        | some _, [] => s.count (.trunk .badFrames)
        | some lane, bodyType :: record =>
          if bodyType ≠ 0#8 then s.count (.trunk .misaddressedFrames)
          else
            match requestOf record with
            | none => s.count (.trunk .badFrames)
            | some q => (s.setLane lane { s.lanes[lane] with master := some source }).arrive lane q

/-- The class set that a RIGHTS_SET applies: CONFIG is kept on lane 0 (R159). -/
def appliedRights (lane : LaneIx) (c : Rights) : Rights := if lane = 0 then c ||| 0b100000#6 else c

/-- The owner of RIGHTS_SET (R159). DESIGN CHOICE (log entry 36): the lane number takes 1 byte. -/
def ownRightsSet (params : List Byte) (s : State) : Reply × State :=
  match params with
  | [l, c] =>
    match laneOf l with
    | none => (Reply.badArg, s)
    | some target =>
      if c.toNat < 64 then
        (Reply.done [rightsByte s.lanes[target].rights, rightsByte (appliedRights target (c.truncate 6)),
            flagByte (appliedRights target (c.truncate 6) != c.truncate 6)],
          (s.setLane target { s.lanes[target] with rights := appliedRights target (c.truncate 6) }).count
            (.lane target .rightsChanges))
      else (Reply.badArg, s)
  | _ => (Reply.badArg, s)

/-- RIGHTS_SET (R159). -/
def execRightsSet (lane : LaneIx) (s : State) : Host.Outcome State Fault Refusal := serve lane .rightsSet ownRightsSet s

end Sys2Proof.Machine
end

