-- ==== Sys2Proof/Machine/Bindings.lean ====
section
/-! DEFINITION. Bindings (sections 5.1 to 5.3): the zone set, pruning, the pause evaluation, hold shrink, unbinding, binding load and
reload, and the expiry of a pass. -/

namespace Sys2Proof.Machine

/-- The zone set of seat blocks home to home + width - 1 under a seat map, in ascending radio order, UNMAPPED entries skipped (R93). -/
def zoneOf (seatMap : Table RadioIx) (home width : Nat) : List RadioIx :=
  (List.finRange 64).filter fun r => (List.range width).any fun i => seatMap.find (home + i) == some r

/-- The binding that a pass grants, with its zone set from a seat map (R97). -/
def Pass.grant (p : Pass) (slot : Nat) (seatMap : Table RadioIx) : Binding :=
  { slot := slot, tier := p.tier, mask := p.mask, zone := zoneOf seatMap p.home p.width }

/-- The entries whose subscription is no longer permitted are removed from the station's list and from their groups, and counted
(R123). -/
def State.prune (s : State) (ix : Nat) : State :=
  match s.stations.find ix with
  | none => s
  | some st =>
    ((s.setStation ix { st with subs := st.subs.filter fun e => permitted s.channels st.binding e.channel }).leaveGroups
        st.groupRadio (st.subs.filter fun e => !permitted s.channels st.binding e.channel) ix).addTo
      (.replay .pruned) (st.subs.filter fun e => !permitted s.channels st.binding e.channel).length

/-- The pause evaluation of every entry of a station (R117). -/
def State.repause (s : State) (ix : Nat) : State :=
  match s.stations.find ix with
  | none => s
  | some st => s.setStation ix (st.reflagged s.channels)

/-- A hold queue longer than its station's hold depth loses its oldest frames down to the depth (R65). -/
def State.shrinkHold (s : State) (ix : Nat) : State :=
  match s.stations.find ix with
  | none => s
  | some st =>
    match st.place with
    | .handoff o n d p held =>
      ({ s.setStation ix { st with place := .handoff o n d p (held.drop (held.length - st.tier.holdDepth)) } with
          holdFree := s.holdFree + (held.length - st.tier.holdDepth) }).addTo
        (.station .holdShrinkDrops) (held.length - st.tier.holdDepth)
    | _ => s

/-- A station removed from a pass's bound list; the others keep their order (R99, step 1). -/
def State.dropBound (s : State) (slot ix : Nat) : State :=
  match s.passes.find slot with
  | none => s
  | some p => s.setPass slot { p with bound := p.bound.erase ix }

/-- A station's binding replaced, its tier with it; without a binding the tier is GUEST (R92). -/
def State.setBinding (s : State) (ix : Nat) (b : Option Binding) : State :=
  match s.stations.find ix with
  | none => s
  | some st => s.setStation ix { st with binding := b, tier := match b with | none => .guest | some b => b.tier }

/-- Unbinding a station from the pass in a slot, in the order of R99. -/
def State.unbind (s : State) (slot ix : Nat) : State :=
  ((((((s.dropBound slot ix).setBinding ix none).prune ix).repause ix).shrinkHold ix)).count (.admission .unbindings)

/-- Each of these stations unbound from the pass in a slot, oldest binding first (R100). -/
def State.unbindAll (s : State) (slot : Nat) (stations : List Nat) : State :=
  stations.foldl (fun s ix => s.unbind slot ix) s

/-- A pass's state becomes EXPIRED or REVOKED and its bound stations are unbound at the same event (R72, R74). -/
def State.endPass (s : State) (slot : Nat) (p : Pass) (state : PassState) : State :=
  (s.setPass slot { p with state := state }).unbindAll slot p.bound

/-- A direct expiry (R74). -/
def State.expireDirectly (s : State) (slot : Nat) (p : Pass) : State :=
  (s.endPass slot p .expired).count (.pass .directExpiries)

/-- A binding loaded into a station from the pass in a slot, and the pause evaluation that follows (R97). -/
def State.loadBinding (s : State) (slot : Nat) (p : Pass) (ix : Nat) : State :=
  (s.setBinding ix (some (p.grant slot s.seatMap))).repause ix

/-- A bound station's binding brought into line with its amended pass, in the order of R101. -/
def State.reload (s : State) (slot : Nat) (p : Pass) (ix : Nat) : State :=
  (((((s.setBinding ix (some (p.grant slot s.seatMap))).prune ix).repause ix).shrinkHold ix)).count (.admission .reloads)

end Sys2Proof.Machine
end

