-- ==== Sys2Proof/Machine/Stations.lean ====
section
/-! DEFINITION. The operations on station contexts (chapters 1 and 3): the limit check, allocation, restore, freeing, orphaning, the
hold queue, and the life of a handoff. -/

namespace Sys2Proof.Machine

/-- Now. -/
def State.after (s : State) (interval : Nat) : Word := deadlineAfter s.sectorTime interval

/-- The deadline of a handoff that begins, is superseded, returns or goes outward again now (R48, R56 to R58). -/
def State.handoffDeadline (s : State) : Word := s.after s.settings.handoffTimeout

/-- The deadline of a station orphaned now, the hold expressed in milliseconds (R15). -/
def State.orphanDeadline (s : State) : Word := s.after (s.settings.orphanHold * 1000)

/-- The station table's look-up of a device address (R3). -/
def State.lookup (s : State) (a : Address) : Option Nat := s.addressMap.find a.toNat

/-- The context that a device address maps to, with its index. -/
def State.mapped (s : State) (a : Address) : Option (Nat × Station) :=
  match s.lookup a with
  | none => none
  | some ix => (s.stations.find ix).map fun st => (ix, st)

/-- A rate class byte greater than 11 is replaced by 11 (R8). -/
def clampRate (b : Byte) : RateClass := if h : b.toNat < 12 then ⟨b.toNat, h⟩ else 11

/-! ### The limit check and allocation (R5, R6) -/

/-- A radio's count equals or exceeds its station limit (R5). -/
def State.radioFull (s : State) (r : RadioIx) : Bool := s.links[r].profile.stationLimit ≤ s.stationCount[r]

/-- The RADIO_FULL refusal of a step that would make a station count at a radio (R5). -/
def State.refuseFull (s : State) (r : RadioIx) (ix : Option Nat) (a : Address) : State :=
  ((s.send r (.refuse ix a .radioFull)).count (.station .radioFullRefusals)).note .radioFull

/-- ADMIT sent to a radio for a station as it stands: its index, its device address, its rate class (R6, R51). -/
def State.sendAdmit (s : State) (r : RadioIx) (ix : Nat) : State :=
  match s.stations.find ix with
  | none => s
  | some st => s.send r (.admission ix st.device st.rate)

/-- The allocation of R6 for a JOIN or ROAM from a radio whose device address is not in the address map. -/
def State.allocate (s : State) (r : RadioIx) (a : Address) (rate : RateClass) : State :=
  if s.radioFull r then s.refuseFull r none a
  else
    match s.stations.lowestFree Config.stationContexts with
    | none =>
      ((s.send r (.refuse none a .tableFull)).count (.station .tableFullRefusals)).note .stationTableFull
    | some ix =>
      ((({ s.setStation ix
            { device := a, place := .associated r none, rate := rate, tier := .guest, binding := none, subs := [] } with
          addressMap := s.addressMap.put a.toNat ix }).raiseCount r).count (.station .allocated)).sendAdmit r ix

/-- A rate class replaced and ADMIT sent again (R7, R46, R55). -/
def State.readmit (s : State) (r : RadioIx) (ix : Nat) (st : Station) (rate : RateClass) : State :=
  ((s.setStation ix { st with rate := rate }).sendAdmit r ix).count (.station .readmits)

/-- The restore of an ORPHAN station on a radio (R17, R122). -/
def State.restore (s : State) (r : RadioIx) (ix : Nat) (st : Station) (rate : RateClass) : State :=
  if s.radioFull r then s.refuseFull r (some ix) st.device
  else
    (((((((s.setStation ix
        { st with place := .associated r none, rate := rate,
                  subs := st.subs.map fun e => { e with awaitingKey := true } }).raiseCount r).joinGroups r st.subs ix).addTo
      (.replay .rejoins) st.subs.length).repause ix).sendAdmit r ix)).count (.station .restored)

/-! ### The hold queue (section 3.7) -/

/-- Buffers returned to the hold pool (R64). -/
def State.returnBuffers (s : State) (n : Nat) : State := { s with holdFree := s.holdFree + n }

/-- A hold queue discarded, its frames counted and its buffers returned (R67); the caller ends the HANDOFF. -/
def State.discardHeld (s : State) (held : List FanFrame) : State :=
  (s.returnBuffers held.length).addTo (.station .holdDiscards) held.length

/-- A downlink frame for a station in HANDOFF, by its queue's length and its hold depth (R63). -/
def State.hold (s : State) (ix : Nat) (st : Station) (o n : RadioIx) (d : Word) (p : Option Prior) (held : List FanFrame)
    (f : FanFrame) : State :=
  if held.length < st.tier.holdDepth then
    if s.holdFree = 0 then (s.count (.station .holdPoolDrops)).note .holdPoolExhausted
    else
      ({ s.setStation ix { st with place := .handoff o n d p (held ++ [f]) } with holdFree := s.holdFree - 1 }).count
        (.station .downlinkHeld)
  else
    ((s.setStation ix { st with place := .handoff o n d p (held.drop 1 ++ [f]) }).count (.station .downlinkHeld)).count
      (.station .holdOverwriteDrops)

/-- Entries appended to a radio's transmit queue. -/
def State.enqueue (s : State) (r : RadioIx) (entries : List TxEntry) : State :=
  s.setLink r { s.links[r] with queue := s.links[r].queue ++ entries }

/-- The free entries of a radio's transmit queue (R20, R132). -/
def State.room (s : State) (r : RadioIx) : Nat := Config.transmitQueue - s.links[r].queue.length

/-- A flush: the held frames go to a radio's transmit queue in arrival order while it has room, the rest are dropped, and every
buffer is returned (R66). -/
def State.flush (s : State) (r : RadioIx) (held : List FanFrame) : State :=
  ((((s.enqueue r ((held.take (s.room r)).map TxEntry.fan)).addTo (.station .downlinkForwarded)
    (held.take (s.room r)).length).addTo (.station .flushDrops) (held.drop (s.room r)).length)).returnBuffers held.length

/-! ### Freeing and orphaning (R13 to R16) -/

/-- The counts of the radios a station is on lowered: the current radio's, and in HANDOFF the target's unless it is the current radio
(R13, step 5). -/
def State.lowerCounts (s : State) (place : Place) : State :=
  match place with
  | .associated r _ => s.lowerCount r
  | .handoff o n _ _ _ => if o = n then s.lowerCount o else (s.lowerCount o).lowerCount n
  | .orphan _ _ => s

/-- Every subscription entry of a station removed, and the station with it from every group it is a member of (R13, step 2). -/
def State.endSubscriptions (s : State) (ix : Nat) : State :=
  match s.stations.find ix with
  | none => s
  | some st => (s.setStation ix { st with subs := [] }).leaveGroups st.groupRadio st.subs ix

/-- A station unbound from whatever pass it is bound to (R13, step 1; R96, step 1). -/
def State.unbindStation (s : State) (ix : Nat) (st : Station) : State :=
  match st.binding with
  | none => s
  | some b => s.unbind b.slot ix

/-- What is left in a station's hold queue discarded (R13, step 3). -/
def State.discardHold (s : State) (ix : Nat) : State :=
  match s.stations.find ix with
  | none => s
  | some st => s.discardHeld st.held

/-- A station freed, in the order of R13. -/
def State.free (s : State) (ix : Nat) (st : Station) : State :=
  let t := (((s.unbindStation ix st).endSubscriptions ix).discardHold ix)
  (({ { t with addressMap := t.addressMap.drop st.device.toNat }.lowerCounts st.place with
      stations := t.stations.drop ix })).count (.station .freed)

/-- A station becomes ORPHAN with its current radio kept for read-back: the orphan deadline is set, the prior pair goes, it leaves
every group, and each entry stays with its paused flag set (R15). -/
def State.orphan (s : State) (ix : Nat) (st : Station) : State :=
  ((s.setStation ix
      { st with place := .orphan st.current s.orphanDeadline,
                subs := st.subs.map fun e => { e with paused := true } }).leaveGroups st.groupRadio st.subs ix).count
    (.station .orphaned)

/-! ### The life of a handoff (chapter 3) -/

/-- A handoff begins: the station counts at both radios, its hold queue is empty, and RELEASE goes to the old radio (R48). -/
def State.beginHandoff (s : State) (ix : Nat) (st : Station) (o n : RadioIx) (p : Option Prior) (rate : RateClass) : State :=
  (((s.setStation ix { st with place := .handoff o n s.handoffDeadline p [], rate := rate }).raiseCount n).count
    (.station .handoffsBegun)).send o (.release ix st.device)

/-- The prior pair that a completion leaves (R51, step 5). -/
def State.priorAfter (s : State) (o : RadioIx) : Option Prior :=
  if s.settings.returnGuard = 0 then none else some { radio := o, deadline := s.after s.settings.returnGuard }

/-- The completion of an outward handoff from o to n, in the order of R51, with the migration of R120. -/
def State.complete (s : State) (ix : Nat) (st : Station) (o n : RadioIx) (held : List FanFrame) : State :=
  ((((((((s.setStation ix
      { st with place := .associated n (s.priorAfter o),
                subs := st.subs.map fun e => { e with awaitingKey := true } }).lowerCount o).sendAdmit n ix).flush n held).leaveGroups
        (some o) st.subs ix).joinGroups n st.subs ix).addTo (.replay .migrations) st.subs.length).repause ix).count
    (.station .handoffsCompleted)

/-- A forced completion, which sends DROP to the old radio where its link can carry it (R53, R37, R60). -/
def State.force (s : State) (ix : Nat) (st : Station) (o n : RadioIx) (held : List FanFrame) (withDrop : Bool) : State :=
  ((((if withDrop then s.send o (.drop ix st.device) else s).complete ix st o n held)).count (.station .forcedCompletions)).note
    .handoffForced

/-- The end of a return: the station stays on its old radio, ADMIT is sent and the held frames are flushed there (R57). -/
def State.endReturn (s : State) (ix : Nat) (st : Station) (o : RadioIx) (p : Option Prior) (held : List FanFrame) : State :=
  ((((s.setStation ix { st with place := .associated o p }).sendAdmit o ix).flush o held)).count (.station .returnsCompleted)

/-- The abandonment of a handoff back to the old radio when the target's link has failed (R61). -/
def State.abandonToOld (s : State) (ix : Nat) (st : Station) (o n : RadioIx) (p : Option Prior) (held : List FanFrame) : State :=
  (((((s.setStation ix { st with place := .associated o p }).lowerCount n).flush o held).sendAdmit o ix)).count
    (.station .abandonmentsToOld)

/-- The abandonment of an outward handoff at a LEAVE from the target: the station becomes ORPHAN (R59). -/
def State.abandonToOrphan (s : State) (ix : Nat) (st : Station) (held : List FanFrame) : State :=
  ((((s.orphan ix st).lowerCounts st.place).discardHeld held)).count (.station .abandonmentsToOrphan)

/-- A REFUSE with SUPERSEDED to the target that lost its reservation (R56, R57). -/
def State.refuseSuperseded (s : State) (n : RadioIx) (ix : Nat) (a : Address) : State :=
  s.send n (.refuse (some ix) a .superseded)

/-- A third radio's ROAM moves the target of an outward handoff (R56). -/
def State.supersede (s : State) (ix : Nat) (st : Station) (o n m : RadioIx) (p : Option Prior) (held : List FanFrame)
    (rate : RateClass) : State :=
  if s.radioFull m then s.refuseFull m (some ix) st.device
  else
    (((((s.setStation ix { st with place := .handoff o m s.handoffDeadline p held, rate := rate }).raiseCount m).lowerCount
      n).refuseSuperseded n ix st.device).count (.station .supersedes)).note .superseded

/-- The old radio's ROAM turns an outward handoff into a return (R57). -/
def State.turnToReturn (s : State) (ix : Nat) (st : Station) (o n : RadioIx) (p : Option Prior) (held : List FanFrame)
    (rate : RateClass) : State :=
  (((((s.setStation ix { st with place := .handoff o o s.handoffDeadline p held, rate := rate }).lowerCount n).refuseSuperseded n ix
    st.device)).count (.station .supersedes)).note .superseded

/-- Another radio's ROAM during a return makes the handoff outward again, with a fresh RELEASE (R58). -/
def State.renewOutward (s : State) (ix : Nat) (st : Station) (o m : RadioIx) (p : Option Prior) (held : List FanFrame)
    (rate : RateClass) : State :=
  if s.radioFull m then s.refuseFull m (some ix) st.device
  else
    (((((s.setStation ix { st with place := .handoff o m s.handoffDeadline p held, rate := rate }).raiseCount m).send o
      (.release ix st.device)).count (.station .supersedes))).note .superseded

/-- The return guard holds back a ROAM from the prior radio (R47, check 2). -/
def State.guarded (s : State) (n : RadioIx) (p : Option Prior) (linkLost : Bool) : Bool :=
  s.settings.returnGuard != 0 && !linkLost && (match p with | none => false | some q => q.radio == n)

/-- DEFER with the time remaining to the guard deadline (R47). -/
def State.deferRoam (s : State) (n : RadioIx) (ix : Nat) (st : Station) (p : Option Prior) : State :=
  ((s.send n (.defer ix st.device (match p with | none => 0 | some q => remaining q.deadline s.sectorTime))).count
    (.station .deferrals)).note .pingPongDeferral

/-- A ROAM from n for a station ASSOCIATED on another radio o, checked in the order of R47. -/
def State.roamAssociated (s : State) (ix : Nat) (st : Station) (o n : RadioIx) (p : Option Prior) (rate : RateClass)
    (linkLost : Bool) : State :=
  if s.radioFull n then s.refuseFull n (some ix) st.device
  else if s.guarded n p linkLost then s.deferRoam n ix st p
  else s.beginHandoff ix st o n p rate

/-- A ROAM from m for a station in HANDOFF from o to n, by how m stands to its old radio and target (section 3.5). -/
def State.roamHandoff (s : State) (ix : Nat) (st : Station) (o n m : RadioIx) (p : Option Prior) (held : List FanFrame)
    (rate : RateClass) : State :=
  if m = n then s.readmit m ix st rate
  else if o = n then s.renewOutward ix st o m p held rate
  else if m = o then s.turnToReturn ix st o n p held rate
  else s.supersede ix st o n m p held rate

/-- A ROAM, or a JOIN taken as one, by the state of the station its device address maps to (R46). -/
def State.roam (s : State) (r : RadioIx) (a : Address) (rate : RateClass) (linkLost : Bool) : State :=
  let s := s.count (.station .roamsReceived)
  match s.mapped a with
  | none => s.allocate r a rate
  | some (ix, st) =>
    match st.place with
    | .orphan _ _ => s.restore r ix st rate
    | .associated o p => if o = r then s.readmit r ix st rate else s.roamAssociated ix st o r p rate linkLost
    | .handoff o n _ p held => s.roamHandoff ix st o n r p held rate

/-- A JOIN, by the state of the station its device address maps to (R6, R7). -/
def State.join (s : State) (r : RadioIx) (a : Address) (rate : RateClass) : State :=
  match s.mapped a with
  | none => s.allocate r a rate
  | some (ix, st) =>
    match st.place with
    | .orphan _ _ => s.restore r ix st rate
    | .associated o _ => if o = r then s.readmit r ix st rate else s.roam r a rate true
    | .handoff _ _ _ _ _ => s.roam r a rate true

end Sys2Proof.Machine
end

