-- ==== Sys2Proof/Machine/SeatLinks.lean ====
section
/-! DEFINITION. Seat links (chapter 2): carrier, the keepalive filter, entering and leaving UP, the checks on a received message, strict
mode, fault arming, the radio profile and LINK_RESTART. -/

namespace Sys2Proof.Machine

/-! ### Leaving and entering UP (R29, R30, R60 to R62) -/

/-- What one exit of radio r's link from UP does to one station (R15, R60, R61, R62). -/
def State.exitStation (r : RadioIx) (s : State) (ix : Nat) : State :=
  match s.stations.find ix with
  | none => s
  | some st =>
    match st.place with
    | .associated o _ => if o = r then (s.orphan ix st).lowerCount r else s
    | .handoff o n _ p held =>
      if o = r ∧ n ≠ r ∧ s.isUp n then s.force ix st o n held false
      else if n = r ∧ o ≠ r ∧ s.isUp o then s.abandonToOld ix st o n p held
      else if o = r ∨ n = r then ((s.orphan ix st).lowerCounts st.place).discardHeld held
      else s
    | .orphan _ _ => s

/-- The stations that are on a radio, by index. -/
def State.stationsOn (s : State) (r : RadioIx) : List Nat := (s.stations.filter fun e => e.2.isOn r).map Prod.fst

/-- The frames of a radio's transmit queue discarded and counted (R20). -/
def State.discardQueue (s : State) (r : RadioIx) : State :=
  (s.setLink r { s.links[r] with queue := [] }).addTo (.link r .transmitDiscards) s.links[r].queue.length

/-- Every replay group of a radio discarded (R121). -/
def State.discardGroups (s : State) (r : RadioIx) : State :=
  (List.finRange 16).foldl (fun s c => if (s.group r c).isSome then s.discardGroup r c else s) s

/-- The exit of a link from UP, whose new state is already in place: the source and the count, the transmit queue, the stations in a
free order, and the groups (R29). -/
def State.exitUp (s : State) (r : RadioIx) : State :=
  let t := ((s.note .linkDown).count (.link r .linkDownExits)).discardQueue r
  ((freeOrder t.draws (t.stationsOn r)).foldl (State.exitStation r) { t with draws := t.draws + 1 }).discardGroups r

/-- The entry of a link to UP (R30, R31): `l` is the link before it. -/
def State.enterUp (s : State) (r : RadioIx) (l : SeatLink) : State :=
  let t := ((s.setLink r { l with state := .up, sample := .none, filter := 0, awaitingFirstUp := false }).note .linkUp).count
    (.link r .linkUpEntries)
  if l.profile.detect = .onUp ∧ l.awaitingFirstUp = true then t.note .linkDetected else t

/-! ### Carrier and samples -/

/-- CARRIER_APPEAR (R25, R31). -/
def execCarrierAppear (r : RadioIx) (s : State) : Host.Outcome State Fault Refusal :=
  event s fun s =>
    if s.links[r].state = .absent then
      let t := (s.setLink r
        { s.links[r] with state := .detected, carrier := true, sample := .none, filter := 0, rxSequence := 0, txSequence := 0,
                          keepaliveSeen := false, alertSeen := false, awaitingFirstUp := true }).count (.link r .carrierAppears)
      if s.links[r].profile.detect = .onCarrier then t.note .linkDetected else t
    else s

/-- CARRIER_LOSS (R25): sequence numbers and fault arm are kept; from UP it is an exit (R29). -/
def execCarrierLoss (r : RadioIx) (s : State) : Host.Outcome State Fault Refusal :=
  event s fun s =>
    if s.links[r].state = .absent then s
    else
      let t := (s.setLink r
        { s.links[r] with state := .absent, carrier := false, sample := .none, filter := 0, keepaliveSeen := false,
                          alertSeen := false, awaitingFirstUp := false }).count (.link r .carrierLosses)
      if s.links[r].state = .up then t.exitUp r else t

/-- A link after its sample is classified and filtered, before the transition of R28 (R27). -/
def SeatLink.sampled (l : SeatLink) : SeatLink :=
  let kind := if l.keepaliveSeen then SampleKind.good else SampleKind.miss
  { l with keepaliveSeen := false, sample := kind, filter := if l.sample = kind then min (l.filter + 1) 3 else 1 }

/-- The transition of R28 on the new filter count. -/
def State.applyFilter (s : State) (r : RadioIx) (l : SeatLink) : State :=
  match l.state with
  | .absent => s
  | .up =>
    if l.sample = .miss ∧ l.filter = 3 then
      (s.setLink r { l with state := .down, sample := .none, filter := 0 }).exitUp r
    else s.setLink r l
  | .detected | .down =>
    if l.sample = .good ∧ l.filter = 3 then s.enterUp r l else s.setLink r l

/-- SAMPLE_EXPIRY (R27, R28): a sample that the keepalive sample timer has brought to this link is taken; there is none to take where
none is due (log entry 3). -/
def execSampleExpiry (r : RadioIx) (s : State) : Host.Outcome State Fault Refusal :=
  event s fun s =>
    if s.samplesDue[r] = 0 then s
    else
      let t := { s with samplesDue := s.samplesDue.set r (s.samplesDue[r] - 1) }
      if s.links[r].state = .absent then t else t.applyFilter r s.links[r].sampled

/-! ### Taking a received message (R32 to R35) -/

/-- The sequence check of R33. -/
def State.checkSequence (s : State) (r : RadioIx) (sequence : Byte) : State :=
  let t := s.setLink r { s.links[r] with rxSequence := sequence + 1 }
  if s.links[r].rxSequence = sequence then t else (t.count (.link r .sequenceGaps)).note .sequenceGap

/-- A well-formed message that is no KEEPALIVE: it cannot arrive without carrier; it is sequence-checked, then passed to its owner in UP
and ignored in DETECTED and DOWN (R33, R34, R35). -/
def State.receive (s : State) (r : RadioIx) (sequence : Byte) (owner : State → State) : State :=
  match s.links[r].state with
  | .absent => s
  | .up => owner ((s.checkSequence r sequence).count (.link r .messagesReceived))
  | .detected | .down => (s.checkSequence r sequence).count (.link r .notUpIgnored)

/-- What a KEEPALIVE does once it has passed the gate (R26). -/
def State.takeKeepalive (s : State) (r : RadioIx) (alert : Bool) : State :=
  let t := (s.setLink r { s.links[r] with keepaliveSeen := true, alertSeen := alert }).count (.link r .keepalivesReceived)
  if alert && !s.links[r].alertSeen then (t.note .headAlert).count (.link r .headAlerts) else t

/-- KEEPALIVE (R26): it passes the gate in DETECTED, UP and DOWN. -/
def execKeepalive (r : RadioIx) (sequence flags : Byte) (s : State) : Host.Outcome State Fault Refusal :=
  event s fun s =>
    if s.links[r].state = .absent then s
    else ((s.checkSequence r sequence).count (.link r .messagesReceived)).takeKeepalive r (flags.getLsbD 0)

/-- The strict-mode force of one station whose handoff awaits RELEASED from radio o (R37). -/
def State.strictForce (o : RadioIx) (s : State) (ix : Nat) : State :=
  match s.stations.find ix with
  | none => s
  | some st =>
    match st.place with
    | .handoff c n _ _ held => if c = o ∧ n ≠ o then s.force ix st o n held true else s
    | _ => s

/-- The strict-mode force of every handoff awaiting RELEASED from a radio, in a free order (R37). -/
def State.strictForceAll (s : State) (o : RadioIx) : State :=
  (freeOrder s.draws (s.stationsOn o)).foldl (State.strictForce o) { s with draws := s.draws + 1 }

/-- CORRUPT_CONTROL_MESSAGE (R32, R37, R177): a message that fails the CRC check is discarded and counted in every state that has
carrier, and in strict mode forces every handoff awaiting RELEASED from the radio. -/
def execCorruptControlMessage (r : RadioIx) (bytes : List Byte) (s : State) : Host.Outcome State Fault Refusal :=
  event s fun s =>
    if s.links[r].state = .absent ∨ crcFails bytes = false then s
    else
      let t := (s.count (.link r .crcErrors)).note .crcError
      if s.links[r].profile.strict then t.strictForceAll r else t

/-- MALFORMED_CONTROL_MESSAGE (R33, R34, R177): a message with a correct CRC that fails the kind and length check is discarded after
the sequence check and counted. -/
def execMalformedControlMessage (r : RadioIx) (bytes : List Byte) (s : State) : Host.Outcome State Fault Refusal :=
  event s fun s =>
    if s.links[r].state = .absent ∨ crcFails bytes = true ∨ shapeFails bytes = false then s
    else (s.checkSequence r (bytes.getD 1 0#8)).count (.link r .malformedMessages)

/-- TRANSMIT_COMPLETE (R20): the oldest entry leaves the radio transmit queue, sent to the radio head. -/
def execTransmitComplete (r : RadioIx) (s : State) : Host.Outcome State Fault Refusal :=
  event s fun s =>
    match s.links[r].queue with
    | [] => s
    | e :: rest => (s.setLink r { s.links[r] with queue := rest }).emit (.radioFrame r e)

/-! ### Requests on seat links -/

/-- A value clamped into a range (R41, R148). -/
def clampTo (low high v : Nat) : Nat := max low (min high v)

/-- A radio's credit clamped into the range of a refill and a cap (R137, R138). -/
def clampCredit (refill cap : Nat) (c : Int) : Int := max (-((refill / 2 : Nat) : Int)) (min (cap : Int) c)

/-- The profile that a RADIO_PROFILE_SET applies: each numeric field clamped into its range in the order of the table of R41. -/
def appliedProfile (budgetPeriod limit refill cap bias : Nat) (detect : DetectMode) (strict : Bool) : Profile :=
  { stationLimit := clampTo 1 255 limit,
    refill := clampTo 0 (min (budgetPeriod * 1000) 60000) refill,
    cap := clampTo (clampTo 0 (min (budgetPeriod * 1000) 60000) refill) 65535 cap,
    bias := clampTo 0 1000 bias, detect := detect, strict := strict }

/-- A profile as the six values of a record (R41, R175). -/
def Profile.bytes (p : Profile) : List Byte :=
  [byteOf p.stationLimit] ++ be16 p.refill ++ be16 p.cap ++ be16 p.bias ++ [byteOf p.detect.ctorIdx, flagByte p.strict]

/-- A credit in four bytes, two's complement (R175). -/
def creditBytes (c : Int) : List Byte := be32 (BitVec.ofInt 32 c).toNat

/-- What a RADIO_PROFILE_SET with valid mode values does (R41, R42, R137). -/
def State.setProfile (s : State) (r : RadioIx) (limit refill cap bias : Nat) (detect : DetectMode) (strict : Bool) :
    Reply × State :=
  let p := appliedProfile s.settings.budgetPeriod limit refill cap bias detect strict
  if p.stationLimit < s.stationCount[r] then
    ({ answer := .conflict, block := [byteOf s.stationCount[r]] }, s)
  else
    (Reply.done (p.bytes ++
        [flagByte (p.stationLimit != limit), flagByte (p.refill != refill), flagByte (p.cap != cap), flagByte (p.bias != bias),
          0#8, 0#8] ++ creditBytes (clampCredit p.refill p.cap s.credit[r])),
      { s.setLink r { s.links[r] with profile := p } with
        credit := s.credit.set r (clampCredit p.refill p.cap s.credit[r]) })

/-- The owner of RADIO_PROFILE_SET (R41). -/
def ownRadioProfileSet (params : List Byte) (s : State) : Reply × State :=
  match params with
  | [r, l, f1, f0, c1, c0, b1, b0, d, t] =>
    match radioOf r, detectOf d, flagOf t with
    | some r, some d, some t =>
      s.setProfile r l.toNat (unsigned [f1, f0]) (unsigned [c1, c0]) (unsigned [b1, b0]) d t
    | _, _, _ => (Reply.badArg, s)
  | _ => (Reply.badArg, s)

/-- RADIO_PROFILE_SET (R41). -/
def execRadioProfileSet (lane : LaneIx) (s : State) : Host.Outcome State Fault Refusal :=
  serve lane .radioProfileSet ownRadioProfileSet s

/-- What LINK_RESTART does to the named link at one event (R43, R20). -/
def State.restartLink (s : State) (r : RadioIx) : State :=
  let l := s.links[r]
  let t := (s.setLink r
    { l with state := if l.carrier then .detected else .absent, sample := .none, filter := 0, keepaliveSeen := false,
             alertSeen := false, awaitingFirstUp := l.carrier, rxSequence := 0, txSequence := 0, arm := none }).count
    (.link r .restarts)
  let t := if l.state = .up then t.exitUp r else t.discardQueue r
  if l.carrier = true ∧ l.profile.detect = .onCarrier then t.note .linkDetected else t

/-- The owner of LINK_RESTART (R43). -/
def ownLinkRestart (params : List Byte) (s : State) : Reply × State :=
  match params with
  | [r] =>
    match radioOf r with
    | none => (Reply.badArg, s)
    | some r =>
      (Reply.done [byteOf s.links[r].state.ctorIdx, byteOf (s.restartLink r).links[r].state.ctorIdx], s.restartLink r)
  | _ => (Reply.badArg, s)

/-- LINK_RESTART (R43). -/
def execLinkRestart (lane : LaneIx) (s : State) : Host.Outcome State Fault Refusal := serve lane .linkRestart ownLinkRestart s

/-- The owner of LINK_FAULT_ARM (R39). DESIGN CHOICE (log entry 36): the position takes 1 byte. -/
def ownLinkFaultArm (params : List Byte) (s : State) : Reply × State :=
  match params with
  | [r, k, n] =>
    match radioOf r, faultKindOf k with
    | some r, some k =>
      if 1 ≤ n.toNat ∧ n.toNat ≤ 8 then
        (Reply.done (match s.links[r].arm with
            | none => [flagByte false]
            | some a => [flagByte true, byteOf a.kind.ctorIdx, byteOf a.position]),
          s.setLink r { s.links[r] with arm := some { kind := k, position := n.toNat, count := 0 } })
      else (Reply.badArg, s)
    | _, _ => (Reply.badArg, s)
  | _ => (Reply.badArg, s)

/-- LINK_FAULT_ARM (R39). -/
def execLinkFaultArm (lane : LaneIx) (s : State) : Host.Outcome State Fault Refusal :=
  serve lane .linkFaultArm ownLinkFaultArm s

end Sys2Proof.Machine
end

