-- ==== Sys2Proof/Machine/StationTable.lean ====
section
/-! DEFINITION. The station table's rows (chapters 1 and 3): JOIN, ROAM, LEAVE, RATE, RELEASED, the three deadlines, fan frames, and
STATION_EJECT. -/

namespace Sys2Proof.Machine

/-! ### The screen (R9, R10) -/

/-- The context that a station index field names, where the message passes the screen of R9. -/
def State.screened (s : State) (r : RadioIx) (field : Half) : Option (Nat × Station) :=
  if field.toNat < Config.stationContexts then
    match s.stations.find field.toNat with
    | none => none
    | some st => if st.isOn r then some (field.toNat, st) else none
  else none

/-- A stray message (R10). -/
def State.stray (s : State) : State := (s.count (.station .strays)).note .strayMessage

/-- A message that names a station: to its owner where it passes the screen, a stray otherwise (R9, R10). -/
def State.screen (s : State) (r : RadioIx) (field : Half) (owner : Nat → Station → State → State) : State :=
  match s.screened r field with
  | none => s.stray
  | some (ix, st) => owner ix st s

/-! ### JOIN, ROAM, LEAVE, RATE, RELEASED -/

/-- JOIN (R6, R7). -/
def execJoin (r : RadioIx) (sequence : Byte) (device : Address) (rate : Byte) (s : State) : Host.Outcome State Fault Refusal :=
  event s fun s => s.receive r sequence fun s => s.join r device (clampRate rate)

/-- ROAM (R46 to R48, R55 to R58). -/
def execRoam (r : RadioIx) (sequence : Byte) (device : Address) (rate flags : Byte) (s : State) :
    Host.Outcome State Fault Refusal :=
  event s fun s => s.receive r sequence fun s => s.roam r device (clampRate rate) (flags.getLsbD 0)

/-- A LEAVE that passes the screen, by the station's state and the sending radio (R11, R52, R57, R59). -/
def State.leave (s : State) (r : RadioIx) (ix : Nat) (st : Station) : State :=
  match st.place with
  | .associated _ _ => (s.free ix st).count (.station .leaves)
  | .handoff o n _ p held =>
    if o = n then s.endReturn ix st o p held
    else if r = o then (s.complete ix st o n held).count (.station .completionsByLeave)
    else s.abandonToOrphan ix st held
  | .orphan _ _ => s.stray

/-- LEAVE (R11). -/
def execLeave (r : RadioIx) (sequence : Byte) (station : Half) (s : State) : Host.Outcome State Fault Refusal :=
  event s fun s => s.receive r sequence fun s => s.screen r station fun ix st s => s.leave r ix st

/-- RATE (R12). -/
def execRate (r : RadioIx) (sequence : Byte) (station : Half) (rate : Byte) (s : State) : Host.Outcome State Fault Refusal :=
  event s fun s => s.receive r sequence fun s => s.screen r station fun ix st s =>
    s.setStation ix { st with rate := clampRate rate }

/-- A late release (R50). -/
def State.late (s : State) : State := (s.count (.station .lateReleases)).note .lateRelease

/-- A RELEASED from radio r for a context that is not FREE, classified by R49: completion by release (R52), response error (R38, R37),
late release (R50) or stray (R10). -/
def State.released (s : State) (r : RadioIx) (ix : Nat) (st : Station) (device : Address) (undelivered : Nat) : State :=
  match st.place with
  | .orphan _ _ => s.stray
  | .associated _ _ => s.late
  | .handoff o n _ _ held =>
    if o = r ∧ n ≠ r then
      if device = st.device then
        ((s.complete ix st o n held).count (.station .completionsByRelease)).addTo (.station .undeliveredFrames) undelivered
      else
        let t := (s.count (.link r .responseErrors)).note .responseError
        if s.links[r].profile.strict then t.force ix st o n held true else t
    else s.late

/-- RELEASED (R49). -/
def execReleased (r : RadioIx) (sequence : Byte) (station : Half) (device : Address) (undelivered : Half) (s : State) :
    Host.Outcome State Fault Refusal :=
  event s fun s => s.receive r sequence fun s =>
    if station.toNat < Config.stationContexts then
      match s.stations.find station.toNat with
      | none => s.stray
      | some st => s.released r station.toNat st device undelivered.toNat
    else s.stray

/-! ### Deadlines (R16, R53, R54, R57, R145) -/

/-- HANDOFF_DEADLINE_EXPIRY (R53, R57): of a handoff whose deadline is passed; an outward handoff is forced with DROP, a return ends. -/
def execHandoffDeadlineExpiry (station : StationIx) (s : State) : Host.Outcome State Fault Refusal :=
  event s fun s =>
    match s.stations.find station.val with
    | none => s
    | some st =>
      match st.place with
      | .handoff o n d p held =>
        if passed d s.sectorTime then
          if o = n then s.endReturn station.val st o p held else s.force station.val st o n held true
        else s
      | _ => s

/-- A station without its prior pair. -/
def Station.withoutPrior (st : Station) : Station :=
  { st with place :=
      match st.place with
      | .associated r _ => .associated r none
      | .handoff o n d _ held => .handoff o n d none held
      | .orphan r d => .orphan r d }

/-- GUARD_DEADLINE_EXPIRY (R54): of a guard deadline that is passed; the pair is removed. -/
def execGuardDeadlineExpiry (station : StationIx) (s : State) : Host.Outcome State Fault Refusal :=
  event s fun s =>
    match s.stations.find station.val with
    | none => s
    | some st =>
      match st.prior with
      | none => s
      | some q => if passed q.deadline s.sectorTime then s.setStation station.val st.withoutPrior else s

/-- ORPHAN_DEADLINE_EXPIRY (R16): of an orphan deadline that is passed; the station is freed. -/
def execOrphanDeadlineExpiry (station : StationIx) (s : State) : Host.Outcome State Fault Refusal :=
  event s fun s =>
    match s.stations.find station.val with
    | none => s
    | some st =>
      match st.place with
      | .orphan _ d =>
        if passed d s.sectorTime then ((s.free station.val st).count (.station .evicted)).note .orphanEvicted else s
      | _ => s

/-! ### Fan frames (R19, R21, R63) -/

/-- DOWNLINK_FAN_FRAME (R19). -/
def execDownlinkFanFrame (f : FanFrame) (s : State) : Host.Outcome State Fault Refusal :=
  event s fun s =>
    match s.mapped f.destination with
    | none => s.count (.station .downlinkUnknown)
    | some (ix, st) =>
      match st.place with
      | .associated r _ =>
        if s.links[r].queue.length < Config.transmitQueue then (s.enqueue r [.fan f]).count (.station .downlinkForwarded)
        else s.count (.station .downlinkTransmitFull)
      | .handoff o n d p held => s.hold ix st o n d p held f
      | .orphan _ _ => s.count (.station .downlinkOrphan)

/-- UPLINK_FAN_FRAME (R21). -/
def execUplinkFanFrame (r : RadioIx) (f : FanFrame) (s : State) : Host.Outcome State Fault Refusal :=
  event s fun s =>
    match s.mapped f.source with
    | none => s.count (.station .uplinkDrops)
    | some (_, st) => if st.isOn r then s.emit (.uplink f) else s.count (.station .uplinkDrops)

/-! ### STATION_EJECT (R18) -/

/-- DROP to the radios a station is on: its current radio, and in HANDOFF the target if it differs (R18). -/
def State.dropFromRadios (s : State) (ix : Nat) (st : Station) : State :=
  match st.place with
  | .associated r _ => s.send r (.drop ix st.device)
  | .handoff o n _ _ _ =>
    if o = n then s.send o (.drop ix st.device) else (s.send o (.drop ix st.device)).send n (.drop ix st.device)
  | .orphan _ _ => s

/-- The code of a context's state (R1, R175): ASSOCIATED 1, HANDOFF 2, ORPHAN 3. -/
def Place.code : Place → Nat
  | .associated .. => 1
  | .handoff .. => 2
  | .orphan .. => 3

/-- The case table of R18 for a station index and an optional device address. -/
def State.eject (s : State) (ix : Nat) (device : Option Address) : Reply × State :=
  if ix < Config.stationContexts then
    match s.stations.find ix with
    | none => (Reply.plain .notFound, s)
    | some st =>
      if device.isSome && device != some st.device then (Reply.plain .notFound, s)
      else
        (Reply.done [byteOf st.place.code, byteOf st.current.val],
          ((s.dropFromRadios ix st).free ix st).count (.station .ejected))
  else (Reply.badArg, s)

/-- The owner of STATION_EJECT (R18). -/
def ownStationEject (params : List Byte) (s : State) : Reply × State :=
  match params with
  | i1 :: i0 :: rest =>
    match optionalParam 6 rest with
    | some (a, []) => s.eject (unsigned [i1, i0]) (a.map fun b => BitVec.ofNat 48 (unsigned b))
    | _ => (Reply.badArg, s)
  | _ => (Reply.badArg, s)

/-- STATION_EJECT (R18). -/
def execStationEject (lane : LaneIx) (s : State) : Host.Outcome State Fault Refusal := serve lane .stationEject ownStationEject s

end Sys2Proof.Machine
end

