-- ==== Sys2Proof/Machine/Admission.lean ====
section
/-! DEFINITION. The admission block's rows (chapter 5): CLAIM, the seat map and the zone sweep. -/

namespace Sys2Proof.Machine

/-! ### CLAIM (R94 to R97) -/

/-- The counter of a refused claim's code; MISMATCH is the pass table's (R84, R94). -/
def ClaimResult.counter : ClaimResult → Option Counter
  | .ok => none
  | .notHere => some (.admission .refusedNotHere)
  | .unknown => some (.admission .refusedUnknown)
  | .revoked => some (.admission .refusedRevoked)
  | .expired => some (.admission .refusedExpired)
  | .locked => some (.admission .refusedLocked)
  | .notYet => some (.admission .refusedNotYet)
  | .mismatch => some (.pass .mismatches)
  | .inUse => some (.admission .refusedInUse)

/-- A claim refused: counted in the counter of its code, noticed, and answered with tier GUEST (R94, section 11.3). -/
def State.refuseClaim (s : State) (r : RadioIx) (ix : Nat) (pass : Word) (result : ClaimResult) : State :=
  (((match result.counter with | none => s | some c => s.count c).note .claimRefused)).send r (.passResult ix pass result .guest)

/-- A claim answered OK with the pass's tier (R94). -/
def State.grantClaim (s : State) (r : RadioIx) (ix : Nat) (p : Pass) : State :=
  s.send r (.passResult ix p.number .ok p.tier)

/-- A mismatching check code: the mismatch count rises, and the third locks the pass (R84). -/
def State.mismatch (s : State) (slot : Nat) (p : Pass) : State :=
  if p.mismatches + 1 = Config.lockoutAt then
    ((s.setPass slot { p with mismatches := p.mismatches + 1, state := .locked }).count (.pass .lockouts)).note .lockout
  else s.setPass slot { p with mismatches := p.mismatches + 1 }

/-- A station appended at the end of a pass's bound list (R96, step 2). -/
def State.appendBound (s : State) (slot ix : Nat) : State :=
  match s.passes.find slot with
  | none => s
  | some p => s.setPass slot { p with bound := p.bound ++ [ix] }

/-- A station that gives up the binding it holds to another pass, counted as a rebinding (R96, step 1). -/
def State.rebind (s : State) (ix : Nat) (st : Station) : State :=
  match st.binding with
  | none => s
  | some _ => (s.unbindStation ix st).count (.admission .rebound)

/-- The bind of R96. -/
def State.bindClaim (s : State) (r : RadioIx) (ix : Nat) (st : Station) (slot : Nat) (p : Pass) : State :=
  ((((s.rebind ix st).appendBound slot ix).loadBinding slot p ix).count (.admission .bound)).grantClaim r ix p

/-- A CLAIM from the current radio, checked in the order of R95. -/
def State.checkClaim (s : State) (r : RadioIx) (ix : Nat) (st : Station) (pass : Word) (code : Half) : State :=
  match s.passMap.find pass.toNat with
  | none => s.refuseClaim r ix pass .unknown
  | some slot =>
    match s.passes.find slot with
    | none => s.refuseClaim r ix pass .unknown
    | some p =>
      match p.state with
      | .revoked => s.refuseClaim r ix pass .revoked
      | .expired => s.refuseClaim r ix pass .expired
      | .locked => s.refuseClaim r ix pass .locked
      | .active =>
        if !p.begun s.phase then s.refuseClaim r ix pass .notYet
        else if p.ended s.phase then (s.expireDirectly slot p).refuseClaim r ix pass .expired
        else if code ≠ p.code then (s.mismatch slot p).refuseClaim r ix pass .mismatch
        else if p.bound.contains ix then (s.count (.admission .reconfirmed)).grantClaim r ix p
        else if Config.boundLimit ≤ p.bound.length then s.refuseClaim r ix pass .inUse
        else s.bindClaim r ix st slot p

/-- A CLAIM that passes the screen: answered NOT_HERE from the target of an outward handoff, checked from the current radio (R94). -/
def State.claim (s : State) (r : RadioIx) (ix : Nat) (st : Station) (pass : Word) (code : Half) : State :=
  let s := s.count (.admission .claimsReceived)
  if st.current = r then s.checkClaim r ix st pass code else s.refuseClaim r ix pass .notHere

/-- CLAIM (R95). -/
def execClaim (r : RadioIx) (sequence : Byte) (station : Half) (pass : Word) (code : Half) (s : State) :
    Host.Outcome State Fault Refusal :=
  event s fun s => s.receive r sequence fun s => s.screen r station fun ix st s => s.claim r ix st pass code

/-! ### The seat map (R103 to R105) and the zone sweep (R106 to R109) -/

/-- A seat-map entry written; an UNMAPPED entry is not listed (R103). -/
def writeBlock (m : Table RadioIx) (block : Nat) (v : Option RadioIx) : Table RadioIx :=
  match v with
  | none => m.drop block
  | some r => m.put block r

/-- Entries first, first + 1, ... written in order (R104). -/
def writeBlocks (m : Table RadioIx) (first : Nat) (values : List (Option RadioIx)) : Table RadioIx :=
  match values with
  | [] => m
  | v :: rest => writeBlocks (writeBlock m first v) (first + 1) rest

/-- How many of the entries from `first` on would change (R104). -/
def changedBlocks (m : Table RadioIx) (first : Nat) (values : List (Option RadioIx)) : Nat :=
  match values with
  | [] => 0
  | v :: rest => (if m.find first = v then 0 else 1) + changedBlocks m (first + 1) rest

/-- A sweep run that an event abandons, as an optional cursor in a result block (R104, R149). -/
def abandonedBytes (w : Sweep) : List Byte := if w.running then [flagByte true] ++ be16 w.cursor else [flagByte false]

/-- A run of the zone sweep starts at station 0, abandoning any run under way (R107). -/
def State.startZoneSweep (s : State) : State :=
  let t := { s with zoneSweep := { running := true, cursor := 0 } }.count (.admission .sweepsStarted)
  if s.zoneSweep.running then t.count (.admission .sweepRestarts) else t

/-- What a SEAT_MAP_WRITE with valid parameters does (R104). -/
def State.writeSeatMap (s : State) (first : Nat) (values : List (Option RadioIx)) : Reply × State :=
  (Reply.done ([byteOf (changedBlocks s.seatMap first values)] ++ abandonedBytes s.zoneSweep),
    ({ s with seatMap := writeBlocks s.seatMap first values }.startZoneSweep).count (.admission .seatMapWrites))

/-- The owner of SEAT_MAP_WRITE (R104). -/
def ownSeatMapWrite (params : List Byte) (s : State) : Reply × State :=
  match params with
  | b1 :: b0 :: n :: values =>
    if values.length = n.toNat ∧ blocksOk (unsigned [b1, b0]) n.toNat = true then
      match values.mapM entryOf with
      | none => (Reply.badArg, s)
      | some vs => s.writeSeatMap (unsigned [b1, b0]) vs
    else (Reply.badArg, s)
  | _ => (Reply.badArg, s)

/-- SEAT_MAP_WRITE (R104). -/
def execSeatMapWrite (lane : LaneIx) (s : State) : Host.Outcome State Fault Refusal := serve lane .seatMapWrite ownSeatMapWrite s

/-- The visit of one station by the zone sweep (R108). -/
def State.zoneVisit (s : State) (ix : Nat) : State :=
  match s.stations.find ix with
  | none => s
  | some st =>
    match st.binding with
    | none => s
    | some b =>
      match s.passes.find b.slot with
      | none => s
      | some p =>
        let zone := zoneOf s.seatMap p.home p.width
        let t := (s.setStation ix { st with binding := some { b with zone := zone } }).repause ix
        if zone = b.zone then t else t.count (.admission .zoneChanges)

/-- ZONE_SWEEP_VISIT (R108, R109): the run visits the station at its cursor; after station 4095 it completes. -/
def execZoneSweepVisit (s : State) : Host.Outcome State Fault Refusal :=
  event s fun s =>
    if s.zoneSweep.running then
      let t := s.zoneVisit s.zoneSweep.cursor
      if s.zoneSweep.cursor + 1 < Config.stationContexts then
        { t with zoneSweep := { running := true, cursor := s.zoneSweep.cursor + 1 } }
      else ({ t with zoneSweep := Sweep.stopped }.count (.admission .sweepsCompleted)).note .zoneSweepComplete
    else s

end Sys2Proof.Machine
end

