-- ==== Sys2Proof/Machine/PassTable.lean ====
section
/-! DEFINITION. The pass table's rows (chapter 4): the pass requests and the expiry sweep. -/

namespace Sys2Proof.Machine

/-! ### PASS_LOAD (R75, R76) -/

/-- The first field of a PASS_LOAD that fails, by its position in the list of R75; `none` where every field passes. -/
def loadFault (tier home width from_ until_ : Nat) : Option Nat :=
  if tier < 1 ∨ 3 < tier then some 0
  else if 1023 < home then some 1
  else if width = 0 ∨ 16 < width then some 2
  else if 1023 < home + width - 1 then some 3
  else if 6 < from_ ∨ 6 < until_ then some 4
  else if until_ < from_ then some 5
  else none

/-- A loaded pass's state: EXPIRED where its window has ended, ACTIVE otherwise (R76). -/
def loadState (validUntil now : Phase) : PassState := if validUntil.value < now.value then .expired else .active

/-- A PASS_LOAD whose parameters pass R75, checked against the table (R76). -/
def State.loadPass (s : State) (p : Pass) : Reply × State :=
  match s.passMap.find p.number.toNat with
  | some slot =>
    ({ answer := .duplicate,
       block := be16 slot ++ [byteOf (match s.passes.find slot with | none => 0 | some q => q.state.ctorIdx)] },
      s.count (.pass .loadRefusals))
  | none =>
    match s.passes.lowestFree Config.passSlots with
    | none => (Reply.plain .tableFull, s.count (.pass .loadRefusals))
    | some slot =>
      let t := ({ s.setPass slot p with passMap := s.passMap.put p.number.toNat slot }).count (.pass .loaded)
      (Reply.done (be16 slot ++ [byteOf p.state.ctorIdx]),
        if p.state = .expired then t.count (.pass .loadedExpired) else t)

/-- The owner of PASS_LOAD (R75, R76). -/
def ownPassLoad (params : List Byte) (s : State) : Reply × State :=
  match params with
  | [n3, n2, n1, n0, c1, c0, t, h1, h0, w, m1, m0, f, u] =>
    match loadFault t.toNat (unsigned [h1, h0]) w.toNat f.toNat u.toNat with
    | some i => ({ answer := .badArg, block := [byteOf i] }, s)
    | none =>
      match passTierOf t, phaseOf f, phaseOf u with
      | some tier, some from_, some until_ =>
        s.loadPass
          { number := BitVec.ofNat 32 (unsigned [n3, n2, n1, n0]), code := BitVec.ofNat 16 (unsigned [c1, c0]), tier := tier,
            home := unsigned [h1, h0], width := w.toNat, mask := BitVec.ofNat 16 (unsigned [m1, m0]), validFrom := from_,
            validUntil := until_, state := loadState until_ s.phase, bound := [], mismatches := 0 }
      | _, _, _ => (Reply.badArg, s)
  | _ => (Reply.badArg, s)

/-- PASS_LOAD (R76). -/
def execPassLoad (lane : LaneIx) (s : State) : Host.Outcome State Fault Refusal := serve lane .passLoad ownPassLoad s

/-! ### PASS_AMEND (R78 to R80) -/

/-- The five changes of a PASS_AMEND, each present or absent (R78). -/
structure Amendment where
  code : Option Half
  tier : Option Tier
  zone : Option (Nat × Nat)
  mask : Option (BitVec 16)
  window : Option (Phase × Phase)
  deriving DecidableEq, Repr

/-- No change is present. -/
def Amendment.isEmpty (a : Amendment) : Bool :=
  a.code.isNone && a.tier.isNone && a.zone.isNone && a.mask.isNone && a.window.isNone

/-- An optional change read by `f`; `none` where it is present and `f` refuses its value. -/
def changeOf {α : Type} (f : List Byte → Option α) : Option (List Byte) → Option (Option α)
  | none => some none
  | some b => (f b).map some

/-- A zone change: home block 0 to 1023, width 1 to 16, ending at 1023 at most (R75, R78). -/
def zoneChangeOf (b : List Byte) : Option (Nat × Nat) :=
  match b with
  | [h1, h0, w] =>
    if 1 ≤ w.toNat ∧ w.toNat ≤ 16 ∧ unsigned [h1, h0] + w.toNat ≤ Config.seatBlocks then some (unsigned [h1, h0], w.toNat)
    else none
  | _ => none

/-- A window change: two phases, the second not earlier than the first (R75, R78). -/
def windowChangeOf (b : List Byte) : Option (Phase × Phase) :=
  match b with
  | [f, u] =>
    match phaseOf f, phaseOf u with
    | some f, some u => if f.value ≤ u.value then some (f, u) else none
    | _, _ => none
  | _ => none

/-- A tier change (R75, R78). -/
def tierChangeOf (b : List Byte) : Option Tier :=
  match b with
  | [t] => passTierOf t
  | _ => none

/-- The pass number and the changes of a PASS_AMEND's parameter block; `none` where R78 refuses it BAD_ARG. -/
def amendmentOf (params : List Byte) : Option (Word × Amendment) :=
  if params.length < 4 then none
  else
    match optionalParam 2 (params.drop 4) with
    | none => none
    | some (code, rest) =>
    match optionalParam 1 rest with
    | none => none
    | some (tier, rest) =>
    match optionalParam 3 rest with
    | none => none
    | some (zone, rest) =>
    match optionalParam 2 rest with
    | none => none
    | some (mask, rest) =>
    match optionalParam 2 rest with
    | some (window, []) =>
      match changeOf tierChangeOf tier, changeOf zoneChangeOf zone, changeOf windowChangeOf window with
      | some tier, some zone, some window =>
        let a : Amendment :=
          { code := code.map fun b => BitVec.ofNat 16 (unsigned b), tier := tier, zone := zone,
            mask := mask.map fun b => BitVec.ofNat 16 (unsigned b), window := window }
        if a.isEmpty then none else some (BitVec.ofNat 32 (unsigned (params.take 4)), a)
      | _, _, _ => none
    | _ => none

/-- A pass with each named field replaced (R79). -/
def Amendment.apply (a : Amendment) (p : Pass) : Pass :=
  { p with code := a.code.getD p.code, tier := a.tier.getD p.tier, home := (a.zone.map Prod.fst).getD p.home,
           width := (a.zone.map Prod.snd).getD p.width, mask := a.mask.getD p.mask,
           validFrom := (a.window.map Prod.fst).getD p.validFrom, validUntil := (a.window.map Prod.snd).getD p.validUntil }

/-- An amended pass expires directly: its window has ended, or it had begun and no longer has (R79). -/
def amendExpires (old new : Pass) (now : Phase) : Bool := new.ended now || (old.begun now && !new.begun now)

/-- An amend of the pass in a slot that passes R78 (R79, R80). -/
def State.amendPass (s : State) (slot : Nat) (p : Pass) (a : Amendment) : Reply × State :=
  let q := a.apply p
  let t := (s.setPass slot q).count (.pass .amends)
  if amendExpires p q s.phase then
    (Reply.done [byteOf PassState.expired.ctorIdx, 0#8, byteOf q.bound.length], t.expireDirectly slot q)
  else
    (Reply.done [byteOf q.state.ctorIdx, byteOf q.bound.length, 0#8],
      q.bound.foldl (fun s ix => s.reload slot q ix) t)

/-- The pass that a number names, with its slot (R71). -/
def State.passNumbered (s : State) (n : Word) : Option (Nat × Pass) :=
  match s.passMap.find n.toNat with
  | none => none
  | some slot => (s.passes.find slot).map fun p => (slot, p)

/-- The owner of PASS_AMEND (R78). -/
def ownPassAmend (params : List Byte) (s : State) : Reply × State :=
  match amendmentOf params with
  | none => (Reply.badArg, s)
  | some (n, a) =>
    match s.passNumbered n with
    | none => (Reply.plain .notFound, s)
    | some (slot, p) =>
      if p.inForce then s.amendPass slot p a else ({ answer := .conflict, block := [byteOf p.state.ctorIdx] }, s)

/-- PASS_AMEND (R78, R79). -/
def execPassAmend (lane : LaneIx) (s : State) : Host.Outcome State Fault Refusal := serve lane .passAmend ownPassAmend s

/-! ### PASS_REVOKE, PASS_REMOVE, PASS_UNLOCK (R81, R82, R85) -/

/-- The pass number that a parameter block of four bytes holds. -/
def passNumberOf (params : List Byte) : Option Word :=
  if params.length = 4 then some (BitVec.ofNat 32 (unsigned params)) else none

/-- A revoke of the pass in a slot (R81). -/
def State.revokePass (s : State) (slot : Nat) (p : Pass) : Reply × State :=
  let t := (if p.inForce then s.endPass slot p .revoked else s.setPass slot { p with state := .revoked }).count
    (.pass .revocations)
  (Reply.done [byteOf p.state.ctorIdx, byteOf (if p.inForce then p.bound.length else 0)],
    if p.inForce && !p.bound.isEmpty then t.note .passRevokedWithBoundStations else t)

/-- The owner of PASS_REVOKE (R81). -/
def ownPassRevoke (params : List Byte) (s : State) : Reply × State :=
  match passNumberOf params with
  | none => (Reply.badArg, s)
  | some n =>
    match s.passNumbered n with
    | none => (Reply.plain .notFound, s)
    | some (slot, p) => s.revokePass slot p

/-- PASS_REVOKE (R81). -/
def execPassRevoke (lane : LaneIx) (s : State) : Host.Outcome State Fault Refusal := serve lane .passRevoke ownPassRevoke s

/-- A removal of the pass in a slot (R82). -/
def State.removePass (s : State) (slot : Nat) (p : Pass) : Reply × State :=
  let t := s.unbindAll slot p.bound
  (Reply.done (be16 slot ++ [byteOf p.state.ctorIdx, byteOf p.bound.length]),
    { t with passes := t.passes.drop slot, passMap := t.passMap.drop p.number.toNat }.count (.pass .removals))

/-- The owner of PASS_REMOVE (R82). -/
def ownPassRemove (params : List Byte) (s : State) : Reply × State :=
  match passNumberOf params with
  | none => (Reply.badArg, s)
  | some n =>
    match s.passNumbered n with
    | none => (Reply.plain .notFound, s)
    | some (slot, p) => s.removePass slot p

/-- PASS_REMOVE (R82). -/
def execPassRemove (lane : LaneIx) (s : State) : Host.Outcome State Fault Refusal := serve lane .passRemove ownPassRemove s

/-- The owner of PASS_UNLOCK (R85). -/
def ownPassUnlock (params : List Byte) (s : State) : Reply × State :=
  match passNumberOf params with
  | none => (Reply.badArg, s)
  | some n =>
    match s.passNumbered n with
    | none => (Reply.plain .notFound, s)
    | some (slot, p) =>
      if p.state = .locked then
        (Reply.done [], (s.setPass slot { p with state := .active, mismatches := 0 }).count (.pass .unlocks))
      else ({ answer := .conflict, block := [byteOf p.state.ctorIdx] }, s)

/-- PASS_UNLOCK (R85). -/
def execPassUnlock (lane : LaneIx) (s : State) : Host.Outcome State Fault Refusal := serve lane .passUnlock ownPassUnlock s

/-! ### The expiry sweep (R86 to R89) -/

/-- A run of the expiry sweep starts at slot 0, abandoning any run under way (R87). -/
def State.startExpirySweep (s : State) : State :=
  let t := { s with expirySweep := { running := true, cursor := 0 } }.count (.pass .sweepsStarted)
  if s.expirySweep.running then t.count (.pass .sweepRestarts) else t

/-- The visit of one slot by the expiry sweep (R88). -/
def State.expiryVisit (s : State) (slot : Nat) : State :=
  match s.passes.find slot with
  | none => s
  | some p => if p.overdue s.phase then (s.endPass slot p .expired).count (.pass .sweepExpiries) else s

/-- EXPIRY_SWEEP_VISIT (R88, R89): the run visits the slot at its cursor; after slot 8191 it completes. -/
def execExpirySweepVisit (s : State) : Host.Outcome State Fault Refusal :=
  event s fun s =>
    if s.expirySweep.running then
      let t := s.expiryVisit s.expirySweep.cursor
      if s.expirySweep.cursor + 1 < Config.passSlots then
        { t with expirySweep := { running := true, cursor := s.expirySweep.cursor + 1 } }
      else ({ t with expirySweep := Sweep.stopped }.count (.pass .sweepsCompleted)).note .expirySweepComplete
    else s

end Sys2Proof.Machine
end

