-- ==== Sys2Proof/Machine/Replay.lean ====
section
/-! DEFINITION. The replay block's rows (chapter 6): SUBSCRIBE, UNSUBSCRIBE, CHANNEL_OPEN, CHANNEL_CLOSE and the ingress of replay
packets. -/

namespace Sys2Proof.Machine

/-! ### SUBSCRIBE and UNSUBSCRIBE (R118, R119) -/

/-- One SUB_RESULT to the radio that sent the message; the channel byte is repeated as it came (section 6.4, section 11.3). -/
def State.subAnswer (s : State) (r : RadioIx) (ix : Nat) (channel : Byte) (result : SubResult) : State :=
  s.send r (.subResult ix channel result)

/-- Step 4 of R118: the entry appended with awaiting key set, the station appended to the group of its current radio, and the paused
flag evaluated. -/
def State.addEntry (s : State) (r : RadioIx) (ix : Nat) (st : Station) (c : ChannelIx) : State :=
  ((s.setStation ix
      { st with subs := st.subs ++ [{ channel := c, awaitingKey := true, paused := pausedNow s.channels st c }] }).joinGroup r c
    ix).count (.replay .added)

/-- The case table of R118 for the current radio. -/
def State.subscribeHere (s : State) (r : RadioIx) (ix : Nat) (st : Station) (channel : Byte) : State :=
  match channelOf channel with
  | none =>
    if Config.subscriptionLimit ≤ st.subs.length then (s.count (.replay .answeredLimit)).subAnswer r ix channel .limit
    else (s.count (.replay .answeredDenied)).subAnswer r ix channel .denied
  | some c =>
    if (st.entry c).isSome then (s.count (.replay .confirmed)).subAnswer r ix channel .ok
    else if Config.subscriptionLimit ≤ st.subs.length then (s.count (.replay .answeredLimit)).subAnswer r ix channel .limit
    else if permitted s.channels st.binding c then (s.addEntry r ix st c).subAnswer r ix channel .ok
    else (s.count (.replay .answeredDenied)).subAnswer r ix channel .denied

/-- A SUBSCRIBE that passes the screen (R118): NOT_HERE from the target of an outward handoff, the case table otherwise. -/
def State.subscribe (s : State) (r : RadioIx) (ix : Nat) (st : Station) (channel : Byte) : State :=
  if st.current = r then s.subscribeHere r ix st channel
  else (s.count (.replay .answeredNotHere)).subAnswer r ix channel .notHere

/-- SUBSCRIBE (R118). -/
def execSubscribe (r : RadioIx) (sequence : Byte) (station : Half) (channel : Byte) (s : State) :
    Host.Outcome State Fault Refusal :=
  event s fun s => s.receive r sequence fun s => s.screen r station fun ix st s => s.subscribe r ix st channel

/-- A station's entry for a channel removed from its list, and the station from the group it is in (R113, R119). -/
def State.dropEntry (s : State) (ix : Nat) (st : Station) (c : ChannelIx) : State :=
  let t := s.setStation ix { st with subs := st.subs.filter fun e => e.channel != c }
  match st.groupRadio with
  | none => t
  | some r => t.leaveGroup r c ix

/-- The cases of R119 for the current radio. -/
def State.unsubscribeHere (s : State) (ix : Nat) (st : Station) (channel : Byte) : State :=
  match channelOf channel with
  | none => s.count (.replay .unsubscribedEmpty)
  | some c =>
    if (st.entry c).isSome then (s.dropEntry ix st c).count (.replay .unsubscribed)
    else s.count (.replay .unsubscribedEmpty)

/-- An UNSUBSCRIBE that passes the screen (R119). -/
def State.unsubscribe (s : State) (r : RadioIx) (ix : Nat) (st : Station) (channel : Byte) : State :=
  if st.current = r then (s.unsubscribeHere ix st channel).subAnswer r ix channel .ok
  else (s.count (.replay .answeredNotHere)).subAnswer r ix channel .notHere

/-- UNSUBSCRIBE (R119). -/
def execUnsubscribe (r : RadioIx) (sequence : Byte) (station : Half) (channel : Byte) (s : State) :
    Host.Outcome State Fault Refusal :=
  event s fun s => s.receive r sequence fun s => s.screen r station fun ix st s => s.unsubscribe r ix st channel

/-! ### CHANNEL_OPEN and CHANNEL_CLOSE (R112 to R114) -/

/-- A channel record replaced. -/
def State.setChannel (s : State) (c : ChannelIx) (ch : Channel) : State := { s with channels := s.channels.set c ch }

/-- A channel's attributes as the two bytes of a result block (R112, R175). -/
def attributeBytes (openAll seatLocked : Bool) : List Byte := [flagByte openAll, flagByte seatLocked]

/-- The station holds an entry for a channel that is not permitted to it. -/
def forbiddenTo (channels : Vector Channel 16) (c : ChannelIx) (st : Station) : Bool :=
  (st.entry c).isSome && !permitted channels st.binding c

/-- The pause evaluation of a station's entry for one channel (R113, R117). -/
def Station.reflaggedFor (channels : Vector Channel 16) (c : ChannelIx) (st : Station) : Station :=
  { st with subs := st.subs.map fun e => if e.channel = c then reflag channels st e else e }

/-- What a CHANNEL_OPEN of a LIVE channel does to one subscriber, whose channel has its new attributes (R113). -/
def State.examine (c : ChannelIx) (openCleared lockChanged : Bool) (s : State) (ix : Nat) : State :=
  match s.stations.find ix with
  | none => s
  | some st =>
    if openCleared && forbiddenTo s.channels c st then (s.dropEntry ix st c).count (.replay .pruned)
    else if lockChanged then s.setStation ix (st.reflaggedFor s.channels c)
    else s

/-- A CHANNEL_OPEN of a CLOSED channel (R112). -/
def State.openClosed (s : State) (c : ChannelIx) (openAll seatLocked : Bool) : Reply × State :=
  (Reply.done ([byteOf ChannelState.closed.ctorIdx] ++ attributeBytes openAll seatLocked),
    (s.setChannel c { state := .live, openAll := openAll, seatLocked := seatLocked, expected := none }).count (.replay .opens))

/-- A CHANNEL_OPEN of a LIVE channel (R113): the stations are examined in ascending index. -/
def State.openLive (s : State) (c : ChannelIx) (openAll seatLocked : Bool) : Reply × State :=
  let ch := s.channels[c]
  let t := s.setChannel c { ch with openAll := openAll, seatLocked := seatLocked }
  let openCleared := ch.openAll && !openAll
  (Reply.done ([byteOf ChannelState.live.ctorIdx] ++ attributeBytes ch.openAll ch.seatLocked ++
      attributeBytes openAll seatLocked ++
      be16 (if openCleared then (t.stations.filter fun e => forbiddenTo t.channels c e.2).length else 0)),
    ((t.stations.map Prod.fst).foldl (State.examine c openCleared (ch.seatLocked != seatLocked)) t).count (.replay .opens))

/-- The owner of CHANNEL_OPEN (R112, R113). -/
def ownChannelOpen (params : List Byte) (s : State) : Reply × State :=
  match params with
  | [c, o, l] =>
    match channelOf c, flagOf o, flagOf l with
    | some c, some o, some l => if s.channels[c].state = .live then s.openLive c o l else s.openClosed c o l
    | _, _, _ => (Reply.badArg, s)
  | _ => (Reply.badArg, s)

/-- CHANNEL_OPEN (R112, R113). -/
def execChannelOpen (lane : LaneIx) (s : State) : Host.Outcome State Fault Refusal := serve lane .channelOpen ownChannelOpen s

/-- A station without its entry for a channel. -/
def Station.without (c : ChannelIx) (st : Station) : Station := { st with subs := st.subs.filter fun e => e.channel != c }

/-- The radios that have a group for a channel, ascending (R127). -/
def State.groupRadios (s : State) (c : ChannelIx) : List RadioIx :=
  (List.finRange 64).filter fun r => (s.group r c).isSome

/-- The stations that hold an entry for a channel. -/
def State.subscribers (s : State) (c : ChannelIx) : List (Nat × Station) := s.stations.filter fun e => (e.2.entry c).isSome

/-- Every group of a channel discarded, each counted (R114, R116). -/
def State.discardChannel (s : State) (c : ChannelIx) : State := (s.groupRadios c).foldl (fun s r => s.discardGroup r c) s

/-- A CHANNEL_CLOSE of a LIVE channel (R114): the block holds the two counts that the rule names. -/
def State.closeLive (s : State) (c : ChannelIx) : Reply × State :=
  (Reply.done (be16 (s.subscribers c).length ++ [byteOf (s.groupRadios c).length]),
    (({ s with stations := s.stations.map fun (e : Nat × Station) => (e.1, e.2.without c) }.setChannel c
      Channel.closed).discardChannel c).count (.replay .closes))

/-- The owner of CHANNEL_CLOSE (R114). DESIGN CHOICE (log entry 35): a block of one byte, the channel state CLOSED, reports that the
channel was already CLOSED. -/
def ownChannelClose (params : List Byte) (s : State) : Reply × State :=
  match params with
  | [c] =>
    match channelOf c with
    | none => (Reply.badArg, s)
    | some c =>
      if s.channels[c].state = .live then s.closeLive c else (Reply.done [byteOf ChannelState.closed.ctorIdx], s)
  | _ => (Reply.badArg, s)

/-- CHANNEL_CLOSE (R114). -/
def execChannelClose (lane : LaneIx) (s : State) : Host.Outcome State Fault Refusal :=
  serve lane .channelClose ownChannelClose s

/-! ### Packet ingress (R125, R126) -/

/-- The expected sequence after a packet that is taken (R125). -/
def State.expect (s : State) (p : Packet) : State :=
  s.setChannel p.channel { s.channels[p.channel] with expected := some (p.sequence + 1) }

/-- A packet offered to every group of its channel that exists now (R126). -/
def State.offer (s : State) (p : Packet) : State :=
  { s with offers := s.offers ++
      (s.groupRadios p.channel).map fun r => { radio := r, channel := p.channel, packet := p } }

/-- A group's delivery state written (R116). -/
def State.deliver (s : State) (r : RadioIx) (c : ChannelIx) (d : Delivery) : State :=
  match s.group r c with
  | none => s
  | some g => { s with groups := s.groups.put (groupKey r c) { g with delivery := d } }

/-- Every group of a channel takes SKIP_TO_KEY (R126). -/
def State.skipChannel (s : State) (c : ChannelIx) : State :=
  (s.groupRadios c).foldl (fun s r => s.deliver r c .skipToKey) s

/-- A packet that is taken is counted and moves the expected sequence past it (R125). -/
def State.takePacket (s : State) (p : Packet) : State := (s.expect p).count (.channel p.channel .packetsReceived)

/-- A gap (R126): counted and noticed; a DELTA puts every group of the channel in SKIP_TO_KEY, a KEY is offered. -/
def State.gap (s : State) (p : Packet) : State :=
  let t := (s.count (.channel p.channel .sequenceGaps)).note .replaySequenceGap
  match p.cls with
  | .delta => (t.skipChannel p.channel).count (.channel p.channel .gapDeltaDrops)
  | .key => t.offer p

/-- The checks of R125 from step 2 on. -/
def State.ingress (s : State) (p : Packet) : State :=
  if s.channels[p.channel].state = .closed then (s.count (.replay .closedDrops)).note .closedChannel
  else
    match s.channels[p.channel].expected with
    | none => (s.takePacket p).offer p
    | some x =>
      if p.sequence = x then (s.takePacket p).offer p
      else if (p.sequence - x).toNat < 32768 then (s.takePacket p).gap p
      else s.count (.channel p.channel .stalePackets)

/-- REPLAY_PACKET (R125, R126, R178). -/
def execReplayPacket (frameCheck : Bool) (body : List Byte) (s : State) : Host.Outcome State Fault Refusal :=
  event s fun s =>
    if !frameCheck then s.count (.trunk .badFrames)
    else
      match packetOf body with
      | none => s.count (.replay .malformedPackets)
      | some p => s.ingress p

end Sys2Proof.Machine
end

