-- ==== Sys2Proof/Machine/Airtime.lean ====
section
/-! DEFINITION. The airtime block (chapter 7): the time on air, the decision for one packet and one group, and the refill. -/

namespace Sys2Proof.Machine

/-! ### The time on air (R128) -/

/-- The radio rate of a rate class, in Mb/s (R128). -/
def rateOf (r : RateClass) : Nat := #v[6, 12, 18, 24, 36, 48, 72, 96, 144, 192, 288, 384][r]

/-- The time on air of a packet of L bytes at a rate class, in microseconds, rounded up (R128). -/
def airtime (length : Nat) (r : RateClass) : Nat := (8 * length + rateOf r - 1) / rateOf r

/-! ### Recipients, cost and mode (R129 to R131) -/

/-- A member of a recipient set: its station index, the device address its copy goes to and the rate class it is priced at. -/
structure Recipient where
  station : Nat
  device : Address
  rate : RateClass
  deriving DecidableEq, Repr

/-- A member is a recipient of a packet of this class: it is active, and for a DELTA it does not await a key (R129). -/
def receives (cls : ReplayClass) (st : Station) (c : ChannelIx) : Bool :=
  match st.entry c with
  | none => false
  | some e => !e.paused && (cls = .key || !e.awaitingKey)

/-- The recipient set S of a packet of this class among these members, in member-list order (R129). -/
def State.recipients (s : State) (c : ChannelIx) (cls : ReplayClass) (members : List Nat) : List Recipient :=
  members.filterMap fun ix =>
    match s.stations.find ix with
    | none => none
    | some st => if receives cls st c then some { station := ix, device := st.device, rate := st.rate } else none

/-- The unicast total U of a recipient set (R130). -/
def unicastTotal (length : Nat) (dest : List Recipient) : Nat :=
  (dest.map fun m => airtime length m.rate + Config.unicastOverhead).sum

/-- The lowest rate class of a recipient set (R130). -/
def lowestRate (dest : List Recipient) : RateClass := dest.foldl (fun r m => if m.rate < r then m.rate else r) 11

/-- The multicast cost of a recipient set (R130). -/
def multicastCost (length : Nat) (dest : List Recipient) : Nat := airtime length (lowestRate dest) + Config.multicastOverhead

/-- The mode of a decision is UNICAST: at most 8 recipients, and U at most the multicast cost and the bias (R131). -/
def choosesUnicast (length bias : Nat) (dest : List Recipient) : Bool :=
  decide (dest.length ≤ Config.fanOutLimit) && decide (unicastTotal length dest ≤ multicastCost length dest + bias)

/-- The cost K of a decision (R131). -/
def decisionCost (length bias : Nat) (dest : List Recipient) : Nat :=
  if choosesUnicast length bias dest then unicastTotal length dest else multicastCost length dest

/-- The copies of a decision: one for each recipient in order, or one for the group at the lowest rate (R134). -/
def copies (c : ChannelIx) (p : Packet) (bias : Nat) (dest : List Recipient) : List TxEntry :=
  if choosesUnicast p.contents.length bias dest then dest.map fun m => .unicast m.station m.device m.rate p
  else [.multicast (0x015A01000000#48 + BitVec.ofNat 48 c.val) (lowestRate dest) p]

/-! ### Room, credit and send (R132 to R134) -/

/-- A radio's credit after a charge that it can bear: credit in hand, or for a KEY a borrowing down to minus half the refill; none
where the refill is 0 or the credit is too short (R133, R140). -/
def creditAfter (p : Profile) (credit : Int) (cls : ReplayClass) (cost : Nat) : Option Int :=
  if p.refill = 0 then none
  else if (cost : Int) ≤ credit then some (credit - cost)
  else if cls = .key ∧ -((p.refill / 2 : Nat) : Int) ≤ credit - cost then some (credit - cost)
  else none

/-- A radio's credit written. -/
def State.setCredit (s : State) (r : RadioIx) (c : Int) : State := { s with credit := s.credit.set r c }

/-- Awaiting key cleared in a station's entry for a channel (R134). -/
def State.clearAwaiting (c : ChannelIx) (s : State) (ix : Nat) : State :=
  match s.stations.find ix with
  | none => s
  | some st =>
    s.setStation ix { st with subs := st.subs.map fun e => if e.channel = c then { e with awaitingKey := false } else e }

/-- The group's state after a send: a KEY puts it in step and clears awaiting key for every recipient; a DELTA changes nothing
(R134). -/
def State.afterSend (s : State) (r : RadioIx) (c : ChannelIx) (cls : ReplayClass) (dest : List Recipient) : State :=
  match cls with
  | .delta => s
  | .key => (dest.map Recipient.station).foldl (State.clearAwaiting c) (s.deliver r c .inStep)

/-- A send, with its charge (R133, R134). -/
def State.sendCopies (s : State) (r : RadioIx) (c : ChannelIx) (p : Packet) (dest : List Recipient) (credit : Int) : State :=
  let bias := s.links[r].profile.bias
  let cost := decisionCost p.contents.length bias dest
  let t := ((s.setCredit r credit).enqueue r (copies c p bias dest)).afterSend r c p.cls dest
  let t := if (cost : Int) ≤ s.credit[r] then t else t.count (.airtime r .keyBorrows)
  let t := (t.addTo (.airtime r .airtimeCharged) cost).count
    (.airtime r (if choosesUnicast p.contents.length bias dest then .unicastSends else .multicastSends))
  t.addTo (.airtime r .copiesEnqueued) (copies c p bias dest).length

/-- A drop for want of queue room (R132). -/
def State.dropForRoom (s : State) (r : RadioIx) (c : ChannelIx) : State :=
  ((s.deliver r c .skipToKey).count (.airtime r .queueOverflowDrops)).note .transmitQueueOverflow

/-- A drop for want of credit (R133, R140). -/
def State.dropForBudget (s : State) (r : RadioIx) (c : ChannelIx) : State :=
  ((s.deliver r c .skipToKey).count (.airtime r .budgetDrops)).note .budgetDrop

/-- The steps of R132 to R134 for a recipient set that is not empty. -/
def State.decideFor (s : State) (r : RadioIx) (c : ChannelIx) (p : Packet) (dest : List Recipient) : State :=
  let bias := s.links[r].profile.bias
  if s.room r < (copies c p bias dest).length then s.dropForRoom r c
  else
    match creditAfter s.links[r].profile s.credit[r] p.cls (decisionCost p.contents.length bias dest) with
    | none => s.dropForBudget r c
    | some credit => s.sendCopies r c p dest credit

/-- The decision for one packet and one group (R129 to R134). -/
def State.decideGroup (s : State) (r : RadioIx) (c : ChannelIx) (g : Group) (p : Packet) : State :=
  if p.cls = .delta ∧ g.delivery = .skipToKey then s.count (.airtime r .deltasSkipped)
  else if s.recipients c p.cls g.members = [] then s.count (.airtime r .emptyRecipients)
  else s.decideFor r c p (s.recipients c p.cls g.members)

/-- The offer of this number among those of a group, with the offers that are left (R126). -/
def takeOffer (offers : List Offer) (r : RadioIx) (c : ChannelIx) (which : Nat) : Option (Packet × List Offer) :=
  match offers with
  | [] => none
  | o :: rest =>
    if o.radio = r ∧ o.channel = c then
      match which with
      | 0 => some (o.packet, rest)
      | n + 1 => (takeOffer rest r c n).map fun x => (x.1, o :: x.2)
    else (takeOffer rest r c which).map fun x => (x.1, o :: x.2)

/-- GROUP_DECISION (R129 to R134, R140): a decision that is due is taken; there is none where the group has no such offer, as after
its discard (R126). -/
def execGroupDecision (r : RadioIx) (c : ChannelIx) (which : Nat) (s : State) : Host.Outcome State Fault Refusal :=
  event s fun s =>
    match takeOffer s.offers r c which with
    | none => s
    | some (p, rest) =>
      match s.group r c with
      | none => { s with offers := rest }
      | some g => { s with offers := rest }.decideGroup r c g p

/-! ### The refill (R136) -/

/-- What one refill does to a radio: the credit rises by the refill up to the cap, and what the cap cuts off is counted (R136). -/
def State.refilled (s : State) (r : RadioIx) : State :=
  (s.setCredit r (min (s.credit[r] + s.links[r].profile.refill) s.links[r].profile.cap)).addTo (.airtime r .refillOverflow)
    (s.credit[r] + s.links[r].profile.refill - s.links[r].profile.cap).toNat

/-- REFILL (R136): a refill that a budget period expiry has brought to the radio is taken; there is none to take where none is due
(log entry 3). -/
def execRefill (r : RadioIx) (s : State) : Host.Outcome State Fault Refusal :=
  event s fun s =>
    if s.refillsDue[r] = 0 then s else { s with refillsDue := s.refillsDue.set r (s.refillsDue[r] - 1) }.refilled r

end Sys2Proof.Machine
end

