-- ==== Sys2Proof/Machine/Clock.lean ====
section
/-! DEFINITION. The sector clock and phase block (chapter 8): sector time, the two device timers, the sector settings, the match phase,
MATCH_CLEAR and power-on reset. -/

namespace Sys2Proof.Machine

/-! ### Power-on reset and the timers (R144, R146, R147, R152) -/

/-- POWER_ON_RESET (R152): the pin goes low and holds the device in reset, until it leaves reset, with carrier on the given seat links
(log entry 40). The commands that wait, and what was put on the wires before, are outside the device (log entries 1 and 7). -/
def execPowerOnReset (e : ResetEvent) (s : State) : Host.Outcome State Fault Refusal :=
  match e with
  | .held => .next { s with inReset := true }
  | .left carrier => .next { State.powerOn carrier with wire := s.wire, draws := s.draws, pending := s.pending }

/-- SECTOR_TIME_TICK (R144, R146): sector time rises by one, modulo 2^32, and the keepalive sample timer moves one millisecond on; at
the end of its period it brings a sample expiry to each link. -/
def execSectorTimeTick (s : State) : Host.Outcome State Fault Refusal :=
  event s fun s =>
    if s.samplePosition + 1 < Config.samplePeriod then
      { s with sectorTime := s.sectorTime + 1, samplePosition := s.samplePosition + 1 }
    else
      { s with sectorTime := s.sectorTime + 1, samplePosition := 0, samplesDue := s.samplesDue.map (· + 1) }

/-- BUDGET_PERIOD_EXPIRY (R147): of the budget period timer, when its next expiry is passed; a refill is brought to each radio and the
timer reloads itself with the setting as it stands. -/
def execBudgetPeriodExpiry (s : State) : Host.Outcome State Fault Refusal :=
  event s fun s =>
    if passed s.nextExpiry s.sectorTime then
      { s with refillsDue := s.refillsDue.map (· + 1), periodInForce := s.settings.budgetPeriod,
               nextExpiry := deadlineAfter s.nextExpiry s.settings.budgetPeriod }
    else s

/-! ### SECTOR_SET (R148, R138) -/

/-- The four settings, in the order of the table of R148. -/
inductive Setting where
  | handoffTimeout | returnGuard | orphanHold | budgetPeriod
  deriving DecidableEq, Repr

/-- The setting that a byte names (R148, R175). -/
def settingOf (b : Byte) : Option Setting :=
  match b.toNat with
  | 0 => some .handoffTimeout
  | 1 => some .returnGuard
  | 2 => some .orphanHold
  | 3 => some .budgetPeriod
  | _ => none

/-- A setting's value. -/
def Settings.get (v : Settings) : Setting → Nat
  | .handoffTimeout => v.handoffTimeout
  | .returnGuard => v.returnGuard
  | .orphanHold => v.orphanHold
  | .budgetPeriod => v.budgetPeriod

/-- A setting written; the others stand. -/
def Settings.put (v : Settings) (k : Setting) (n : Nat) : Settings :=
  match k with
  | .handoffTimeout => { v with handoffTimeout := n }
  | .returnGuard => { v with returnGuard := n }
  | .orphanHold => { v with orphanHold := n }
  | .budgetPeriod => { v with budgetPeriod := n }

/-- A value clamped into its setting's range (R148). -/
def Setting.clamp : Setting → Nat → Nat
  | .handoffTimeout, n => clampTo 5 500 n
  | .returnGuard, n => clampTo 0 10000 n
  | .orphanHold, n => clampTo 1 600 n
  | .budgetPeriod, n => clampTo 1 100 n

/-- The radios whose refill a new budget period clamps, ascending (R138). -/
def State.overRefilled (s : State) (period : Nat) : List RadioIx :=
  (List.finRange 64).filter fun r => period * 1000 < s.links[r].profile.refill

/-- A radio's refill clamped to a new budget period, and its credit with it (R138). -/
def State.clampRadio (period : Nat) (s : State) (r : RadioIx) : State :=
  (s.setLink r { s.links[r] with profile := { s.links[r].profile with refill := period * 1000 } }).setCredit r
    (clampCredit (period * 1000) s.links[r].profile.cap s.credit[r])

/-- The list of clamped radios in a result block: each radio, its refill before and after (R138, R148). -/
def State.clampedBytes (s : State) (period : Nat) (radios : List RadioIx) : List Byte :=
  [byteOf radios.length] ++
    radios.flatMap fun r => [byteOf r.val] ++ be16 s.links[r].profile.refill ++ be16 (period * 1000)

/-- The radios that a SECTOR_SET clamps: none unless it changes the budget period (R138, R148). -/
def State.sectorClamps (s : State) (k : Setting) (n : Nat) : List RadioIx :=
  if k = .budgetPeriod ∧ n ≠ s.settings.budgetPeriod then s.overRefilled n else []

/-- What a SECTOR_SET of a known setting does, with its value clamped (R148). -/
def State.setSector (s : State) (k : Setting) (value : Nat) : Reply × State :=
  let n := k.clamp value
  (Reply.done ([byteOf k.ctorIdx] ++ be16 (s.settings.get k) ++ be16 n ++ [flagByte (n != value)] ++
      (if k = .budgetPeriod then s.clampedBytes n (s.sectorClamps k n) else [])),
    ((s.sectorClamps k n).foldl (State.clampRadio n) { s with settings := s.settings.put k n }).count (.sector .settingsApplied))

/-- The owner of SECTOR_SET (R148). -/
def ownSectorSet (params : List Byte) (s : State) : Reply × State :=
  match params with
  | [k, v1, v0] =>
    match settingOf k with
    | none => (Reply.badArg, s)
    | some k => s.setSector k (unsigned [v1, v0])
  | _ => (Reply.badArg, s)

/-- SECTOR_SET (R148). -/
def execSectorSet (lane : LaneIx) (s : State) : Host.Outcome State Fault Refusal := serve lane .sectorSet ownSectorSet s

/-! ### PHASE_SET (R149) -/

/-- What a PHASE_SET of a valid phase does (R149). DESIGN CHOICE (log entry 38): the result block of ORDER is empty. -/
def State.setPhase (s : State) (p : Phase) : Reply × State :=
  if p.value < s.phase.value then (Reply.plain .order, s.count (.sector .orderRefusals))
  else if p.value = s.phase.value then (Reply.done [byteOf s.phase.value, byteOf p.value, flagByte false], s)
  else
    (Reply.done ([byteOf s.phase.value, byteOf p.value] ++ abandonedBytes s.expirySweep),
      ({ s with phase := p }.startExpirySweep).count (.sector .phaseAdvances))

/-- The owner of PHASE_SET (R149). -/
def ownPhaseSet (params : List Byte) (s : State) : Reply × State :=
  match params with
  | [b] =>
    match phaseOf b with
    | none => (Reply.badArg, s)
    | some p => s.setPhase p
  | _ => (Reply.badArg, s)

/-- PHASE_SET (R149). -/
def execPhaseSet (lane : LaneIx) (s : State) : Host.Outcome State Fault Refusal := serve lane .phaseSet ownPhaseSet s

/-! ### MATCH_CLEAR (R150) -/

/-- The state that MATCH_CLEAR leaves, before it is counted (R150): every table at its empty condition, every credit at its radio's
refill, the phase PREGAME; everything else as it stands. -/
def State.cleared (s : State) : State :=
  { s with stations := [], addressMap := [], stationCount := Vector.replicate 64 0, holdFree := Config.holdPool, passes := [],
           passMap := [], expirySweep := Sweep.stopped, zoneSweep := Sweep.stopped,
           channels := Vector.replicate 16 Channel.closed, groups := [], offers := [],
           credit := s.links.map fun l => (l.profile.refill : Int), phase := .pregame }

/-- What MATCH_CLEAR reports of the state it clears (R150). -/
def State.clearReport (s : State) : List Byte :=
  be16 s.stations.length ++ be16 s.passes.length ++
    [byteOf ((List.finRange 16).filter fun c => decide (s.channels[c].state = .live)).length] ++ be16 s.groups.length ++
    [flagByte s.expirySweep.running, flagByte s.zoneSweep.running]

/-- The owner of MATCH_CLEAR (R150). -/
def ownMatchClear (params : List Byte) (s : State) : Reply × State :=
  match params with
  | [] => (Reply.done s.clearReport, s.cleared.count (.sector .matchClears))
  | _ => (Reply.badArg, s)

/-- MATCH_CLEAR (R150). -/
def execMatchClear (lane : LaneIx) (s : State) : Host.Outcome State Fault Refusal := serve lane .matchClear ownMatchClear s

end Sys2Proof.Machine
end

