-- ==== Sys2Proof/Machine/Notices.lean ====
section
/-! DEFINITION. The five notice requests (section 10.3). Each acts on the notice state of the lane that sends it; the line evaluation
that follows is the event's (R168). -/

namespace Sys2Proof.Machine

/-- A master's notice state replaced. -/
def State.setNotice (s : State) (lane : LaneIx) (n : Notice) : State := { s with notices := s.notices.set lane n }

/-- A set of source numbers of a group that the byte names; none where it names one the group does not have (R165, R175). -/
def sourcesOf (g : NoticeGroup) (b : Byte) : Option (BitVec 4) :=
  if b &&& ~~~(sourcesByte (groupSources g)) = 0#8 then some (b.truncate 4) else none

/-! ### NOTICE_LEVELS_SET (R169) -/

/-- A group's level and enables written (R169). -/
def Notice.withLevel (n : Notice) (g : NoticeGroup) (l : Level) (e : BitVec 4) : Notice :=
  { n with levels := n.levels.set g l, enables := n.enables.set g e }

/-- The owner of NOTICE_LEVELS_SET for the lane that sends it (R169). DESIGN CHOICE: the block gives level and enables before, then
level and enables after (log entry 39), and a group number takes 1 byte (log entry 36). -/
def ownNoticeLevelsSet (lane : LaneIx) (params : List Byte) (s : State) : Reply × State :=
  match params with
  | [g, l, e] =>
    match levelOf g, levelOf l with
    | some g, some l =>
      match sourcesOf g e with
      | none => (Reply.badArg, s)
      | some e =>
        let n := s.notices[lane]
        (Reply.done [byteOf n.levels[g].val, sourcesByte n.enables[g], byteOf l.val, sourcesByte e],
          s.setNotice lane (n.withLevel g l e))
    | _, _ => (Reply.badArg, s)
  | _ => (Reply.badArg, s)

/-- NOTICE_LEVELS_SET (R169). -/
def execNoticeLevelsSet (lane : LaneIx) (s : State) : Host.Outcome State Fault Refusal :=
  serve lane .noticeLevelsSet (ownNoticeLevelsSet lane) s

/-! ### NOTICE_MASK_SET (R173) -/

/-- The owner of NOTICE_MASK_SET for the lane that sends it (R173). -/
def ownNoticeMaskSet (lane : LaneIx) (params : List Byte) (s : State) : Reply × State :=
  match params with
  | [l] =>
    match levelOf l with
    | none => (Reply.badArg, s)
    | some l =>
      let n := s.notices[lane]
      if n.saved = [] then (Reply.done [byteOf n.mask.val, byteOf l.val], s.setNotice lane { n with mask := l })
      else ({ answer := .conflict, block := [byteOf n.saved.length, byteOf n.mask.val] }, s)
  | _ => (Reply.badArg, s)

/-- NOTICE_MASK_SET (R173). -/
def execNoticeMaskSet (lane : LaneIx) (s : State) : Host.Outcome State Fault Refusal :=
  serve lane .noticeMaskSet (ownNoticeMaskSet lane) s

/-! ### NOTICE_ACCEPT and NOTICE_RETURN (R171, R172) -/

/-- A master's notice state after the group is accepted: the mask saved on top of the stack and replaced by the group's level (R171). -/
def Notice.accepted (n : Notice) (g : NoticeGroup) : Notice := { n with saved := n.mask :: n.saved, mask := n.levels[g] }

/-- The owner of NOTICE_ACCEPT for the lane that sends it (R171). DESIGN CHOICE (log entry 36): the group number takes 1 byte. -/
def ownNoticeAccept (lane : LaneIx) (params : List Byte) (s : State) : Reply × State :=
  match params with
  | [] =>
    let n := s.notices[lane]
    match n.chosen with
    | none => (Reply.plain .nothingPending, s)
    | some g =>
      (Reply.done [byteOf g.val, byteOf n.levels[g].val, sourcesByte (n.active g), byteOf n.mask.val, byteOf (n.saved.length + 1)],
        s.setNotice lane (n.accepted g))
  | _ => (Reply.badArg, s)

/-- NOTICE_ACCEPT (R171). -/
def execNoticeAccept (lane : LaneIx) (s : State) : Host.Outcome State Fault Refusal :=
  serve lane .noticeAccept (ownNoticeAccept lane) s

/-- The owner of NOTICE_RETURN for the lane that sends it (R172). -/
def ownNoticeReturn (lane : LaneIx) (params : List Byte) (s : State) : Reply × State :=
  match params with
  | [] =>
    let n := s.notices[lane]
    match n.saved with
    | [] => (Reply.plain .nothingSaved, s)
    | m :: rest =>
      (Reply.done [byteOf n.mask.val, byteOf m.val, byteOf rest.length], s.setNotice lane { n with mask := m, saved := rest })
  | _ => (Reply.badArg, s)

/-- NOTICE_RETURN (R172). -/
def execNoticeReturn (lane : LaneIx) (s : State) : Host.Outcome State Fault Refusal :=
  serve lane .noticeReturn (ownNoticeReturn lane) s

/-! ### NOTICE_CLEAR (R170) -/

/-- A master's whole status copy as eight bytes, with its mask level and stack depth (R170). -/
def Notice.report (n : Notice) : List Byte :=
  (n.status.toList.map sourcesByte) ++ [byteOf n.mask.val, byteOf n.saved.length]

/-- The named sources cleared in a master's copy, whether or not they were set (R170). -/
def Notice.clear (n : Notice) (sets : Vector (BitVec 4) 8) : Notice :=
  { n with status := Vector.ofFn fun g : NoticeGroup => n.status[g] &&& ~~~sets[g] }

/-- The eight sets of a NOTICE_CLEAR's parameter block (R170, R175). -/
def clearSetsOf (params : List Byte) : Option (Vector (BitVec 4) 8) :=
  match params with
  | [a, b, c, d, e, f, g, h] =>
    match sourcesOf 0 a, sourcesOf 1 b, sourcesOf 2 c, sourcesOf 3 d, sourcesOf 4 e, sourcesOf 5 f, sourcesOf 6 g, sourcesOf 7 h with
    | some a, some b, some c, some d, some e, some f, some g, some h => some #v[a, b, c, d, e, f, g, h]
    | _, _, _, _, _, _, _, _ => none
  | _ => none

/-- The owner of NOTICE_CLEAR for the lane that sends it (R170). -/
def ownNoticeClear (lane : LaneIx) (params : List Byte) (s : State) : Reply × State :=
  match clearSetsOf params with
  | none => (Reply.badArg, s)
  | some sets => (Reply.done s.notices[lane].report, s.setNotice lane (s.notices[lane].clear sets))

/-- NOTICE_CLEAR (R170). -/
def execNoticeClear (lane : LaneIx) (s : State) : Host.Outcome State Fault Refusal :=
  serve lane .noticeClear (ownNoticeClear lane) s

end Sys2Proof.Machine
end

