-- ==== Sys2Proof/Machine/Inspect.lean ====
section
/-! DEFINITION. The requests that read back (class INSPECT) and COUNTERS_CLEAR: the records of section 11.5. A read changes nothing but
what every service changes: the lane's queue, its response and its counters. -/

namespace Sys2Proof.Machine

/-! ### STATION_READ (R22, section 11.5) -/

/-- An optional radio index; all-ones where it is absent. -/
def radioByte : Option RadioIx → Byte := entryByte

/-- The remaining milliseconds of a deadline; all-ones where it is absent. -/
def remainingBytes (now : Word) : Option Word → List Byte
  | none => be32 0xFFFFFFFF
  | some d => be32 (remaining d now)

/-- A context's handoff target and deadline (R1). -/
def Place.handoffOf : Place → Option (RadioIx × Word)
  | .handoff _ n d _ _ => some (n, d)
  | _ => none

/-- A context's orphan deadline (R1). -/
def Place.orphanOf : Place → Option Word
  | .orphan _ d => some d
  | _ => none

/-- A context's presence flags (section 11.5). -/
def Station.presence (st : Station) : Byte :=
  byteOf ((if st.place.handoffOf.isSome then 1 else 0) + (if st.prior.isSome then 2 else 0) +
    (if st.place.orphanOf.isSome then 4 else 0) + (if st.binding.isSome then 8 else 0))

/-- A subscription entry's flags byte (section 11.5). -/
def Subscription.flags (e : Subscription) : Byte := byteOf ((if e.awaitingKey then 1 else 0) + (if e.paused then 2 else 0))

/-- The record of a context that is not FREE (section 11.5). -/
def Station.record (st : Station) (ix : Nat) (now : Word) : List Byte :=
  [byteOf st.place.code, st.presence] ++ be16 ix ++ be48 st.device ++
    [byteOf st.current.val, radioByte (st.place.handoffOf.map Prod.fst), radioByte (st.prior.map Prior.radio),
      byteOf st.rate.val, st.tier.byte, byteOf st.held.length] ++
    remainingBytes now (st.place.handoffOf.map Prod.snd) ++ remainingBytes now (st.prior.map Prior.deadline) ++
    remainingBytes now st.place.orphanOf ++
    (match st.binding with
      | none => be16 0xFFFF ++ be16 0xFFFF ++ [0#8]
      | some b => be16 b.slot ++ be16 b.mask.toNat ++ [byteOf b.zone.length] ++ b.zone.map fun r => byteOf r.val) ++
    [byteOf st.subs.length] ++ st.subs.flatMap fun e => [byteOf e.channel.val, e.flags]

/-- A read of a context by its index: a FREE context returns offsets 0 to 3 only (R22, section 11.5). -/
def State.stationRecord (s : State) (ix : Nat) : List Byte :=
  match s.stations.find ix with
  | none => [0#8, 0#8] ++ be16 ix
  | some st => st.record ix s.sectorTime

/-- The owner of STATION_READ (R22). -/
def ownStationRead (params : List Byte) (s : State) : Reply × State :=
  match selectorParam 2 6 params with
  | none => (Reply.badArg, s)
  | some (.inl ix) => if ix < Config.stationContexts then (Reply.done (s.stationRecord ix), s) else (Reply.badArg, s)
  | some (.inr a) =>
    match s.lookup (BitVec.ofNat 48 a) with
    | none => (Reply.plain .notFound, s)
    | some ix => (Reply.done (s.stationRecord ix), s)

/-- STATION_READ (R22). -/
def execStationRead (lane : LaneIx) (s : State) : Host.Outcome State Fault Refusal := serve lane .stationRead ownStationRead s

/-! ### PASS_READ (R91) -/

/-- The record of a pass (R91, section 11.5). -/
def Pass.record (p : Pass) (now : Phase) : List Byte :=
  be32 p.number.toNat ++ be16 p.code.toNat ++ [p.tier.byte] ++ be16 p.home ++ [byteOf p.width] ++ be16 p.mask.toNat ++
    [byteOf p.validFrom.value, byteOf p.validUntil.value, byteOf p.state.ctorIdx, byteOf p.mismatches, flagByte (p.overdue now),
      byteOf p.bound.length] ++ p.bound.flatMap be16

/-- A read of a pass slot: a free one returns the slot and the occupancy byte 0 (R91, section 11.5). -/
def State.slotRecord (s : State) (slot : Nat) : List Byte :=
  match s.passes.find slot with
  | none => be16 slot ++ [flagByte false]
  | some p => be16 slot ++ [flagByte true] ++ p.record s.phase

/-- The owner of PASS_READ (R91). -/
def ownPassRead (params : List Byte) (s : State) : Reply × State :=
  match selectorParam 2 4 params with
  | none => (Reply.badArg, s)
  | some (.inl slot) => if slot < Config.passSlots then (Reply.done (s.slotRecord slot), s) else (Reply.badArg, s)
  | some (.inr n) =>
    match s.passMap.find n with
    | none => (Reply.plain .notFound, s)
    | some slot => (Reply.done (s.slotRecord slot), s)

/-- PASS_READ (R91). -/
def execPassRead (lane : LaneIx) (s : State) : Host.Outcome State Fault Refusal := serve lane .passRead ownPassRead s

/-! ### RADIO_READ (R44) -/

/-- A fault arm as an optional value: its kind, its position and its count (R44). DESIGN CHOICE (log entry 36): the position takes
1 byte. -/
def armBytes : Option FaultArm → List Byte
  | none => [flagByte false]
  | some a => [flagByte true, byteOf a.kind.ctorIdx, byteOf a.position, byteOf a.count]

/-- The record of a radio (R23, R44, R143). DESIGN CHOICE (log entry 36): each sequence number takes 1 byte. -/
def State.radioRecord (s : State) (r : RadioIx) : List Byte :=
  let l := s.links[r]
  [byteOf s.stationCount[r], byteOf l.profile.stationLimit, byteOf l.queue.length, byteOf l.state.ctorIdx, flagByte l.carrier,
      byteOf l.sample.ctorIdx, byteOf l.filter, flagByte l.awaitingFirstUp, flagByte l.alertSeen, l.rxSequence, l.txSequence] ++
    armBytes l.arm ++ l.profile.bytes ++ creditBytes s.credit[r]

/-- The owner of RADIO_READ (R44). -/
def ownRadioRead (params : List Byte) (s : State) : Reply × State :=
  match params with
  | [b] =>
    match radioOf b with
    | none => (Reply.badArg, s)
    | some r => (Reply.done (s.radioRecord r), s)
  | _ => (Reply.badArg, s)

/-- RADIO_READ (R44). -/
def execRadioRead (lane : LaneIx) (s : State) : Host.Outcome State Fault Refusal := serve lane .radioRead ownRadioRead s

/-! ### GROUP_READ (R127) -/

/-- A channel record: its state, its attributes byte, its expected sequence and the unset byte (section 11.5). -/
def Channel.record (ch : Channel) : List Byte :=
  [byteOf ch.state.ctorIdx, byteOf ((if ch.openAll then 1 else 0) + (if ch.seatLocked then 2 else 0))] ++
    (match ch.expected with
      | none => be16 0xFFFF ++ [flagByte true]
      | some x => be16 x.toNat ++ [flagByte false])

/-- A group member: its station index, its rate class and the flags of its entry for the channel (section 11.5). -/
def State.memberRecord (s : State) (c : ChannelIx) (ix : Nat) : List Byte :=
  be16 ix ++
    (match s.stations.find ix with
      | none => []
      | some st => [byteOf st.rate.val, match st.entry c with | none => 0#8 | some e => e.flags])

/-- The owner of GROUP_READ (R127). DESIGN CHOICE (log entry 37): a block longer than the 1,024 bytes of section 11.2, as a group of
255 members gives, is sent whole. -/
def ownGroupRead (params : List Byte) (s : State) : Reply × State :=
  match params with
  | [] => (Reply.badArg, s)
  | c :: rest =>
    match channelOf c, optionalParam 1 rest with
    | some c, some (none, []) =>
      (Reply.done (s.channels[c].record ++ [byteOf (s.groupRadios c).length] ++ (s.groupRadios c).map fun r => byteOf r.val), s)
    | some c, some (some [r], []) =>
      match radioOf r with
      | none => (Reply.badArg, s)
      | some r =>
        match s.group r c with
        | none => (Reply.plain .notFound, s)
        | some g =>
          (Reply.done (s.channels[c].record ++ [byteOf g.delivery.ctorIdx, byteOf g.members.length] ++
            g.members.flatMap (s.memberRecord c)), s)
    | _, _ => (Reply.badArg, s)

/-- GROUP_READ (R127). -/
def execGroupRead (lane : LaneIx) (s : State) : Host.Outcome State Fault Refusal := serve lane .groupRead ownGroupRead s

/-! ### SEAT_MAP_READ (R105) -/

/-- The owner of SEAT_MAP_READ (R105). -/
def ownSeatMapRead (params : List Byte) (s : State) : Reply × State :=
  match params with
  | [b1, b0, n] =>
    if blocksOk (unsigned [b1, b0]) n.toNat = true then
      (Reply.done ([n] ++ (List.range n.toNat).map fun i => entryByte (s.seatMap.find (unsigned [b1, b0] + i))), s)
    else (Reply.badArg, s)
  | _ => (Reply.badArg, s)

/-- SEAT_MAP_READ (R105). -/
def execSeatMapRead (lane : LaneIx) (s : State) : Host.Outcome State Fault Refusal := serve lane .seatMapRead ownSeatMapRead s

/-! ### COUNTERS_READ and COUNTERS_CLEAR (R164, section 11.5) -/

/-- The station table's counters, in the order of sections 1.11 and 3.9. -/
def stationCounters : List StationCounter :=
  [.allocated, .readmits, .tableFullRefusals, .radioFullRefusals, .strays, .leaves, .freed, .orphaned, .evicted, .restored,
    .ejected, .downlinkForwarded, .downlinkHeld, .downlinkUnknown, .downlinkOrphan, .downlinkTransmitFull, .uplinkDrops,
    .roamsReceived, .deferrals, .handoffsBegun, .lateReleases, .handoffsCompleted, .completionsByRelease, .completionsByLeave,
    .undeliveredFrames, .forcedCompletions, .supersedes, .returnsCompleted, .abandonmentsToOrphan, .abandonmentsToOld,
    .holdPoolDrops, .holdOverwriteDrops, .holdShrinkDrops, .flushDrops, .holdDiscards]

/-- A seat link's counters, in the order of R44. -/
def linkCounters : List LinkCounter :=
  [.carrierAppears, .carrierLosses, .keepalivesReceived, .headAlerts, .linkUpEntries, .linkDownExits, .crcErrors, .sequenceGaps,
    .malformedMessages, .notUpIgnored, .messagesReceived, .messagesSent, .suppressedMessages, .responseErrors, .faultInjections,
    .restarts, .transmitDiscards]

/-- The pass table's counters, in the order of section 4.9. -/
def passCounters : List PassCounter :=
  [.loaded, .loadedExpired, .loadRefusals, .amends, .directExpiries, .revocations, .removals, .mismatches, .lockouts, .unlocks,
    .sweepsStarted, .sweepRestarts, .sweepExpiries, .sweepsCompleted]

/-- The admission block's counters, in the order of section 5.6. -/
def admissionCounters : List AdmissionCounter :=
  [.claimsReceived, .refusedNotHere, .refusedUnknown, .refusedRevoked, .refusedExpired, .refusedLocked, .refusedNotYet,
    .refusedInUse, .reconfirmed, .bound, .rebound, .unbindings, .reloads, .seatMapWrites, .sweepsStarted, .sweepRestarts,
    .zoneChanges, .sweepsCompleted]

/-- The replay block's counters that are kept for the whole block, in the order of section 6.10. -/
def replayCounters : List ReplayCounter :=
  [.opens, .closes, .added, .confirmed, .answeredLimit, .answeredDenied, .answeredNotHere, .unsubscribed, .unsubscribedEmpty,
    .pruned, .groupsCreated, .groupsDiscarded, .migrations, .rejoins, .malformedPackets, .closedDrops]

/-- The replay block's counters that are kept for each channel, in the order of section 6.10. -/
def channelCounters : List ChannelCounter := [.packetsReceived, .stalePackets, .sequenceGaps, .gapDeltaDrops]

/-- A radio's airtime counters, in the order of section 7.5. -/
def airtimeCounters : List AirtimeCounter :=
  [.deltasSkipped, .emptyRecipients, .queueOverflowDrops, .budgetDrops, .keyBorrows, .airtimeCharged, .unicastSends,
    .multicastSends, .copiesEnqueued, .refillOverflow]

/-- The sector block's counters, in the order of section 8.8. -/
def sectorCounters : List SectorCounter := [.settingsApplied, .phaseAdvances, .orderRefusals, .matchClears]

/-- The six counters of each lane, in the order of R164. -/
def laneCounters : List LaneCounter := [.requestsReceived, .queueFull, .badKind, .denied, .responsesSent, .rightsChanges]

/-- The lane interface's counters, in the order of section 11.5. -/
def allLaneCounters : List Counter :=
  ((List.finRange 4).flatMap fun l => laneCounters.map (Counter.lane l)) ++
    [.lane 0 .lostResponses, .lane 0 .shortWrites, .lane 1 .noticesRaised, .lane 2 .noticesRaised, .lane 3 .noticesRaised,
      .trunk .badFrames, .trunk .misaddressedFrames]

/-- The counters of a scope, in the order in which a read returns them (section 11.5). -/
def Scope.counters : Scope → List Counter
  | .station => stationCounters.map .station
  | .link r => linkCounters.map (.link r)
  | .pass => passCounters.map .pass
  | .admission => admissionCounters.map .admission
  | .replay none => replayCounters.map .replay
  | .replay (some c) => replayCounters.map .replay ++ channelCounters.map (.channel c)
  | .airtime r => airtimeCounters.map (.airtime r)
  | .sector => sectorCounters.map .sector
  | .lanes => allLaneCounters

/-- What a read of the lane interface scope returns after its counters: each lane's rights and queue occupancy, and the response list
occupancy (section 11.5). -/
def State.lanesRecord (s : State) : List Byte :=
  ((List.finRange 4).flatMap fun l => [rightsByte s.lanes[l].rights, byteOf s.lanes[l].queue.length]) ++
    [byteOf s.responses.length]

/-- The result block of a scope's read (R164, section 11.5). -/
def State.scopeRecord (s : State) (k : Scope) : List Byte :=
  (k.counters.flatMap fun c => be32 (s.counter c)) ++ (if k = .lanes then s.lanesRecord else [])

/-- The owner of COUNTERS_READ (R164). -/
def ownCountersRead (params : List Byte) (s : State) : Reply × State :=
  match scopeOf params with
  | none => (Reply.badArg, s)
  | some k => (Reply.done (s.scopeRecord k), s)

/-- COUNTERS_READ (R164). -/
def execCountersRead (lane : LaneIx) (s : State) : Host.Outcome State Fault Refusal :=
  serve lane .countersRead ownCountersRead s

/-- The owner of COUNTERS_CLEAR (R164): every counter of the scope as it stood, and each set to 0. -/
def ownCountersClear (params : List Byte) (s : State) : Reply × State :=
  match scopeOf params with
  | none => (Reply.badArg, s)
  | some k => (Reply.done (s.scopeRecord k), s.zero k.counters)

/-- COUNTERS_CLEAR (R164). -/
def execCountersClear (lane : LaneIx) (s : State) : Host.Outcome State Fault Refusal :=
  serve lane .countersClear ownCountersClear s

/-! ### SECTOR_READ (R153) -/

/-- A sweep's running flag and cursor (R153). -/
def Sweep.record (w : Sweep) : List Byte := [flagByte w.running] ++ be16 w.cursor

/-- The record of SECTOR_READ (R153). DESIGN CHOICE (log entry 36): the device version and the period in force take 2 bytes each. -/
def State.sectorRecord (s : State) : List Byte :=
  be16 Config.deviceVersion.toNat ++ be32 s.sectorTime.toNat ++ [byteOf s.phase.value] ++ be16 s.settings.handoffTimeout ++
    be16 s.settings.returnGuard ++ be16 s.settings.orphanHold ++ be16 s.settings.budgetPeriod ++ be16 s.periodInForce ++
    be32 (remaining s.nextExpiry s.sectorTime) ++ s.expirySweep.record ++ s.zoneSweep.record

/-- The owner of SECTOR_READ (R153). -/
def ownSectorRead (params : List Byte) (s : State) : Reply × State :=
  match params with
  | [] => (Reply.done s.sectorRecord, s)
  | _ => (Reply.badArg, s)

/-- SECTOR_READ (R153). -/
def execSectorRead (lane : LaneIx) (s : State) : Host.Outcome State Fault Refusal := serve lane .sectorRead ownSectorRead s

end Sys2Proof.Machine
end

