-- ==== Sys2Proof/Machine/Dispatch.lean ====
section
/-! DEFINITION. One arm per command: the meaning of each. -/

namespace Sys2Proof.Machine

def exec (i : Instr) (s : State) : Host.Outcome State Fault Refusal :=
  match i with
  | .powerOnReset event => Sys2Proof.Machine.execPowerOnReset event s
  | .carrierAppear radio => Sys2Proof.Machine.execCarrierAppear radio s
  | .carrierLoss radio => Sys2Proof.Machine.execCarrierLoss radio s
  | .sampleExpiry radio => Sys2Proof.Machine.execSampleExpiry radio s
  | .budgetPeriodExpiry => Sys2Proof.Machine.execBudgetPeriodExpiry s
  | .refill radio => Sys2Proof.Machine.execRefill radio s
  | .handoffDeadlineExpiry station => Sys2Proof.Machine.execHandoffDeadlineExpiry station s
  | .guardDeadlineExpiry station => Sys2Proof.Machine.execGuardDeadlineExpiry station s
  | .orphanDeadlineExpiry station => Sys2Proof.Machine.execOrphanDeadlineExpiry station s
  | .join radio sequence device rate => Sys2Proof.Machine.execJoin radio sequence device rate s
  | .roam radio sequence device rate flags => Sys2Proof.Machine.execRoam radio sequence device rate flags s
  | .leave radio sequence station => Sys2Proof.Machine.execLeave radio sequence station s
  | .rate radio sequence station rate => Sys2Proof.Machine.execRate radio sequence station rate s
  | .claim radio sequence station pass code => Sys2Proof.Machine.execClaim radio sequence station pass code s
  | .subscribe radio sequence station channel => Sys2Proof.Machine.execSubscribe radio sequence station channel s
  | .unsubscribe radio sequence station channel => Sys2Proof.Machine.execUnsubscribe radio sequence station channel s
  | .released radio sequence station device undelivered => Sys2Proof.Machine.execReleased radio sequence station device undelivered s
  | .keepalive radio sequence flags => Sys2Proof.Machine.execKeepalive radio sequence flags s
  | .corruptControlMessage radio bytes => Sys2Proof.Machine.execCorruptControlMessage radio bytes s
  | .malformedControlMessage radio bytes => Sys2Proof.Machine.execMalformedControlMessage radio bytes s
  | .downlinkFanFrame frame => Sys2Proof.Machine.execDownlinkFanFrame frame s
  | .uplinkFanFrame radio frame => Sys2Proof.Machine.execUplinkFanFrame radio frame s
  | .transmitComplete radio => Sys2Proof.Machine.execTransmitComplete radio s
  | .replayPacket frameCheck body => Sys2Proof.Machine.execReplayPacket frameCheck body s
  | .groupDecision radio channel which => Sys2Proof.Machine.execGroupDecision radio channel which s
  | .expirySweepVisit => Sys2Proof.Machine.execExpirySweepVisit s
  | .zoneSweepVisit => Sys2Proof.Machine.execZoneSweepVisit s
  | .spiWriteRequest bytes => Sys2Proof.Machine.execSpiWriteRequest bytes s
  | .spiReadResponse clocked => Sys2Proof.Machine.execSpiReadResponse clocked s
  | .spiOtherCommand command bytes => Sys2Proof.Machine.execSpiOtherCommand command bytes s
  | .trunkControlFrame frameCheck source body => Sys2Proof.Machine.execTrunkControlFrame frameCheck source body s
  | .unknownRequestKind lane => Sys2Proof.Machine.execUnknownRequestKind lane s
  | .radioProfileSet lane => Sys2Proof.Machine.execRadioProfileSet lane s
  | .seatMapWrite lane => Sys2Proof.Machine.execSeatMapWrite lane s
  | .linkRestart lane => Sys2Proof.Machine.execLinkRestart lane s
  | .linkFaultArm lane => Sys2Proof.Machine.execLinkFaultArm lane s
  | .stationEject lane => Sys2Proof.Machine.execStationEject lane s
  | .phaseSet lane => Sys2Proof.Machine.execPhaseSet lane s
  | .sectorSet lane => Sys2Proof.Machine.execSectorSet lane s
  | .matchClear lane => Sys2Proof.Machine.execMatchClear lane s
  | .countersClear lane => Sys2Proof.Machine.execCountersClear lane s
  | .passLoad lane => Sys2Proof.Machine.execPassLoad lane s
  | .passAmend lane => Sys2Proof.Machine.execPassAmend lane s
  | .passRevoke lane => Sys2Proof.Machine.execPassRevoke lane s
  | .passRemove lane => Sys2Proof.Machine.execPassRemove lane s
  | .passUnlock lane => Sys2Proof.Machine.execPassUnlock lane s
  | .channelOpen lane => Sys2Proof.Machine.execChannelOpen lane s
  | .channelClose lane => Sys2Proof.Machine.execChannelClose lane s
  | .noticeLevelsSet lane => Sys2Proof.Machine.execNoticeLevelsSet lane s
  | .noticeMaskSet lane => Sys2Proof.Machine.execNoticeMaskSet lane s
  | .noticeAccept lane => Sys2Proof.Machine.execNoticeAccept lane s
  | .noticeReturn lane => Sys2Proof.Machine.execNoticeReturn lane s
  | .noticeClear lane => Sys2Proof.Machine.execNoticeClear lane s
  | .stationRead lane => Sys2Proof.Machine.execStationRead lane s
  | .passRead lane => Sys2Proof.Machine.execPassRead lane s
  | .radioRead lane => Sys2Proof.Machine.execRadioRead lane s
  | .groupRead lane => Sys2Proof.Machine.execGroupRead lane s
  | .seatMapRead lane => Sys2Proof.Machine.execSeatMapRead lane s
  | .countersRead lane => Sys2Proof.Machine.execCountersRead lane s
  | .sectorRead lane => Sys2Proof.Machine.execSectorRead lane s
  | .rightsSet lane => Sys2Proof.Machine.execRightsSet lane s
  | .sectorTimeTick => Sys2Proof.Machine.execSectorTimeTick s

end Sys2Proof.Machine
end

