-- ==== Sys2Proof/Machine/Step.lean ====
section
/-! DEFINITION. One step: the command at the front of the queue is taken, first in, first out (log entry 1). -/

namespace Sys2Proof.Machine

/-- The state without the command at the front of its queue. -/
def State.withQueue (s : State) (rest : List Instr) : State := { s with pending := rest }

/-- One step: the front command's meaning on the state with the queue's rest; with an empty queue the block idles. -/
def step (s : State) : Host.Outcome State Fault Refusal :=
  match s.pending with
  | [] => .next s
  | i :: rest => exec i (s.withQueue rest)

/-- The state with the command that the table's bits spell put at the front of its queue; `s` itself where they spell none. -/
def State.withFetchWord (s : State) (nbits w : Nat) : State :=
  match decodeTableWord nbits w with
  | none => s
  | some i => s.withQueue (i :: s.pending)

end Sys2Proof.Machine
end

