-- ==== Sys2Proof/Machine/Received.lean ====
section
/-! DEFINITION. How what arrives on a wire becomes a command: a control message on a seat link (section 11.3, R177), an SPI transaction
(R176), a frame on the trunk (sections 1.9, 11.2 and 11.4); and the bytes that a radio head sends for each of its nine messages. -/

namespace Sys2Proof.Machine

/-! ### Control messages (section 11.3) -/

/-- A device address of six bytes (R175). -/
def addressOf (b : List Byte) : Address := BitVec.ofNat 48 (unsigned b)

/-- A 16-bit field of two bytes (R175). -/
def halfOf (b : List Byte) : Half := BitVec.ofNat 16 (unsigned b)

/-- A 32-bit field of four bytes (R175). -/
def wordOf (b : List Byte) : Word := BitVec.ofNat 32 (unsigned b)

/-- The command of a well-formed message: its kind, its sequence number, its station index field and its payload. The station index
field of a JOIN, ROAM or KEEPALIVE is ignored (section 11.3). -/
def messageOf (r : RadioIx) (kind sequence : Byte) (station : Half) (payload : List Byte) : Option Instr :=
  match kind.toNat with
  | 1 => some (.join r sequence (addressOf (payload.take 6)) (payload.getD 6 0#8))
  | 2 => some (.roam r sequence (addressOf (payload.take 6)) (payload.getD 6 0#8) (payload.getD 7 0#8))
  | 3 => some (.leave r sequence station)
  | 4 => some (.rate r sequence station (payload.getD 0 0#8))
  | 5 => some (.claim r sequence station (wordOf (payload.take 4)) (halfOf (payload.drop 4)))
  | 6 => some (.subscribe r sequence station (payload.getD 0 0#8))
  | 7 => some (.unsubscribe r sequence station (payload.getD 0 0#8))
  | 8 => some (.released r sequence station (addressOf (payload.take 6)) (halfOf (payload.drop 6)))
  | 9 => some (.keepalive r sequence (payload.getD 0 0#8))
  | _ => none

/-- The command of the bytes that a seat link receives (R32, R34, R177). -/
def arrival (r : RadioIx) (bytes : List Byte) : Instr :=
  if crcFails bytes then .corruptControlMessage r bytes
  else if shapeFails bytes then .malformedControlMessage r bytes
  else
    match bytes with
    | kind :: sequence :: s1 :: s0 :: _ :: rest =>
      (messageOf r kind sequence (halfOf [s1, s0]) (rest.take (rest.length - 2))).getD (.malformedControlMessage r bytes)
    | _ => .malformedControlMessage r bytes

/-- A message as a radio head sends it: kind, sequence number, station index field, payload and CRC (section 11.3). -/
def headMessage (kind sequence : Byte) (station : Half) (payload : List Byte) : List Byte :=
  withCrc ([kind, sequence] ++ be16 station.toNat ++ [byteOf payload.length] ++ payload)

/-- The bytes that a radio head sends for each of its nine messages; the station index field is 0xFFFF in the kinds that carry none
(section 11.3, R175). -/
def messageBytes : Instr → Option (RadioIx × List Byte)
  | .join r q a c => some (r, headMessage 1#8 q 0xFFFF#16 (be48 a ++ [c]))
  | .roam r q a c f => some (r, headMessage 2#8 q 0xFFFF#16 (be48 a ++ [c, f]))
  | .leave r q st => some (r, headMessage 3#8 q st [])
  | .rate r q st c => some (r, headMessage 4#8 q st [c])
  | .claim r q st p k => some (r, headMessage 5#8 q st (be32 p.toNat ++ be16 k.toNat))
  | .subscribe r q st c => some (r, headMessage 6#8 q st [c])
  | .unsubscribe r q st c => some (r, headMessage 7#8 q st [c])
  | .released r q st a n => some (r, headMessage 8#8 q st (be48 a ++ be16 n.toNat))
  | .keepalive r q f => some (r, headMessage 9#8 q 0xFFFF#16 [f])
  | _ => none

/-! ### The SPI port and the trunk -/

/-- The command of an SPI transaction: its command byte, the bytes that the board processor sends after it, and how many bytes it
clocks out (R176). A transaction without a command byte is none. -/
def spiTransaction (bytes : List Byte) (clocked : Nat) : Option Instr :=
  match bytes with
  | [] => none
  | c :: rest =>
    if c = 1#8 then some (.spiWriteRequest rest)
    else if c = 2#8 then some (.spiReadResponse clocked)
    else some (.spiOtherCommand c rest)

/-- The command of a frame that arrives on the trunk, by its EtherType: a control frame, a replay packet, or a downlink fan frame
(R161, R176, R178, section 1.9). A fan frame is kept whole: its payload begins with its EtherType. A fan frame that fails the trunk
frame check is no event that the manual names. -/
def trunkArrival (frameCheck : Bool) (destination source : Address) (etherType : Half) (body : List Byte) : Option Instr :=
  if etherType = 0x88B6#16 then some (.trunkControlFrame frameCheck source body)
  else if etherType = 0x88B7#16 then some (.replayPacket frameCheck body)
  else if frameCheck then
    some (.downlinkFanFrame { destination := destination, source := source, payload := be16 etherType.toNat ++ body })
  else none

end Sys2Proof.Machine
end

