-- ==== Sys2Proof/Safety.lean ====
section
/-! DEFINITION. What a safe state of the device is, in the terms the statements use: the twelve laws of the manual and the bounds that
its rules give, each as a condition on one state; what it means that a request stands ready for service and is
answered, that a message arrives, and that a command keeps to its frame. -/

namespace Sys2Proof.Machine

/-! ### Form -/

/-- Every table of the state is in its canonical form, so that equal contents are equal data. -/
abbrev State.Canonical (s : State) : Prop :=
  s.stations.wf = true ∧ s.addressMap.wf = true ∧ s.passes.wf = true ∧ s.passMap.wf = true ∧ s.seatMap.wf = true ∧
    s.groups.wf = true ∧ s.counters.wf = true

/-- Every key of a sparse table lies in its range: stations (R1), pass slots (R70), seat blocks (R103), pairs of radio and channel
(R116). -/
abbrev State.KeysInRange (s : State) : Prop :=
  (∀ e ∈ s.stations, e.1 < Config.stationContexts) ∧ (∀ e ∈ s.passes, e.1 < Config.passSlots) ∧
    (∀ e ∈ s.seatMap, e.1 < Config.seatBlocks) ∧ (∀ e ∈ s.groups, e.1 < 1024)

/-! ### The twelve laws -/

/-- First law (R3): the address map holds one entry for each context that is not FREE, and no other entries. -/
abbrev State.AddressLaw (s : State) : Prop :=
  (∀ e ∈ s.stations, s.addressMap.find e.2.device.toNat = some e.1) ∧
    (∀ e ∈ s.addressMap, ∃ st ∈ s.stations.find e.2, st.device.toNat = e.1)

/-- Second law (R4): a radio's count is the number of stations that are on it, and does not exceed its station limit. -/
abbrev State.CountLaw (s : State) : Prop :=
  ∀ r : RadioIx, s.stationCount[r] = (s.stationsOn r).length ∧ s.stationCount[r] ≤ s.links[r].profile.stationLimit

/-- Third law (R92): a station's binding names slot P exactly when P's bound list contains the station; a bound list holds at most 2
stations, each once; and the bound list of a REVOKED or EXPIRED pass is empty. -/
abbrev State.BindingLaw (s : State) : Prop :=
  (∀ e ∈ s.stations, ∀ b ∈ e.2.binding, ∃ p ∈ s.passes.find b.slot, e.1 ∈ p.bound) ∧
    (∀ e ∈ s.passes, e.2.bound.length ≤ Config.boundLimit ∧ e.2.bound.Nodup ∧ (e.2.inForce = false → e.2.bound = []) ∧
      ∀ ix ∈ e.2.bound, ∃ st ∈ s.stations.find ix, ∃ b ∈ st.binding, b.slot = e.1)

/-- A station's tier is its binding's, and GUEST without one (R92). -/
abbrev Station.TierLaw (st : Station) : Prop := st.tier = match st.binding with | none => .guest | some b => b.tier

/-- Fourth law (R92): the tier and channel mask of a binding are those of the pass in its slot, and a station without a binding has
tier GUEST. -/
abbrev State.EntitlementLaw (s : State) : Prop :=
  ∀ e ∈ s.stations, e.2.TierLaw ∧ ∀ b ∈ e.2.binding, ∃ p ∈ s.passes.find b.slot, b.tier = p.tier ∧ b.mask = p.mask

/-- Fifth law (R115): a station holds at most 4 subscriptions, to distinct channels, each permitted to it. -/
abbrev State.SubscriptionLaw (s : State) : Prop :=
  ∀ e ∈ s.stations, e.2.subs.length ≤ Config.subscriptionLimit ∧ (e.2.subs.map Subscription.channel).Nodup ∧
    ∀ x ∈ e.2.subs, permitted s.channels e.2.binding x.channel = true

/-- A station is subscribed to a channel and belongs to the groups of a radio (R116). -/
def Station.belongs (st : Station) (r : RadioIx) (c : ChannelIx) : Bool := st.groupRadio == some r && (st.entry c).isSome

/-- Sixth law (R116): a group's members are, each once, the stations subscribed to its channel whose current radio is its radio and
which are ASSOCIATED or in HANDOFF; every such station is in that group; and no group is empty. -/
abbrev State.GroupLaw (s : State) : Prop :=
  (∀ r : RadioIx, ∀ c : ChannelIx, ∀ g ∈ s.group r c, g.members ≠ [] ∧ g.members.Nodup ∧
      ∀ ix ∈ g.members, ∃ st ∈ s.stations.find ix, st.belongs r c = true) ∧
    (∀ e ∈ s.stations, ∀ r ∈ e.2.groupRadio, ∀ x ∈ e.2.subs, ∃ g ∈ s.group r x.channel, e.1 ∈ g.members)

/-- A radio profile's fields lie in their ranges under a budget period setting (R41). -/
abbrev Profile.InRange (p : Profile) (budgetPeriod : Nat) : Prop :=
  1 ≤ p.stationLimit ∧ p.stationLimit ≤ 255 ∧ p.refill ≤ budgetPeriod * 1000 ∧ p.refill ≤ 60000 ∧ p.refill ≤ p.cap ∧
    p.cap ≤ 65535 ∧ p.bias ≤ 1000

/-- Every radio profile lies in its ranges (R41, R138). -/
abbrev State.ProfilesInRange (s : State) : Prop := ∀ r : RadioIx, s.links[r].profile.InRange s.settings.budgetPeriod

/-- Seventh law (R135): each radio's credit lies within minus half its refill and its cap. -/
abbrev State.CreditLaw (s : State) : Prop :=
  ∀ r : RadioIx, -((s.links[r].profile.refill / 2 : Nat) : Int) ≤ s.credit[r] ∧ s.credit[r] ≤ (s.links[r].profile.cap : Int)

/-- The frames held across all stations (R64). -/
def State.heldFrames (s : State) : Nat := (s.stations.map fun e => e.2.held.length).sum

/-- Eighth law (R64): the free buffers and the held frames together number 2,048, and no station holds more frames than its hold
depth. -/
abbrev State.HoldLaw (s : State) : Prop :=
  s.holdFree + s.heldFrames = Config.holdPool ∧ ∀ e ∈ s.stations, e.2.held.length ≤ e.2.tier.holdDepth

/-- Ninth law for one master (R172): from the mask level down through the saved-level stack the levels strictly fall, and the stack
holds at most 7 levels. -/
abbrev Notice.NestLaw (n : Notice) : Prop := (n.mask :: n.saved).Pairwise (fun a b => b < a) ∧ n.saved.length ≤ 7

/-- Ninth law (R172), for every master. -/
abbrev State.NestLaw (s : State) : Prop := ∀ l : LaneIx, s.notices[l].NestLaw

/-- Tenth law (R158): the BOARD lane holds the CONFIG right. -/
abbrev State.ConfigLaw (s : State) : Prop := s.lanes[(0 : LaneIx)].rights.getLsbD 5 = true

/-- Twelfth law (R109), with what a running sweep has already set right: a binding's zone set is the one that its pass's blocks give in
the current seat map, but for stations that a running zone sweep has not yet visited. -/
abbrev State.ZoneLaw (s : State) : Prop :=
  ∀ e ∈ s.stations, ∀ b ∈ e.2.binding, (s.zoneSweep.running = false ∨ e.1 < s.zoneSweep.cursor) →
    ∃ p ∈ s.passes.find b.slot, b.zone = zoneOf s.seatMap p.home p.width

/-! ### Bounds and agreements that other rules give -/

/-- The pass map names exactly the occupied slots by their pass numbers (R71). -/
abbrev State.PassMapLaw (s : State) : Prop :=
  (∀ e ∈ s.passes, s.passMap.find e.2.number.toNat = some e.1) ∧
    (∀ e ∈ s.passMap, ∃ p ∈ s.passes.find e.2, p.number.toNat = e.1)

/-- A pass's fields lie in their ranges (R70), and it is LOCKED only with 3 mismatches and ACTIVE only with fewer (R84, R91). -/
abbrev Pass.InRange (p : Pass) : Prop :=
  p.tier ≠ .guest ∧ 1 ≤ p.width ∧ p.width ≤ 16 ∧ p.home + p.width ≤ Config.seatBlocks ∧ p.validFrom.value ≤ p.validUntil.value ∧
    p.mismatches ≤ Config.lockoutAt ∧ (p.state = .locked → p.mismatches = Config.lockoutAt) ∧
    (p.state = .active → p.mismatches < Config.lockoutAt)

/-- Every pass lies in its ranges. -/
abbrev State.PassesInRange (s : State) : Prop := ∀ e ∈ s.passes, e.2.InRange

/-- A pass is overdue only while an expiry sweep is running that has not yet visited its slot (R89). -/
abbrev State.OverdueLaw (s : State) : Prop :=
  ∀ e ∈ s.passes, e.2.overdue s.phase = true → s.expirySweep.running = true ∧ s.expirySweep.cursor ≤ e.1

/-- A sweep's cursor lies in its table while it runs, and reads 0 while it does not (R86, R106). -/
abbrev Sweep.InRange (w : Sweep) (size : Nat) : Prop := w.cursor < size ∧ (w.running = false → w.cursor = 0)

/-- Both sweeps are in range. -/
abbrev State.SweepsInRange (s : State) : Prop :=
  s.expirySweep.InRange Config.passSlots ∧ s.zoneSweep.InRange Config.stationContexts

/-- A CLOSED channel's attributes read clear and its expected sequence reads unset (R111). -/
abbrev State.ClosedLaw (s : State) : Prop :=
  ∀ c : ChannelIx, s.channels[c].state = .closed → s.channels[c] = Channel.closed

/-- Queues hold at most what their rules give: 64 frames in a radio transmit queue (R20), 8 requests in a lane's queue (R154), and 8
responses in lane 0's list (R160). -/
abbrev State.QueuesBounded (s : State) : Prop :=
  (∀ r : RadioIx, s.links[r].queue.length ≤ Config.transmitQueue) ∧ (∀ l : LaneIx, s.lanes[l].queue.length ≤ Config.laneQueue) ∧
    s.responses.length ≤ Config.responseList

/-- A master's line is up while at least one group is eligible, and down while none is (R168); and a trunk lane's NOTICE_RAISED is
armed while its line is down (R162). -/
abbrev State.LineLaw (s : State) : Prop :=
  ∀ l : LaneIx, s.notices[l].lineUp = s.notices[l].anyEligible ∧ (l ≠ 0 → s.lanes[l].armed = !s.notices[l].lineUp)

/-- Every setting lies in its range (R148). -/
abbrev Settings.InRange (v : Settings) : Prop :=
  5 ≤ v.handoffTimeout ∧ v.handoffTimeout ≤ 500 ∧ v.returnGuard ≤ 10000 ∧ 1 ≤ v.orphanHold ∧ v.orphanHold ≤ 600 ∧
    1 ≤ v.budgetPeriod ∧ v.budgetPeriod ≤ 100

/-- No counter passes 4,294,967,295, and none that is 0 is listed (R164). -/
abbrev State.CountersInRange (s : State) : Prop := ∀ e ∈ s.counters, 1 ≤ e.2 ∧ e.2 ≤ Config.counterMax

/-- A seat link's record is as R24 and R25 leave it: ABSENT without carrier, a filter count of 3 at most that is 0 with no sample, and
outside UP an empty transmit queue (R20). -/
abbrev SeatLink.Sound (l : SeatLink) : Prop :=
  (l.state = .absent ↔ l.carrier = false) ∧ l.filter ≤ 3 ∧ (l.sample = .none → l.filter = 0) ∧
    (l.state ≠ .up → l.queue = []) ∧ ∀ a ∈ l.arm, 1 ≤ a.position ∧ a.position ≤ 8 ∧ a.count < a.position

/-- Every seat link is sound, and every station that is on a radio is on one whose link is UP (R15, R20, R29). -/
abbrev State.LinksSound (s : State) : Prop :=
  (∀ r : RadioIx, s.links[r].Sound) ∧ ∀ e ∈ s.stations, ∀ r : RadioIx, e.2.isOn r = true → s.links[r].state = .up

/-! ### The invariant -/

/-- The twelve laws and the bounds together: what holds of the device after every event. (The eleventh law, R149, speaks of two states:
`Obligations.RightsKeptAndPhaseForward` states it.) -/
structure State.Inv (s : State) : Prop where
  canonical : s.Canonical
  keys : s.KeysInRange
  addresses : s.AddressLaw
  counts : s.CountLaw
  bindings : s.BindingLaw
  entitlements : s.EntitlementLaw
  subscriptions : s.SubscriptionLaw
  groups : s.GroupLaw
  profiles : s.ProfilesInRange
  credits : s.CreditLaw
  holds : s.HoldLaw
  nests : s.NestLaw
  config : s.ConfigLaw
  zones : s.ZoneLaw
  passMap : s.PassMapLaw
  passes : s.PassesInRange
  overdue : s.OverdueLaw
  sweeps : s.SweepsInRange
  closed : s.ClosedLaw
  queues : s.QueuesBounded
  lines : s.LineLaw
  settings : s.settings.InRange
  counters : s.CountersInRange
  links : s.LinksSound

/-! ### Service and arrival -/

/-- The request `q` stands at the head of the lane's queue, may be served, and is of kind `k`, which the lane may issue; `s0` is the
state without it (R156 to R158, R160). -/
def Ready (k : RequestKind) (lane : LaneIx) (q : Request) (s s0 : State) : Prop :=
  s.inReset = false ∧ s.head lane = some (q, s0) ∧ q.kind = k.code ∧ k.needs &&& ~~~s0.lanes[lane].rights = 0#6

/-- The state after a service: what the owner left, with the response sent on the lane and the masters' lines evaluated against what
they were before (R156, R160, R161, R168). -/
def answered (s : State) (lane : LaneIx) (q : Request) (answer : Answer) (block : List Byte) (owned : State) : State :=
  (owned.respond lane { kind := q.kind, tag := q.tag, answer := answer, block := block }).settle s.notices

/-- A message with sequence number `q` arrives on radio r's UP link as the one expected; `s1` is the state that its owner sees (R33,
R35). -/
def Arrives (r : RadioIx) (q : Byte) (s s1 : State) : Prop :=
  s.inReset = false ∧ s.links[r].state = .up ∧ s.links[r].rxSequence = q ∧
    s1 = (s.setLink r { s.links[r] with rxSequence := q + 1 }).count (.link r .messagesReceived)

/-- The radio and the sequence number of a well-formed message that is no KEEPALIVE: what the sequence check and the state gate look at
(R33, R34). -/
def gatedMessage : Instr → Option (RadioIx × Byte)
  | .join r q _ _ => some (r, q)
  | .roam r q _ _ _ => some (r, q)
  | .leave r q _ => some (r, q)
  | .rate r q _ _ => some (r, q)
  | .claim r q _ _ _ => some (r, q)
  | .subscribe r q _ _ => some (r, q)
  | .unsubscribe r q _ _ => some (r, q)
  | .released r q _ _ _ => some (r, q)
  | _ => none

/-- The station is in an outward handoff from radio o, and so awaits RELEASED from it (R37). -/
def Station.awaitsReleasedFrom (o : RadioIx) (st : Station) : Bool :=
  match st.place with
  | .handoff c n _ _ _ => c == o && n != o
  | _ => false

/-- A group with only those of its members that meet a condition, in their order; a group left empty is discarded (R116). -/
def Group.keeping (keep : Nat → Bool) (g : Group) : Option Group :=
  if g.members.filter keep = [] then none else some { g with members := g.members.filter keep }

/-- A radio's groups, each without one station (R116). -/
def State.groupWithout (s : State) (ix : Nat) (r : RadioIx) (c : ChannelIx) : Option Group :=
  (s.group r c).bind (Group.keeping fun j => j != ix)

/-- The command that serves a lane's head request of a kind. -/
def RequestKind.command : RequestKind → LaneIx → Instr
  | .radioProfileSet => .radioProfileSet
  | .seatMapWrite => .seatMapWrite
  | .linkRestart => .linkRestart
  | .linkFaultArm => .linkFaultArm
  | .stationEject => .stationEject
  | .phaseSet => .phaseSet
  | .sectorSet => .sectorSet
  | .matchClear => .matchClear
  | .countersClear => .countersClear
  | .passLoad => .passLoad
  | .passAmend => .passAmend
  | .passRevoke => .passRevoke
  | .passRemove => .passRemove
  | .passUnlock => .passUnlock
  | .channelOpen => .channelOpen
  | .channelClose => .channelClose
  | .noticeLevelsSet => .noticeLevelsSet
  | .noticeMaskSet => .noticeMaskSet
  | .noticeAccept => .noticeAccept
  | .noticeReturn => .noticeReturn
  | .noticeClear => .noticeClear
  | .stationRead => .stationRead
  | .passRead => .passRead
  | .radioRead => .radioRead
  | .groupRead => .groupRead
  | .seatMapRead => .seatMapRead
  | .countersRead => .countersRead
  | .sectorRead => .sectorRead
  | .rightsSet => .rightsSet

/-! ### Frames -/

/-- The fields of State, by name. -/
inductive Field where
  | stations | addressMap | stationCount | holdFree | links | passes | passMap | expirySweep | seatMap | zoneSweep | channels
  | groups | offers | credit | refillsDue | sectorTime | settings | periodInForce | nextExpiry | samplePosition | samplesDue
  | phase | lanes | responses | notices | inReset | counters | wire | draws | pending
  deriving DecidableEq, Repr

/-- Two states hold the same in one field. -/
def Field.Agree (s t : State) : Field → Prop
  | .stations => t.stations = s.stations
  | .addressMap => t.addressMap = s.addressMap
  | .stationCount => t.stationCount = s.stationCount
  | .holdFree => t.holdFree = s.holdFree
  | .links => t.links = s.links
  | .passes => t.passes = s.passes
  | .passMap => t.passMap = s.passMap
  | .expirySweep => t.expirySweep = s.expirySweep
  | .seatMap => t.seatMap = s.seatMap
  | .zoneSweep => t.zoneSweep = s.zoneSweep
  | .channels => t.channels = s.channels
  | .groups => t.groups = s.groups
  | .offers => t.offers = s.offers
  | .credit => t.credit = s.credit
  | .refillsDue => t.refillsDue = s.refillsDue
  | .sectorTime => t.sectorTime = s.sectorTime
  | .settings => t.settings = s.settings
  | .periodInForce => t.periodInForce = s.periodInForce
  | .nextExpiry => t.nextExpiry = s.nextExpiry
  | .samplePosition => t.samplePosition = s.samplePosition
  | .samplesDue => t.samplesDue = s.samplesDue
  | .phase => t.phase = s.phase
  | .lanes => t.lanes = s.lanes
  | .responses => t.responses = s.responses
  | .notices => t.notices = s.notices
  | .inReset => t.inReset = s.inReset
  | .counters => t.counters = s.counters
  | .wire => t.wire = s.wire
  | .draws => t.draws = s.draws
  | .pending => t.pending = s.pending

/-- From `s` to `t` at most these fields change. -/
def ChangesOnly (fields : List Field) (s t : State) : Prop := ∀ f, f ∉ fields → f.Agree s t

/-- From `s` to `t` a counter rises by `n`, and stays at its highest value where it would pass it (R164). -/
def Counted (s t : State) (c : Counter) (n : Nat) : Prop := t.counter c = min (s.counter c + n) Config.counterMax

/-- A source is set in every master's status copy (R166). -/
def Noticed (t : State) (src : Source) : Prop := ∀ l : LaneIx, t.notices[l].status[src.place.1].getLsbD src.place.2 = true

/-- From `s` to `t` the device has put `o` on one of its wires. -/
def Shown (s t : State) (o : Output) : Prop := ∃ before after, t.wire = s.wire ++ before ++ o :: after

/-- What a source that an event sets can reach: the masters' notice state, and with their lines the armed flags, the counters of
notices raised and the trunk (R162, R166, R168). -/
def noticeFields : List Field := [.notices, .lanes, .counters, .wire]

/-- What a service reaches beside its owner's state: its lane, the response, its counters, and what a notice reaches. -/
def serviceFields : List Field := .responses :: noticeFields

/-- What a control message to a radio head reaches (R36, R40). -/
def sendFields : List Field := [.links, .draws, .counters, .wire]

/-- What the exit of a link from UP, or the end of a handoff, reaches (R29, R51, R59 to R62). -/
def exitFields : List Field :=
  [.links, .draws, .stations, .stationCount, .holdFree, .groups, .offers] ++ noticeFields

/-- What unbinding and the pass that it concerns reach (R99). -/
def unbindFields : List Field := [.stations, .passes, .holdFree, .groups, .offers]

/-- What freeing a station reaches (R13). -/
def freeFields : List Field := [.addressMap, .stationCount] ++ unbindFields

/-- The fields that a command can change. -/
def footprint : Instr → List Field
  | .powerOnReset .held => [.inReset]
  | .powerOnReset (.left _) => [.stations, .addressMap, .stationCount, .holdFree, .links, .passes, .passMap, .expirySweep, .seatMap,
      .zoneSweep, .channels, .groups, .offers, .credit, .refillsDue, .sectorTime, .settings, .periodInForce, .nextExpiry,
      .samplePosition, .samplesDue, .phase, .lanes, .responses, .notices, .inReset, .counters]
  | .carrierAppear _ => .links :: noticeFields
  | .carrierLoss _ => exitFields
  | .sampleExpiry _ => .samplesDue :: exitFields
  | .budgetPeriodExpiry => [.refillsDue, .periodInForce, .nextExpiry]
  | .refill _ => [.refillsDue, .credit, .counters]
  | .handoffDeadlineExpiry _ => exitFields
  | .guardDeadlineExpiry _ => [.stations]
  | .orphanDeadlineExpiry _ => freeFields ++ noticeFields
  | .join _ _ _ _ => [.links, .draws, .stations, .addressMap, .stationCount, .groups] ++ noticeFields
  | .roam _ _ _ _ _ => [.links, .draws, .stations, .addressMap, .stationCount, .groups] ++ noticeFields
  | .leave _ _ _ => exitFields ++ freeFields
  | .rate _ _ _ _ => [.links, .stations] ++ noticeFields
  | .claim _ _ _ _ _ => [.links, .draws] ++ unbindFields ++ noticeFields
  | .subscribe _ _ _ _ => [.links, .draws, .stations, .groups] ++ noticeFields
  | .unsubscribe _ _ _ _ => [.links, .draws, .stations, .groups, .offers] ++ noticeFields
  | .released _ _ _ _ _ => exitFields
  | .keepalive _ _ _ => .links :: noticeFields
  | .corruptControlMessage _ _ => exitFields
  | .malformedControlMessage _ _ => .links :: noticeFields
  | .downlinkFanFrame _ => [.links, .stations, .holdFree] ++ noticeFields
  | .uplinkFanFrame _ _ => [.counters, .wire]
  | .transmitComplete _ => [.links, .wire]
  | .replayPacket _ _ => [.channels, .groups, .offers] ++ noticeFields
  | .groupDecision _ _ _ => [.links, .stations, .groups, .offers, .credit] ++ noticeFields
  | .expirySweepVisit => .expirySweep :: unbindFields ++ noticeFields
  | .zoneSweepVisit => [.zoneSweep, .stations] ++ noticeFields
  | .spiWriteRequest _ => serviceFields
  | .spiReadResponse _ => [.responses, .counters, .wire]
  | .spiOtherCommand _ _ => []
  | .trunkControlFrame _ _ _ => noticeFields
  | .unknownRequestKind _ => serviceFields
  | .radioProfileSet _ => [.links, .credit] ++ serviceFields
  | .seatMapWrite _ => [.seatMap, .zoneSweep] ++ serviceFields
  | .linkRestart _ => .responses :: exitFields
  | .linkFaultArm _ => .links :: serviceFields
  | .stationEject _ => [.links, .draws] ++ freeFields ++ serviceFields
  | .phaseSet _ => [.phase, .expirySweep] ++ serviceFields
  | .sectorSet _ => [.settings, .links, .credit] ++ serviceFields
  | .matchClear _ => [.stations, .addressMap, .stationCount, .holdFree, .passes, .passMap, .expirySweep, .zoneSweep,
      .channels, .groups, .offers, .credit, .phase] ++ serviceFields
  | .countersClear _ => serviceFields
  | .passLoad _ => [.passes, .passMap] ++ serviceFields
  | .passAmend _ => unbindFields ++ serviceFields
  | .passRevoke _ => unbindFields ++ serviceFields
  | .passRemove _ => .passMap :: unbindFields ++ serviceFields
  | .passUnlock _ => .passes :: serviceFields
  | .channelOpen _ => [.channels, .stations, .groups, .offers] ++ serviceFields
  | .channelClose _ => [.channels, .stations, .groups, .offers] ++ serviceFields
  | .noticeLevelsSet _ => serviceFields
  | .noticeMaskSet _ => serviceFields
  | .noticeAccept _ => serviceFields
  | .noticeReturn _ => serviceFields
  | .noticeClear _ => serviceFields
  | .stationRead _ => serviceFields
  | .passRead _ => serviceFields
  | .radioRead _ => serviceFields
  | .groupRead _ => serviceFields
  | .seatMapRead _ => serviceFields
  | .countersRead _ => serviceFields
  | .sectorRead _ => serviceFields
  | .rightsSet _ => serviceFields
  | .sectorTimeTick => [.sectorTime, .samplePosition, .samplesDue]

end Sys2Proof.Machine
end

