-- ==== Sys2Proof/WellFormed.lean ====
section
/-! DEFINITION. Which commands are well formed: the operand of a row that is DEFINED by a check must meet that check. Every other
operand is in range by its type. An ill-formed command is not an event of the device, and its meaning changes nothing. -/

namespace Sys2Proof

/-- The operands of a command fit its row: a corrupt message fails the CRC check (R32), a malformed one passes it and fails the
kind and length check (R34), and an other SPI command is neither 0x01 nor 0x02 (R176). -/
def Instr.wellFormed : Instr → Bool
  | .corruptControlMessage _ bytes => Machine.crcFails bytes
  | .malformedControlMessage _ bytes => !Machine.crcFails bytes && Machine.shapeFails bytes
  | .spiOtherCommand command _ => command != 1#8 && command != 2#8
  | _ => true

end Sys2Proof
end

