-- ==== Sys2Proof/Certificates/Slice0/Obligations.lean ====
section
/-! DEFINITION. The statements about the model. Those that end in "Kept" say that every step keeps an invariant; `EveryLawHoldsAtReset`
says that reset has them all. A statement about a request speaks of the state `s0` that the request's owner sees (`Ready`) and of
what `answered` makes of the owner's state; a statement about a message speaks of the state `s1` that its owner sees (`Arrives`).
The clauses that rest on a choice of the model name its log entry. A device that is held in reset takes nothing (R152,
`PowerOnResetStartsEveryBlock`), so what a command does is said of states with `s.inReset = false`, which `Ready` and `Arrives` hold. -/

open Sys2Proof Sys2Proof.Machine

/-! ### The whole machine -/

/-- Log entry 1: a step runs the front command on the state with the queue's rest; an empty queue idles. -/
def Obligations.StepTakesTheFrontCommand : Prop :=
  (∀ i rest s, s.pending = i :: rest → step s = exec i (s.withQueue rest)) ∧ ∀ s, s.pending = [] → step s = .next s

/-- No command stops the device; none reaches the queue of commands or takes back what is on the wires, which are the model's own (log
entries 1 and 7). -/
def Obligations.EveryCommandAnswersNext : Prop :=
  ∀ i s, ∃ t, exec i s = .next t ∧ t.pending = s.pending ∧ ∃ w, t.wire = s.wire ++ w

/-- Each command changes at most the fields that its rule names (`footprint`). -/
def Obligations.EveryCommandKeepsToItsFootprint : Prop := ∀ i s t, exec i s = .next t → ChangesOnly (footprint i) s t

/-- R152: what each block holds as the device leaves reset; the pin's fall, which holds the device in reset; and that while it is held
READY and NOTICE are low, and whatever arrives is lost, is not counted and sends nothing. (The queue of commands and the wires are the
model's own: log entries 1 and 7. What State holds while the device is held in reset: log entry 40.) -/
def Obligations.PowerOnResetStartsEveryBlock : Prop :=
  (∀ s, exec (.powerOnReset .held) s = .next { s with inReset := true }) ∧
  (∀ s, s.inReset = true → s.readyPin = false ∧ s.noticePin = false ∧
    ∀ i, (∀ e, i ≠ .powerOnReset e) → exec i s = .next s) ∧
  ∀ carrier s, ∃ t, exec (.powerOnReset (.left carrier)) s = .next t ∧ t.inReset = false ∧ t.stations = [] ∧ t.addressMap = [] ∧
    (∀ r : RadioIx, t.stationCount[r] = 0) ∧ t.holdFree = 2048 ∧ t.passes = [] ∧ t.passMap = [] ∧ t.seatMap = [] ∧
    (∀ c : ChannelIx, t.channels[c] = { state := .closed, openAll := false, seatLocked := false, expected := none }) ∧
    t.groups = [] ∧ t.offers = [] ∧
    (∀ r : RadioIx, t.links[r].state = (if carrier.getLsbD r.val then .detected else .absent) ∧
      t.links[r].carrier = carrier.getLsbD r.val ∧ t.links[r].sample = .none ∧ t.links[r].filter = 0 ∧
      t.links[r].keepaliveSeen = false ∧ t.links[r].alertSeen = false ∧
      t.links[r].awaitingFirstUp = carrier.getLsbD r.val ∧ t.links[r].rxSequence = 0 ∧
      t.links[r].txSequence = 0 ∧ t.links[r].arm = none ∧ t.links[r].queue = [] ∧
      t.links[r].profile =
        { stationLimit := 96, refill := 3000, cap := 6000, bias := 100, detect := .onCarrier, strict := false } ∧
      t.credit[r] = 3000) ∧
    t.sectorTime = 0 ∧ t.phase = .pregame ∧
    t.settings = { handoffTimeout := 40, returnGuard := 2000, orphanHold := 30, budgetPeriod := 10 } ∧
    t.expirySweep = { running := false, cursor := 0 } ∧ t.zoneSweep = { running := false, cursor := 0 } ∧
    t.samplePosition = 0 ∧ t.periodInForce = 10 ∧ t.nextExpiry = 10 ∧
    t.lanes[(0 : LaneIx)].rights = 0b111111#6 ∧ t.lanes[(1 : LaneIx)].rights = 0b011001#6 ∧
    t.lanes[(2 : LaneIx)].rights = 0b011010#6 ∧ t.lanes[(3 : LaneIx)].rights = 0b011100#6 ∧
    (∀ l : LaneIx, t.lanes[l].queue = [] ∧ t.lanes[l].armed = true ∧ t.lanes[l].master = none) ∧ t.responses = [] ∧
    (∀ l : LaneIx, t.notices[l] = Notice.powerOn) ∧ t.readyPin = false ∧ t.noticePin = false ∧ (∀ c, t.counter c = 0) ∧
    t.pending = s.pending ∧ t.wire = s.wire

/-- Every invariant holds as the device leaves power-on reset, with carrier on any links; State.reset is the case of none. -/
def Obligations.EveryLawHoldsAtReset : Prop :=
  State.reset = State.powerOn 0#64 ∧ ∀ carrier, (State.powerOn carrier).Inv

/-! ### Invariants that every step keeps -/

/-- The canonical form of every table, and the ranges of their keys (R1, R70, R103, R116). -/
def Obligations.TablesCanonicalKept : Prop :=
  ∀ s t, s.Inv → step s = .next t → t.Canonical ∧ t.KeysInRange

/-- First law (R3). -/
def Obligations.AddressLawKept : Prop :=
  ∀ s t, s.Inv → step s = .next t → t.AddressLaw

/-- Second law (R4). -/
def Obligations.CountLawKept : Prop :=
  ∀ s t, s.Inv → step s = .next t → t.CountLaw

/-- Third and fourth law (R92). -/
def Obligations.BindingLawsKept : Prop :=
  ∀ s t, s.Inv → step s = .next t → t.BindingLaw ∧ t.EntitlementLaw

/-- Fifth law (R115) and sixth law (R116). -/
def Obligations.SubscriptionAndGroupLawsKept : Prop :=
  ∀ s t, s.Inv → step s = .next t → t.SubscriptionLaw ∧ t.GroupLaw

/-- Seventh law (R135), with the ranges of the profiles that bound it (R41, R138). -/
def Obligations.CreditLawKept : Prop :=
  ∀ s t, s.Inv → step s = .next t → t.ProfilesInRange ∧ t.CreditLaw

/-- Eighth law (R64). -/
def Obligations.HoldLawKept : Prop :=
  ∀ s t, s.Inv → step s = .next t → t.HoldLaw

/-- Ninth law (R172); and R168, R162: after every event each master's line is up exactly while a group is eligible, and a trunk lane
is armed exactly while its line is down. -/
def Obligations.NoticeLawsKept : Prop :=
  (∀ s t, s.NestLaw → step s = .next t → t.NestLaw) ∧ ∀ s t, s.LineLaw → step s = .next t → t.LineLaw

/-- Tenth law (R158): BOARD keeps CONFIG, and no command but RIGHTS_SET and power-on reset writes the rights table. Eleventh law
(R149): the match phase moves forward, except that power-on reset and MATCH_CLEAR set it to PREGAME. -/
def Obligations.RightsKeptAndPhaseForward : Prop :=
  ((∀ s t, s.ConfigLaw → step s = .next t → t.ConfigLaw) ∧
     ∀ i s t, (∀ l, i ≠ .rightsSet l) → (∀ c, i ≠ .powerOnReset c) → exec i s = .next t →
       ∀ l : LaneIx, t.lanes[l].rights = s.lanes[l].rights) ∧
  (∀ i s t, (∀ l, i ≠ .matchClear l) → (∀ c, i ≠ .powerOnReset c) → exec i s = .next t → s.phase.value ≤ t.phase.value) ∧
    ∀ i s t, exec i s = .next t → s.phase.value ≤ t.phase.value ∨ t.phase = .pregame

/-- Twelfth law (R109), with what a running zone sweep has already set right. -/
def Obligations.ZoneLawKept : Prop :=
  ∀ s t, s.Inv → step s = .next t → t.ZoneLaw

/-- The pass map names exactly the occupied slots (R71); every pass lies in its ranges and is LOCKED only with 3 mismatches (R70,
R84, R91); and a pass is overdue only while an expiry sweep is running that has not yet visited its slot (R89). -/
def Obligations.PassTableKept : Prop :=
  ∀ s t, s.Inv → step s = .next t → t.PassMapLaw ∧ t.PassesInRange ∧ t.OverdueLaw

/-- The sweeps' cursors (R86, R106), CLOSED channels (R111), the sector settings (R148) and the counters (R164) keep their ranges;
transmit queues hold 64 frames at most (R20), lane queues 8 requests (R154), lane 0's list 8 responses (R160); the sample timer's
position stays below 100 (R146), and the period in force within 1 to 100, as the setting does that it is reloaded from (R147). -/
def Obligations.RangesKept : Prop :=
  ∀ s t, step s = .next t → (s.SweepsInRange → t.SweepsInRange) ∧ (s.ClosedLaw → t.ClosedLaw) ∧
    (s.settings.InRange → t.settings.InRange) ∧ (s.CountersInRange → t.CountersInRange) ∧ (s.QueuesBounded → t.QueuesBounded) ∧
    (s.samplePosition < 100 → t.samplePosition < 100) ∧
    (s.settings.InRange → 1 ≤ s.periodInForce → s.periodInForce ≤ 100 → 1 ≤ t.periodInForce ∧ t.periodInForce ≤ 100)

/-- Every seat link record stays sound, and stations stand only on radios whose link is UP (R15, R20, R24). -/
def Obligations.LinksSoundKept : Prop :=
  ∀ s t, s.Inv → step s = .next t → t.LinksSound

/-- R29: whatever event takes a link out of UP, but power-on reset, leaves no station on the radio, no group of the radio and
nothing in its transmit queue, sends nothing to it, counts the exit and sets "link down". It orphans the stations ASSOCIATED with the
radio (R15) and those in a return on it (R62), forces the handoffs from it (R60), abandons those to it back to their old radio (R61),
and leaves every station that is not on it as it was. -/
def Obligations.EveryExitFromUpClearsTheRadio : Prop :=
  ∀ i s t (r : RadioIx), (∀ c, i ≠ .powerOnReset c) → s.Inv → exec i s = .next t → s.links[r].state = .up →
    t.links[r].state ≠ .up →
      (∀ e ∈ t.stations, e.2.isOn r = false) ∧ (∀ c, t.group r c = none) ∧ t.links[r].queue = [] ∧ Noticed t .linkDown ∧
        Counted s t (.link r .linkDownExits) 1 ∧ (∃ w, t.wire = s.wire ++ w ∧ ∀ bytes, .control r bytes ∉ w) ∧
        ∀ e ∈ s.stations, ∀ orphaned : Station, orphaned = { e.2 with place := .orphan r s.orphanDeadline,
                                                                      subs := e.2.subs.map fun x => { x with paused := true } } →
          (∀ p, e.2.place = .associated r p → t.stations.find e.1 = some orphaned) ∧
          (∀ d p held, e.2.place = .handoff r r d p held → t.stations.find e.1 = some orphaned) ∧
          (∀ n d p held, e.2.place = .handoff r n d p held → n ≠ r →
            t.stations.find e.1 = some (Station.reflagged s.channels
              { e.2 with place := .associated n (s.priorAfter r),
                         subs := e.2.subs.map fun x => { x with awaitingKey := true } }) ∧ Noticed t .handoffForced) ∧
          (∀ o d p held, e.2.place = .handoff o r d p held → o ≠ r →
            t.stations.find e.1 = some { e.2 with place := .associated o p }) ∧
          (e.2.isOn r = false → t.stations.find e.1 = some e.2)

/-! ### Messages: their encoding, their sending, their checks -/

/-- Section 11.3, R177: the bytes of each message that a radio head sends arrive as the command they stand for, and what arrives is
always a well-formed command. -/
def Obligations.HeadMessagesArriveAsTheirCommands : Prop :=
  (∀ i r bytes, messageBytes i = some (r, bytes) → arrival r bytes = i) ∧
    ∀ r bytes, (arrival r bytes).wellFormed = true

/-- R36 and R40: an UP link sends a message with its transmit sequence and moves it on; a link that is not UP suppresses it; an arm
whose position the message does not reach counts it; and an arm whose position it reaches acts as its kind says. -/
def Obligations.MessagesAreNumberedAndInjected : Prop :=
  ∀ (s : State) (r : RadioIx) (m : ControlOut),
    (s.links[r].state ≠ .up → s.send r m = s.count (.link r .suppressedMessages)) ∧
    (s.links[r].state = .up → s.links[r].arm = none →
      s.send r m = ({ s with wire := s.wire ++ [Output.control r (m.bytes s.links[r].txSequence)],
                             links := s.links.set r { s.links[r] with txSequence := s.links[r].txSequence + 1 } }).count
        (.link r .messagesSent)) ∧
    (∀ a, s.links[r].state = .up → s.links[r].arm = some a → a.count + 1 ≠ a.position →
      s.send r m = ({ s with wire := s.wire ++ [Output.control r (m.bytes s.links[r].txSequence)],
                             links := s.links.set r
                               { s.links[r] with txSequence := s.links[r].txSequence + 1,
                                                 arm := some { a with count := a.count + 1 } } }).count
        (.link r .messagesSent)) ∧
    (∀ a, s.links[r].state = .up → s.links[r].arm = some a → a.count + 1 = a.position →
      (s.send r m).links = s.links.set r
          { s.links[r] with arm := none, txSequence := s.links[r].txSequence + (if a.kind = .skipSequence then 2 else 1) } ∧
        Counted s (s.send r m) (.link r .faultInjections) 1 ∧ Counted s (s.send r m) (.link r .messagesSent) 1 ∧
        (a.kind = .dropMessage → (s.send r m).wire = s.wire) ∧
        (a.kind = .skipSequence → (s.send r m).wire = s.wire ++ [.control r (m.bytes (s.links[r].txSequence + 1))]) ∧
        (a.kind = .corruptCrc → ∃ bytes, (s.send r m).wire = s.wire ++ [.control r bytes] ∧
          bytes.take (bytes.length - 2) = m.header s.links[r].txSequence ∧ crcFails bytes = true))

/-- R26, R32 to R34: a KEEPALIVE, a message with a wrong CRC in a radio that is not strict, and a malformed message, each on a link
with carrier. R37: a message with a wrong CRC on a strict radio forces every handoff that awaits RELEASED from it, as its deadline
does: its station is ASSOCIATED on its new radio, DROP goes to the strict radio, and each is counted and noticed; every other station
stands; and no handoff awaits RELEASED from the radio any more. (That a KEEPALIVE counts as a message received: log entry 17.) -/
def Obligations.KeepalivesAndBadMessages : Prop :=
  ((∀ r q f s, s.inReset = false → s.links[r].state ≠ .absent → ∃ t, exec (.keepalive r q f) s = .next t ∧
     t.links = s.links.set r { s.links[r] with rxSequence := q + 1, keepaliveSeen := true, alertSeen := f.getLsbD 0 } ∧
     Counted s t (.link r .keepalivesReceived) 1 ∧ Counted s t (.link r .messagesReceived) 1 ∧
     (s.links[r].rxSequence ≠ q → Noticed t .sequenceGap ∧ Counted s t (.link r .sequenceGaps) 1) ∧
     (s.links[r].alertSeen = false → f.getLsbD 0 = true → Noticed t .headAlert ∧ Counted s t (.link r .headAlerts) 1) ∧
     (s.links[r].rxSequence = q → (s.links[r].alertSeen = true ∨ f.getLsbD 0 = false) → t.notices = s.notices)) ∧
   (∀ r bytes s, s.inReset = false → s.links[r].state ≠ .absent → crcFails bytes = true → s.links[r].profile.strict = false →
     ∃ t, exec (.corruptControlMessage r bytes) s = .next t ∧ ChangesOnly noticeFields s t ∧ Noticed t .crcError ∧
       Counted s t (.link r .crcErrors) 1) ∧
   (∀ r bytes s, s.inReset = false → s.links[r].state ≠ .absent → crcFails bytes = false → shapeFails bytes = true →
     ∃ t, exec (.malformedControlMessage r bytes) s = .next t ∧
       t.links = s.links.set r { s.links[r] with rxSequence := bytes.getD 1 0#8 + 1 } ∧
       Counted s t (.link r .malformedMessages) 1 ∧
       (s.links[r].rxSequence ≠ bytes.getD 1 0#8 → Noticed t .sequenceGap ∧ Counted s t (.link r .sequenceGaps) 1))) ∧
  ∀ r bytes s, s.Inv → s.inReset = false → s.links[r].state ≠ .absent → crcFails bytes = true → s.links[r].profile.strict = true →
    ∀ forced : List (Nat × Station), forced = (s.stations.filter fun e => e.2.awaitsReleasedFrom r) →
    ∃ t, exec (.corruptControlMessage r bytes) s = .next t ∧
      (∀ e ∈ t.stations, ∀ n d p held, e.2.place = .handoff r n d p held → n = r) ∧
      (∀ e ∈ s.stations, (∀ n d p held, e.2.place = .handoff r n d p held → n = r) → t.stations.find e.1 = some e.2) ∧
      (∀ e ∈ s.stations, ∀ n d p held, e.2.place = .handoff r n d p held → n ≠ r →
        t.stations.find e.1 = some (Station.reflagged s.channels
          { e.2 with place := .associated n (s.priorAfter r), subs := e.2.subs.map fun x => { x with awaitingKey := true } }) ∧
        Noticed t .handoffForced ∧
        (s.links[r].arm = none → ∃ k, Shown s t (.control r (ControlOut.bytes (.drop e.1 e.2.device) k)))) ∧
      t.stationCount[r] = s.stationCount[r] - forced.length ∧
      (s.links[r].arm = none → t.links[r].txSequence = s.links[r].txSequence + BitVec.ofNat 8 forced.length) ∧
      Counted s t (.station .forcedCompletions) forced.length ∧ Counted s t (.station .handoffsCompleted) forced.length ∧
      Counted s t (.link r .crcErrors) 1 ∧ Noticed t .crcError

/-- The eight messages that are no KEEPALIVE. R33, R34: on a link that is not UP each is ignored and counted; on an UP link each is
taken on with or without a gap, by one and the same owner; and a gap is counted and noticed in either case. R9, R10, R49: a message
that carries the expected sequence and names no context that passes the screen is a stray, and does nothing else; a RELEASED is one
where its context is FREE, ORPHAN or none at all. R50: a RELEASED for any other context is a late release, but for a station in an
outward handoff from the radio: there one with another device address is a response error (R38), which in strict mode forces the
handoff with DROP (R37), and one with the station's address is `ReleaseCompletesTheHandoff`'s. -/
def Obligations.StraysAndIgnoredMessages : Prop :=
  (∀ i r q, gatedMessage i = some (r, q) →
    (∀ s, s.inReset = false → s.links[r].state = .detected ∨ s.links[r].state = .down →
      ∀ u, u = s.setLink r { s.links[r] with rxSequence := q + 1 } →
      (s.links[r].rxSequence = q → exec i s = .next (u.count (.link r .notUpIgnored))) ∧
      (s.links[r].rxSequence ≠ q → exec i s =
        .next ((((u.count (.link r .sequenceGaps)).note .sequenceGap).count (.link r .notUpIgnored)).settle s.notices))) ∧
    ∃ owner : State → State, ∀ s, s.inReset = false → s.links[r].state = .up →
      ∀ u, u = s.setLink r { s.links[r] with rxSequence := q + 1 } →
      (s.links[r].rxSequence = q → exec i s = .next ((owner (u.count (.link r .messagesReceived))).settle s.notices)) ∧
      (s.links[r].rxSequence ≠ q → exec i s =
        .next ((owner (((u.count (.link r .sequenceGaps)).note .sequenceGap).count (.link r .messagesReceived))).settle
          s.notices))) ∧
  (∀ r q st s s1, Arrives r q s s1 → s1.screened r st = none →
    exec (.leave r q st) s = .next (((s1.count (.station .strays)).note .strayMessage).settle s.notices) ∧
    (∀ b, exec (.rate r q st b) s = exec (.leave r q st) s) ∧ (∀ p k, exec (.claim r q st p k) s = exec (.leave r q st) s) ∧
    (∀ c, exec (.subscribe r q st c) s = exec (.leave r q st) s) ∧
    (∀ c, exec (.unsubscribe r q st c) s = exec (.leave r q st) s)) ∧
  ∀ r q i a u s s1, Arrives r q s s1 →
    (4096 ≤ i.toNat ∨ s1.stations.find i.toNat = none ∨ (∃ st o d, s1.stations.find i.toNat = some st ∧ st.place = .orphan o d) →
      exec (.released r q i a u) s = .next (((s1.count (.station .strays)).note .strayMessage).settle s.notices)) ∧
    ∀ st, i.toNat < 4096 → s1.stations.find i.toNat = some st →
      ((∃ o p, st.place = .associated o p) ∨ (∃ o n d p held, st.place = .handoff o n d p held ∧ (o ≠ r ∨ n = r)) →
        exec (.released r q i a u) s =
          .next (((s1.count (.station .lateReleases)).note .lateRelease).settle s.notices)) ∧
      ∀ n d p held, st.place = .handoff r n d p held → n ≠ r → a ≠ st.device →
        (s.links[r].profile.strict = false → exec (.released r q i a u) s =
          .next (((s1.count (.link r .responseErrors)).note .responseError).settle s.notices)) ∧
        (s.links[r].profile.strict = true → ∃ t, exec (.released r q i a u) s = .next t ∧
          (∃ x ∈ t.stations.find i.toNat, x.place = .associated n (s.priorAfter r)) ∧
          t.stationCount = s.stationCount.set r (s.stationCount[r] - 1) ∧ t.holdFree = s.holdFree + held.length ∧
          Counted s t (.link r .responseErrors) 1 ∧ Counted s t (.station .forcedCompletions) 1 ∧
          Counted s t (.station .handoffsCompleted) 1 ∧ Noticed t .responseError ∧ Noticed t .handoffForced ∧
          (s.links[r].arm = none →
            Shown s t (.control r (ControlOut.bytes (.drop i.toNat st.device) s.links[r].txSequence))))

/-- R8: a rate class above 11 in a JOIN, ROAM or RATE is replaced by 11 before the message is taken further, in silence: the message
does all that one carrying 11 does; 0 to 11 are used as carried; an ADMIT carries the station's class, which is clamped; a decision
prices each recipient at the class that the station table holds then. And (R12) a RATE that passes the screen replaces the class and
does nothing else. -/
def Obligations.RateClassIsClampedFirst : Prop :=
  (∀ b : Byte, (11 < b.toNat → clampRate b = 11) ∧ (b.toNat ≤ 11 → (clampRate b).val = b.toNat) ∧
    (11 < b.toNat → ∀ r q a f st s, exec (.join r q a b) s = exec (.join r q a 11#8) s ∧
      exec (.roam r q a b f) s = exec (.roam r q a 11#8 f) s ∧ exec (.rate r q st b) s = exec (.rate r q st 11#8) s)) ∧
  (∀ r q i b s s1 ix st, Arrives r q s s1 → s1.screened r i = some (ix, st) →
    exec (.rate r q i b) s = .next { s1 with stations := s1.stations.put ix { st with rate := clampRate b } }) ∧
  (∀ r q a b s s1 ix, Arrives r q s s1 → s1.mapped a = none → s1.radioFull r = false → s1.stations.lowestFree 4096 = some ix →
    s.links[r].arm = none → ∃ t, exec (.join r q a b) s = .next t ∧
      Shown s t (.control r (ControlOut.bytes (.admission ix a (clampRate b)) s.links[r].txSequence))) ∧
  ∀ (s : State) c cls members, ∀ m ∈ s.recipients c cls members, ∃ st ∈ s.stations.find m.station, m.rate = st.rate

/-! ### Seat links and timers -/

/-- R25, R31: carrier appears on an ABSENT link; carrier is lost on a DETECTED or DOWN one; and neither does anything to a link that
is already so. From UP, carrier loss is an exit: the link's record says so here, the rest `EveryExitFromUpClearsTheRadio`. (That
carrier that is already so is no event: log entry 5.) -/
def Obligations.CarrierDrivesTheLink : Prop :=
  (∀ r s, s.inReset = false → s.links[r].state = .absent → ∃ t, exec (.carrierAppear r) s = .next t ∧
    t.links = s.links.set r
      { s.links[r] with state := .detected, carrier := true, sample := .none, filter := 0, rxSequence := 0, txSequence := 0,
                        keepaliveSeen := false, alertSeen := false, awaitingFirstUp := true } ∧
    Counted s t (.link r .carrierAppears) 1 ∧ (s.links[r].profile.detect = .onCarrier → Noticed t .linkDetected) ∧
    (s.links[r].profile.detect = .onUp → t.notices = s.notices)) ∧
  (∀ r s, s.links[r].state ≠ .absent → exec (.carrierAppear r) s = .next s) ∧
  (∀ r s, s.inReset = false → s.links[r].state = .detected ∨ s.links[r].state = .down →
    exec (.carrierLoss r) s = .next ({ s with
    links := s.links.set r
      { s.links[r] with state := .absent, carrier := false, sample := .none, filter := 0, keepaliveSeen := false,
                        alertSeen := false, awaitingFirstUp := false } }.count (.link r .carrierLosses))) ∧
  (∀ r s, s.links[r].state = .absent → exec (.carrierLoss r) s = .next s) ∧
  (∀ r s, s.inReset = false → s.links[r].state = .up → ∃ t, exec (.carrierLoss r) s = .next t ∧ t.links[r] =
    { s.links[r] with state := .absent, carrier := false, sample := .none, filter := 0, keepaliveSeen := false,
                      alertSeen := false, awaitingFirstUp := false, queue := [] })

/-- R27, R28, R30: a due sample, by the link's state, its kind and the new filter count `n`; an exit's other effects are
`EveryExitFromUpClearsTheRadio`'s. That a sample is due is log entry 3. -/
def Obligations.SamplesFilterTheLink : Prop :=
  ∀ (r : RadioIx) s kind n, s.inReset = false → s.samplesDue[r] ≠ 0 →
    kind = (if s.links[r].keepaliveSeen then SampleKind.good else .miss) →
    n = (if s.links[r].sample = kind then min (s.links[r].filter + 1) 3 else 1) →
    (s.links[r].state = .absent →
      exec (.sampleExpiry r) s = .next { s with samplesDue := s.samplesDue.set r (s.samplesDue[r] - 1) }) ∧
    ((s.links[r].state = .up ∧ ¬(kind = .miss ∧ n = 3)) ∨
        ((s.links[r].state = .detected ∨ s.links[r].state = .down) ∧ ¬(kind = .good ∧ n = 3)) →
      exec (.sampleExpiry r) s = .next { s with
        samplesDue := s.samplesDue.set r (s.samplesDue[r] - 1),
        links := s.links.set r { s.links[r] with keepaliveSeen := false, sample := kind, filter := n } }) ∧
    ((s.links[r].state = .detected ∨ s.links[r].state = .down) → kind = .good → n = 3 →
      ∃ t, exec (.sampleExpiry r) s = .next t ∧
        t.links = s.links.set r
          { s.links[r] with state := .up, keepaliveSeen := false, sample := .none, filter := 0, awaitingFirstUp := false } ∧
        t.samplesDue = s.samplesDue.set r (s.samplesDue[r] - 1) ∧ Noticed t .linkUp ∧ Counted s t (.link r .linkUpEntries) 1 ∧
        (s.links[r].profile.detect = .onUp → s.links[r].awaitingFirstUp = true → Noticed t .linkDetected) ∧
        ChangesOnly (.samplesDue :: .links :: noticeFields) s t) ∧
    (s.links[r].state = .up → kind = .miss → n = 3 →
      ∃ t, exec (.sampleExpiry r) s = .next t ∧ t.links[r] =
        { s.links[r] with state := .down, keepaliveSeen := false, sample := .none, filter := 0, queue := [] })

/-- R136, R144, R146, R147: the tick of sector time and of the keepalive sample timer, the budget period expiry and a due refill.
That a sample, a refill or an expiry is due is log entry 3; that the next expiry counts from the due time, where the expiry is taken
late, log entry 25. -/
def Obligations.TimersCountAndRefill : Prop :=
  (∀ s, s.inReset = false → s.samplePosition < 99 → exec .sectorTimeTick s =
    .next { s with sectorTime := s.sectorTime + 1, samplePosition := s.samplePosition + 1 }) ∧
  (∀ s, s.inReset = false → s.samplePosition = 99 → exec .sectorTimeTick s =
    .next { s with sectorTime := s.sectorTime + 1, samplePosition := 0, samplesDue := s.samplesDue.map (· + 1) }) ∧
  (∀ s, s.inReset = false → passed s.nextExpiry s.sectorTime = true → exec .budgetPeriodExpiry s =
    .next { s with refillsDue := s.refillsDue.map (· + 1), periodInForce := s.settings.budgetPeriod,
                   nextExpiry := s.nextExpiry + BitVec.ofNat 32 s.settings.budgetPeriod }) ∧
  (∀ s, passed s.nextExpiry s.sectorTime = false → exec .budgetPeriodExpiry s = .next s) ∧
  (∀ (r : RadioIx) s, s.inReset = false → s.refillsDue[r] ≠ 0 → exec (.refill r) s =
    .next ({ s with
      refillsDue := s.refillsDue.set r (s.refillsDue[r] - 1),
      credit := s.credit.set r (min (s.credit[r] + (s.links[r].profile.refill : Int)) (s.links[r].profile.cap : Int)) }.addTo
        (.airtime r .refillOverflow) (s.credit[r] + (s.links[r].profile.refill : Int) - (s.links[r].profile.cap : Int)).toNat)) ∧
  (∀ (r : RadioIx) s, s.refillsDue[r] = 0 → exec (.refill r) s = .next s)

/-! ### Stations -/

/-- What a JOIN does, and what a ROAM does over the same station, which is counted as a ROAM too (R6, R7, R46). An unknown address on a
radio with room takes the lowest FREE context; without room, or without a FREE context, it is refused (R5). An ORPHAN station is
restored on a radio with room, in every group of its entries (R17, R122); without room it is refused and stays as it was. A station
ASSOCIATED on the radio takes its new class and is sent ADMIT again. A JOIN for a station ASSOCIATED on another radio, or in
HANDOFF, is a ROAM with the link-lost flag set. -/
def Obligations.JoinAllocatesOrRestores : Prop :=
  (∀ r q a b s s1, Arrives r q s s1 →
    ∀ i base, (i = .join r q a b ∧ base = s1) ∨ (∃ f, i = .roam r q a b f ∧ base = s1.count (.station .roamsReceived)) →
    (s1.mapped a = none →
      (∀ ix, s1.radioFull r = false → s1.stations.lowestFree 4096 = some ix → exec i s = .next (({ base with
        stations := s1.stations.put ix
          { device := a, place := .associated r none, rate := clampRate b, tier := .guest, binding := none, subs := [] },
        addressMap := s1.addressMap.put a.toNat ix,
        stationCount := s1.stationCount.set r (s1.stationCount[r] + 1) }.count (.station .allocated)).send r
          (.admission ix a (clampRate b)))) ∧
      (s1.radioFull r = true → exec i s =
        .next ((((base.send r (.refuse none a .radioFull)).count (.station .radioFullRefusals)).note .radioFull).settle
          s.notices)) ∧
      (s1.radioFull r = false → s1.stations.lowestFree 4096 = none → exec i s =
        .next ((((base.send r (.refuse none a .tableFull)).count (.station .tableFullRefusals)).note .stationTableFull).settle
          s.notices))) ∧
    ∀ ix st, s1.mapped a = some (ix, st) →
      (∀ p, st.place = .associated r p → exec i s = .next (({ base with
        stations := s1.stations.put ix { st with rate := clampRate b } }.send r
          (.admission ix st.device (clampRate b))).count (.station .readmits))) ∧
      ∀ o d, st.place = .orphan o d →
        (s1.radioFull r = false → ∃ t, exec i s = .next t ∧
          t.stations.find ix = some (Station.reflagged s1.channels
            { st with place := .associated r none, rate := clampRate b,
                      subs := st.subs.map fun e => { e with awaitingKey := true } }) ∧
          (∀ j, j ≠ ix → t.stations.find j = s1.stations.find j) ∧
          t.stationCount = s1.stationCount.set r (s1.stationCount[r] + 1) ∧
          (∀ e ∈ st.subs, ∃ g ∈ t.group r e.channel, ix ∈ g.members) ∧ Counted s t (.station .restored) 1 ∧
          Counted s t (.replay .rejoins) st.subs.length ∧
          t.counter (.station .roamsReceived) = base.counter (.station .roamsReceived) ∧
          ChangesOnly ([.stations, .stationCount, .groups] ++ sendFields) s t) ∧
        (s1.radioFull r = true → exec i s =
          .next ((((base.send r (.refuse (some ix) st.device .radioFull)).count (.station .radioFullRefusals)).note
            .radioFull).settle s.notices))) ∧
  ∀ r q a b s s1 ix st, Arrives r q s s1 → s1.mapped a = some (ix, st) →
    (∃ o p, st.place = .associated o p ∧ o ≠ r) ∨ (∃ o n d p held, st.place = .handoff o n d p held) →
      exec (.join r q a b) s = exec (.roam r q a b 1#8) s

/-- R47, R48: a ROAM from another radio for an ASSOCIATED station is refused where that radio is full, deferred where the return
guard holds it back, and begins a handoff otherwise. R55 to R58: a ROAM during a handoff, by the radio m it comes from: its target
again, a third radio with room, the old radio, in a return another radio with room, and another radio that is full, which is refused
and leaves the handoff as it was. Each with the message it sends. (The time remaining to a guard deadline that is passed: log entry
26.) -/
def Obligations.RoamBeginsOrSupersedesAHandoff : Prop :=
  (∀ n q a b f s s1 ix st o p, Arrives n q s s1 → s1.mapped a = some (ix, st) → st.place = .associated o p → o ≠ n →
     ∀ s2, s2 = s1.count (.station .roamsReceived) →
     (s1.radioFull n = false → s1.guarded n p (f.getLsbD 0) = false → exec (.roam n q a b f) s =
       .next ((({ s2 with
           stations := s2.stations.put ix
             { st with place := .handoff o n (s.sectorTime + BitVec.ofNat 32 s.settings.handoffTimeout) p [],
                       rate := clampRate b },
           stationCount := s2.stationCount.set n (s2.stationCount[n] + 1) }).count (.station .handoffsBegun)).send o
         (.release ix st.device))) ∧
     (s1.radioFull n = false → s1.guarded n p (f.getLsbD 0) = true → ∃ guard, p = some guard ∧ exec (.roam n q a b f) s =
       .next ((((s2.send n (.defer ix st.device (remaining guard.deadline s.sectorTime))).count (.station .deferrals)).note
         .pingPongDeferral).settle s.notices)) ∧
     (s1.radioFull n = true → exec (.roam n q a b f) s =
       .next ((((s2.send n (.refuse (some ix) st.device .radioFull)).count (.station .radioFullRefusals)).note .radioFull).settle
         s.notices))) ∧
  ∀ m q a b f s s1 ix st o n d p held, Arrives m q s s1 → s1.mapped a = some (ix, st) → st.place = .handoff o n d p held →
    ∀ s2, s2 = s1.count (.station .roamsReceived) →
    ∀ toward : RadioIx → State, toward = (fun target => { s2 with
      stations := s2.stations.put ix { st with place := .handoff o target s.handoffDeadline p held, rate := clampRate b } }) →
    ∀ counted : State → Host.Outcome State Fault Refusal, counted = (fun u =>
      .next (((u.count (.station .supersedes)).note .superseded).settle s.notices)) →
    (m = n → exec (.roam m q a b f) s = .next (({ s2 with stations := s2.stations.put ix { st with rate := clampRate b } }.send m
      (.admission ix st.device (clampRate b))).count (.station .readmits))) ∧
    (m ≠ n → m ≠ o → s1.radioFull m = true → exec (.roam m q a b f) s =
      .next ((((s2.send m (.refuse (some ix) st.device .radioFull)).count (.station .radioFullRefusals)).note .radioFull).settle
        s.notices)) ∧
    (m ≠ n → m ≠ o → o ≠ n → s1.radioFull m = false → exec (.roam m q a b f) s = counted ({ toward m with
        stationCount := (s.stationCount.set m (s.stationCount[m] + 1)).set n (s.stationCount[n] - 1) }.send n
      (.refuse (some ix) st.device .superseded))) ∧
    (m = o → o ≠ n → exec (.roam m q a b f) s = counted ({ toward o with
        stationCount := s.stationCount.set n (s.stationCount[n] - 1) }.send n (.refuse (some ix) st.device .superseded))) ∧
    (m ≠ n → o = n → s1.radioFull m = false → exec (.roam m q a b f) s = counted ({ toward m with
        stationCount := s.stationCount.set m (s.stationCount[m] + 1) }.send o (.release ix st.device)))

/-- R11, R13: a LEAVE from the current radio of an ASSOCIATED station frees it: its context, its address, its place in its pass's
bound list and in its radio's groups, and its count; no other context, no other group or member, and no message. R57, R59: a LEAVE
from the target of an outward handoff makes the station ORPHAN, out of every group; a LEAVE during a return ends it on its radio.
(Freeing in R13's order: log entry 18.) -/
def Obligations.LeaveFreesOrEndsAHandoff : Prop :=
  (∀ r q i s s1 ix st p, Arrives r q s s1 → s1.screened r i = some (ix, st) → st.place = .associated r p →
     ∃ t, exec (.leave r q i) s = .next t ∧ t.stations.find ix = none ∧ (∀ j, j ≠ ix → t.stations.find j = s.stations.find j) ∧
       t.addressMap = s.addressMap.drop st.device.toNat ∧ t.stationCount = s.stationCount.set r (s.stationCount[r] - 1) ∧
       (st.binding = none → t.passes = s.passes) ∧
       (∀ b, st.binding = some b → ∀ j, t.passes.find j =
         (s.passes.find j).map fun x => if j = b.slot then { x with bound := x.bound.erase ix } else x) ∧
       (s.GroupLaw → ∀ r' c, t.group r' c = s.groupWithout ix r' c) ∧
       t.wire = s.wire ∧ Counted s t (.station .leaves) 1 ∧ Counted s t (.station .freed) 1) ∧
  ∀ r q i s s1 ix st o n d p held, Arrives r q s s1 → s1.screened r i = some (ix, st) → st.place = .handoff o n d p held →
    (r = n → o ≠ n → ∃ t, exec (.leave r q i) s = .next t ∧
      t.stations.find ix = some { st with place := .orphan o s.orphanDeadline,
                                          subs := st.subs.map fun e => { e with paused := true } } ∧
      t.stationCount = (s.stationCount.set o (s.stationCount[o] - 1)).set n (s.stationCount[n] - 1) ∧
      t.holdFree = s.holdFree + held.length ∧ Counted s t (.station .holdDiscards) held.length ∧
      (s.GroupLaw → ∀ r' c, t.group r' c = s.groupWithout ix r' c) ∧ Counted s t (.station .abandonmentsToOrphan) 1) ∧
    (o = n → ∃ t, exec (.leave r q i) s = .next t ∧ t.stations = s.stations.put ix { st with place := .associated o p } ∧
      t.stationCount = s.stationCount ∧ t.groups = s.groups ∧ t.holdFree = s.holdFree + held.length ∧
      Counted s t (.station .returnsCompleted) 1)

/-- R51, R52: a RELEASED that matches, or a LEAVE, from the old radio completes an outward handoff: the station on its new radio
with its prior pair and every entry awaiting a key, its flags evaluated there (R120); the old radio's count; the hold queue's
buffers returned, and its frames in the new radio's queue as far as there is room (R66). -/
def Obligations.ReleaseCompletesTheHandoff : Prop :=
  ∀ o q i s s1 ix st n d p held, Arrives o q s s1 → s1.screened o i = some (ix, st) → st.place = .handoff o n d p held → n ≠ o →
    ∀ done : State → Prop, done = (fun t =>
      t.stations.find ix = some (Station.reflagged s.channels
        { st with place := .associated n (if s.settings.returnGuard = 0 then none else
                    some { radio := o, deadline := s.sectorTime + BitVec.ofNat 32 s.settings.returnGuard }),
                  subs := st.subs.map fun e => { e with awaitingKey := true } }) ∧
      (∀ j, j ≠ ix → t.stations.find j = s.stations.find j) ∧ t.stationCount = s.stationCount.set o (s.stationCount[o] - 1) ∧
      t.holdFree = s.holdFree + held.length ∧
      t.links[n].queue = s.links[n].queue ++ (held.take (64 - s.links[n].queue.length)).map TxEntry.fan ∧
      Counted s t (.station .handoffsCompleted) 1 ∧ Counted s t (.replay .migrations) st.subs.length ∧
      Counted s t (.station .flushDrops) (held.length - (64 - s.links[n].queue.length))) →
    (∀ u : Half, ∃ t, exec (.released o q i st.device u) s = .next t ∧ done t ∧ Counted s t (.station .completionsByRelease) 1 ∧
      Counted s t (.station .undeliveredFrames) u.toNat) ∧
    ∃ t, exec (.leave o q i) s = .next t ∧ done t ∧ Counted s t (.station .completionsByLeave) 1

/-- R16, R53, R54, R57: what each deadline does when it is passed; a deadline that is ahead does nothing (R145, log entry 2). -/
def Obligations.DeadlinesExpireWhenPassed : Prop :=
  (∀ (k : StationIx) s st o n d p held, s.stations.find k.val = some st → st.place = .handoff o n d p held →
    (passed d s.sectorTime = false → exec (.handoffDeadlineExpiry k) s = .next s) ∧
    (s.inReset = false → passed d s.sectorTime = true → o ≠ n → ∃ t, exec (.handoffDeadlineExpiry k) s = .next t ∧
      (∃ x ∈ t.stations.find k.val, x.place = .associated n (s.priorAfter o)) ∧
      t.stationCount = s.stationCount.set o (s.stationCount[o] - 1) ∧ t.holdFree = s.holdFree + held.length ∧
      Counted s t (.station .forcedCompletions) 1 ∧ Noticed t .handoffForced) ∧
    (s.inReset = false → passed d s.sectorTime = true → o = n → ∃ t, exec (.handoffDeadlineExpiry k) s = .next t ∧
      t.stations = s.stations.put k.val { st with place := .associated o p } ∧ t.holdFree = s.holdFree + held.length ∧
      Counted s t (.station .returnsCompleted) 1 ∧ t.notices = s.notices)) ∧
  (∀ (k : StationIx) s st q, s.stations.find k.val = some st → st.prior = some q →
    (passed q.deadline s.sectorTime = false → exec (.guardDeadlineExpiry k) s = .next s) ∧
    (s.inReset = false → passed q.deadline s.sectorTime = true →
      exec (.guardDeadlineExpiry k) s = .next { s with stations := s.stations.put k.val st.withoutPrior })) ∧
  (∀ (k : StationIx) s st o d, s.stations.find k.val = some st → st.place = .orphan o d →
    (passed d s.sectorTime = false → exec (.orphanDeadlineExpiry k) s = .next s) ∧
    (s.inReset = false → passed d s.sectorTime = true → ∃ t, exec (.orphanDeadlineExpiry k) s = .next t ∧ t.stations.find k.val = none ∧
      t.addressMap = s.addressMap.drop st.device.toNat ∧ t.stationCount = s.stationCount ∧ Counted s t (.station .evicted) 1 ∧
      Counted s t (.station .freed) 1 ∧ Noticed t .orphanEvicted))

/-- R19 to R21, R63: a downlink frame by the state of its destination, an uplink frame by where its source is, and the oldest entry
of a transmit queue. -/
def Obligations.FanFramesFollowTheStation : Prop :=
  (∀ f s, s.inReset = false → s.mapped f.destination = none →
    exec (.downlinkFanFrame f) s = .next (s.count (.station .downlinkUnknown))) ∧
  (∀ f s ix st r p, s.inReset = false → s.mapped f.destination = some (ix, st) → st.place = .associated r p →
    exec (.downlinkFanFrame f) s = .next (if s.links[r].queue.length < 64 then
        ({ s with links := s.links.set r { s.links[r] with queue := s.links[r].queue ++ [TxEntry.fan f] } }).count
          (.station .downlinkForwarded)
      else s.count (.station .downlinkTransmitFull))) ∧
  (∀ f s ix st o n d p held, s.inReset = false → s.mapped f.destination = some (ix, st) → st.place = .handoff o n d p held →
    (held.length < st.tier.holdDepth → s.holdFree ≠ 0 → exec (.downlinkFanFrame f) s =
      .next ({ s with stations := s.stations.put ix { st with place := .handoff o n d p (held ++ [f]) },
                      holdFree := s.holdFree - 1 }.count (.station .downlinkHeld))) ∧
    (held.length < st.tier.holdDepth → s.holdFree = 0 → exec (.downlinkFanFrame f) s =
      .next (((s.count (.station .holdPoolDrops)).note .holdPoolExhausted).settle s.notices)) ∧
    (¬ held.length < st.tier.holdDepth → exec (.downlinkFanFrame f) s =
      .next (({ s with
        stations := s.stations.put ix
          { st with place := .handoff o n d p (held.drop 1 ++ [f]) } }.count (.station .downlinkHeld)).count
        (.station .holdOverwriteDrops)))) ∧
  (∀ f s ix st o d, s.inReset = false → s.mapped f.destination = some (ix, st) → st.place = .orphan o d →
    exec (.downlinkFanFrame f) s = .next (s.count (.station .downlinkOrphan))) ∧
  (∀ r f s ix st, s.inReset = false → s.mapped f.source = some (ix, st) → exec (.uplinkFanFrame r f) s =
    .next (if st.isOn r then { s with wire := s.wire ++ [.uplink f] } else s.count (.station .uplinkDrops))) ∧
  (∀ r f s, s.inReset = false → s.mapped f.source = none →
    exec (.uplinkFanFrame r f) s = .next (s.count (.station .uplinkDrops))) ∧
  (∀ (r : RadioIx) s e rest, s.inReset = false → s.links[r].queue = e :: rest → exec (.transmitComplete r) s =
    .next { s with links := s.links.set r { s.links[r] with queue := rest }, wire := s.wire ++ [.radioFrame r e] })

/-! ### Claims and sweeps -/

/-- R95 to R97: a CLAIM from the current radio of a station, of an ACTIVE pass that is in its window, with the right check code. Where
the pass has room it binds a station without a binding; it rebinds a station of another pass, which loses the subscriptions that
only its binding permitted, with its places in their groups, and the held frames beyond a GUEST's 8 (R96, R99). Where the station is bound to the pass already, its
binding stands and the claim is reconfirmed. -/
def Obligations.ClaimBindsTheStation : Prop :=
  ∀ r q i n code s s1 ix st slot p, Arrives r q s s1 → s1.screened r i = some (ix, st) → st.current = r →
    s1.passNumbered n = some (slot, p) → p.state = .active → p.begun s1.phase = true → p.ended s1.phase = false →
    code = p.code → ∀ granted : Binding, granted = { slot := slot, tier := p.tier, mask := p.mask,
                                                     zone := zoneOf s1.seatMap p.home p.width } →
    (st.binding = none → ix ∉ p.bound → p.bound.length < 2 →
      exec (.claim r q i n code) s = .next ((({ s1.count (.admission .claimsReceived) with
          passes := s1.passes.put slot { p with bound := p.bound ++ [ix] },
          stations := s1.stations.put ix (Station.reflagged s1.channels
            { st with tier := p.tier, binding := some granted }) }).count (.admission .bound)).send r
        (.passResult ix p.number .ok p.tier))) ∧
    (∀ b, st.binding = some b → b.slot ≠ slot → ix ∉ p.bound → p.bound.length < 2 →
      ∃ t, exec (.claim r q i n code) s = .next t ∧
        (∃ x ∈ t.stations.find ix, x.tier = p.tier ∧ x.binding = some granted ∧ x.device = st.device ∧ x.rate = st.rate ∧
          x.current = st.current ∧ x.held = st.held.drop (st.held.length - 8) ∧
          x.subs.map Subscription.channel =
            (st.subs.map Subscription.channel).filter fun c => permitted s.channels none c) ∧
        (s.GroupLaw → ∀ r' c, t.group r' c = if permitted s.channels none c then s.group r' c else s.groupWithout ix r' c) ∧
        (∀ j, j ≠ ix → t.stations.find j = s.stations.find j) ∧
        t.passes.find slot = some { p with bound := p.bound ++ [ix] } ∧
        (∀ j, j ≠ slot → t.passes.find j =
          (s.passes.find j).map fun x => if j = b.slot then { x with bound := x.bound.erase ix } else x) ∧
        t.holdFree = s.holdFree + (st.held.length - 8) ∧ Counted s t (.admission .claimsReceived) 1 ∧
        Counted s t (.admission .rebound) 1 ∧ Counted s t (.admission .bound) 1 ∧
        (s.links[r].arm = none →
          Shown s t (.control r (ControlOut.bytes (.passResult ix p.number .ok p.tier) s.links[r].txSequence)))) ∧
    (ix ∈ p.bound → exec (.claim r q i n code) s =
      .next (((s1.count (.admission .claimsReceived)).count (.admission .reconfirmed)).send r
        (.passResult ix p.number .ok p.tier)))

/-- R84, R94, R95: the refusals of a CLAIM in their order, each with its code; a wrong check code raises the mismatch count, and the
third locks the pass. (That a claim answered NOT_HERE counts as received: log entry 16.) -/
def Obligations.ClaimIsRefusedInOrder : Prop :=
  ∀ r q i n code s s1 ix st, Arrives r q s s1 → s1.screened r i = some (ix, st) →
    ∀ refused : State → ClaimResult → State, refused = (fun u result =>
      (((match result.counter with | none => u | some c => u.count c).note .claimRefused).send r
        (.passResult ix n result .guest)).settle s.notices) →
    ∀ s2, s2 = s1.count (.admission .claimsReceived) →
    (st.current ≠ r → exec (.claim r q i n code) s = .next (refused s2 .notHere)) ∧
    (st.current = r → s1.passNumbered n = none → exec (.claim r q i n code) s = .next (refused s2 .unknown)) ∧
    ∀ slot p, st.current = r → s1.passNumbered n = some (slot, p) →
      (p.state = .revoked → exec (.claim r q i n code) s = .next (refused s2 .revoked)) ∧
      (p.state = .expired → exec (.claim r q i n code) s = .next (refused s2 .expired)) ∧
      (p.state = .locked → exec (.claim r q i n code) s = .next (refused s2 .locked)) ∧
      (p.state = .active → p.begun s1.phase = false → exec (.claim r q i n code) s = .next (refused s2 .notYet)) ∧
      (p.state = .active → p.begun s1.phase = true → p.ended s1.phase = true →
        exec (.claim r q i n code) s = .next (refused (s2.expireDirectly slot p) .expired)) ∧
      (p.state = .active → p.begun s1.phase = true → p.ended s1.phase = false → code ≠ p.code → p.mismatches < 2 →
        exec (.claim r q i n code) s =
          .next (refused { s2 with passes := s2.passes.put slot { p with mismatches := p.mismatches + 1 } } .mismatch)) ∧
      (p.state = .active → p.begun s1.phase = true → p.ended s1.phase = false → code ≠ p.code → p.mismatches = 2 →
        ∃ t, exec (.claim r q i n code) s = .next t ∧
          t.passes = s.passes.put slot { p with mismatches := 3, state := .locked } ∧ Noticed t .lockout ∧
          Noticed t .claimRefused ∧ Counted s t (.pass .lockouts) 1 ∧ Counted s t (.pass .mismatches) 1) ∧
      (p.state = .active → p.begun s1.phase = true → p.ended s1.phase = false → code = p.code → ix ∉ p.bound →
        2 ≤ p.bound.length → exec (.claim r q i n code) s = .next (refused s2 .inUse))

/-- R88, R89, R108, R109: a visit of each sweep: what it does to the slot or station at its cursor, that the cursor moves on, and
that the last visit completes the run. A visit while no run is under way is no event: log entry 5. -/
def Obligations.SweepsVisitInOrder : Prop :=
  (∀ s, s.expirySweep.running = false → exec .expirySweepVisit s = .next s) ∧
  (∀ s, s.inReset = false → s.expirySweep.running = true →
    (∀ p, s.passes.find s.expirySweep.cursor = some p → p.overdue s.phase = false) →
    (s.expirySweep.cursor < 8191 →
      exec .expirySweepVisit s = .next { s with expirySweep := { running := true, cursor := s.expirySweep.cursor + 1 } }) ∧
    (s.expirySweep.cursor = 8191 → exec .expirySweepVisit s =
      .next ((({ s with expirySweep := { running := false, cursor := 0 } }.count (.pass .sweepsCompleted)).note
        .expirySweepComplete).settle s.notices))) ∧
  (∀ s p, s.inReset = false → s.expirySweep.running = true → s.passes.find s.expirySweep.cursor = some p → p.overdue s.phase = true →
    ∃ t, exec .expirySweepVisit s = .next t ∧ t.passes.find s.expirySweep.cursor = some { p with state := .expired, bound := [] } ∧
      (∀ j, j ≠ s.expirySweep.cursor → t.passes.find j = s.passes.find j) ∧
      (∀ ix ∈ p.bound, ∀ st ∈ t.stations.find ix, st.binding = none ∧ st.tier = .guest) ∧
      (∀ ix, ix ∉ p.bound → t.stations.find ix = s.stations.find ix) ∧ Counted s t (.pass .sweepExpiries) 1 ∧
      (s.expirySweep.cursor < 8191 → t.expirySweep = { running := true, cursor := s.expirySweep.cursor + 1 } ∧
        t.notices = s.notices) ∧
      (s.expirySweep.cursor = 8191 → t.expirySweep = { running := false, cursor := 0 } ∧
        Counted s t (.pass .sweepsCompleted) 1 ∧ Noticed t .expirySweepComplete)) ∧
  (∀ s, s.zoneSweep.running = false → exec .zoneSweepVisit s = .next s) ∧
  (∀ s st b p, s.inReset = false → s.zoneSweep.running = true → s.stations.find s.zoneSweep.cursor = some st →
    st.binding = some b → s.passes.find b.slot = some p →
    ∃ t, exec .zoneSweepVisit s = .next t ∧
      t.stations = s.stations.put s.zoneSweep.cursor (Station.reflagged s.channels
        { st with binding := some { b with zone := zoneOf s.seatMap p.home p.width } }) ∧
      (zoneOf s.seatMap p.home p.width ≠ b.zone → Counted s t (.admission .zoneChanges) 1) ∧
      (zoneOf s.seatMap p.home p.width = b.zone →
        t.counter (.admission .zoneChanges) = s.counter (.admission .zoneChanges)) ∧
      (s.zoneSweep.cursor < 4095 → t.zoneSweep = { running := true, cursor := s.zoneSweep.cursor + 1 } ∧
        ChangesOnly [.zoneSweep, .stations, .counters] s t) ∧
      (s.zoneSweep.cursor = 4095 → t.zoneSweep = { running := false, cursor := 0 } ∧
        Counted s t (.admission .sweepsCompleted) 1 ∧ Noticed t .zoneSweepComplete ∧
        ChangesOnly ([.zoneSweep, .stations] ++ noticeFields) s t)) ∧
  (∀ s, s.inReset = false → s.zoneSweep.running = true →
    (∀ st, s.stations.find s.zoneSweep.cursor = some st → st.binding = none) →
    (s.zoneSweep.cursor < 4095 → exec .zoneSweepVisit s =
      .next { s with zoneSweep := { running := true, cursor := s.zoneSweep.cursor + 1 } }) ∧
    (s.zoneSweep.cursor = 4095 → exec .zoneSweepVisit s =
      .next ((({ s with zoneSweep := { running := false, cursor := 0 } }.count (.admission .sweepsCompleted)).note
        .zoneSweepComplete).settle s.notices)))

/-! ### Replay -/

/-- R118, R119: SUBSCRIBE and UNSUBSCRIBE from the current radio, in the order of their cases, and from the target of a handoff, each
with its SUB_RESULT, which is sent once the effect is there; and for a channel byte above 15, which no station holds or may have. -/
def Obligations.SubscribeAndUnsubscribe : Prop :=
  (∀ r q i s s1 ix st (c : ChannelIx), Arrives r q s s1 → s1.screened r i = some (ix, st) →
    ∀ b : Byte, b = BitVec.ofNat 8 c.val →
    (st.current ≠ r → exec (.subscribe r q i b) s =
        .next ((s1.count (.replay .answeredNotHere)).send r (.subResult ix b .notHere)) ∧
      exec (.unsubscribe r q i b) s = .next ((s1.count (.replay .answeredNotHere)).send r (.subResult ix b .notHere))) ∧
    (st.current = r → (st.entry c).isSome = true → exec (.subscribe r q i b) s =
        .next ((s1.count (.replay .confirmed)).send r (.subResult ix b .ok)) ∧
      ∃ t, exec (.unsubscribe r q i b) s = .next t ∧
        t.stations = s.stations.put ix { st with subs := st.subs.filter fun e => e.channel != c } ∧
        (∀ r' c', (r' ≠ r ∨ c' ≠ c) → t.group r' c' = s.group r' c') ∧
        (∀ g ∈ s.group r c, g.members.erase ix = [] → t.group r c = none) ∧
        (∀ g ∈ s.group r c, g.members.erase ix ≠ [] → t.group r c = some { g with members := g.members.erase ix }) ∧
        Counted s t (.replay .unsubscribed) 1 ∧ ∃ owned, t = owned.send r (.subResult ix b .ok) ∧
          ChangesOnly [.stations, .groups, .offers, .counters] s1 owned) ∧
    (st.current = r → st.entry c = none → exec (.unsubscribe r q i b) s =
      .next ((s1.count (.replay .unsubscribedEmpty)).send r (.subResult ix b .ok))) ∧
    (st.current = r → st.entry c = none → 4 ≤ st.subs.length → exec (.subscribe r q i b) s =
      .next ((s1.count (.replay .answeredLimit)).send r (.subResult ix b .limit))) ∧
    (st.current = r → st.entry c = none → st.subs.length < 4 → permitted s1.channels st.binding c = false →
      exec (.subscribe r q i b) s = .next ((s1.count (.replay .answeredDenied)).send r (.subResult ix b .denied))) ∧
    (st.current = r → st.entry c = none → st.subs.length < 4 → permitted s1.channels st.binding c = true →
      ∃ t, exec (.subscribe r q i b) s = .next t ∧
        t.stations = s.stations.put ix
          { st with subs := st.subs ++ [{ channel := c, awaitingKey := true, paused := pausedNow s.channels st c }] } ∧
        t.group r c = some (match s.group r c with
          | none => { members := [ix], delivery := .skipToKey }
          | some g => { g with members := g.members ++ [ix] }) ∧
        (∀ r' c', (r' ≠ r ∨ c' ≠ c) → t.group r' c' = s.group r' c') ∧ Counted s t (.replay .added) 1 ∧
        ∃ owned, t = owned.send r (.subResult ix b .ok) ∧ ChangesOnly [.stations, .groups, .counters] s1 owned)) ∧
  ∀ r q i s s1 ix st (b : Byte), Arrives r q s s1 → s1.screened r i = some (ix, st) → 16 ≤ b.toNat →
    (st.current ≠ r → exec (.subscribe r q i b) s =
        .next ((s1.count (.replay .answeredNotHere)).send r (.subResult ix b .notHere)) ∧
      exec (.unsubscribe r q i b) s = .next ((s1.count (.replay .answeredNotHere)).send r (.subResult ix b .notHere))) ∧
    (st.current = r → 4 ≤ st.subs.length → exec (.subscribe r q i b) s =
      .next ((s1.count (.replay .answeredLimit)).send r (.subResult ix b .limit))) ∧
    (st.current = r → st.subs.length < 4 → exec (.subscribe r q i b) s =
      .next ((s1.count (.replay .answeredDenied)).send r (.subResult ix b .denied))) ∧
    (st.current = r → exec (.unsubscribe r q i b) s =
      .next ((s1.count (.replay .unsubscribedEmpty)).send r (.subResult ix b .ok)))

/-- R112 to R114: CHANNEL_OPEN of a CLOSED channel and of a LIVE one, and CHANNEL_CLOSE: the channel record, the subscriptions, their
pause flags and the groups they leave, and the result block; a channel above 15 is BAD_ARG. (The layout of the result blocks: log
entries 11, 35 and 39.) -/
def Obligations.ChannelsOpenAndClose : Prop :=
  ∀ lane q s s0 (c : ChannelIx) (o l : Bool),
    (Ready .channelOpen lane q s s0 → q.params = [BitVec.ofNat 8 c.val, flagByte o, flagByte l] → s0.channels[c].state = .closed →
      exec (.channelOpen lane) s = .next (answered s lane q .done [0#8, flagByte o, flagByte l]
        ({ s0 with channels := s0.channels.set c { state := .live, openAll := o, seatLocked := l, expected := none } }.count
          (.replay .opens)))) ∧
    (Ready .channelOpen lane q s s0 → q.params = [BitVec.ofNat 8 c.val, flagByte o, flagByte l] → s0.channels[c].state = .live →
      ∀ now, now = s0.channels.set c { s0.channels[c] with openAll := o, seatLocked := l } →
      ∀ loses : Station → Bool, loses = (fun st => s0.channels[c].openAll && !o && (st.entry c).isSome &&
        !permitted now st.binding c) →
      ∃ owned, exec (.channelOpen lane) s = .next (answered s lane q .done
          ([1#8, flagByte s0.channels[c].openAll, flagByte s0.channels[c].seatLocked, flagByte o, flagByte l] ++
            be16 (s0.stations.filter fun e => loses e.2).length) owned) ∧
        owned.channels = now ∧ Counted s0 owned (.replay .opens) 1 ∧
        ChangesOnly [.channels, .stations, .groups, .offers, .counters] s0 owned ∧
        (∀ r c', c' ≠ c → owned.group r c' = s0.group r c') ∧
        (s.Canonical →
          (s.CountersInRange → Counted s0 owned (.replay .pruned) (s0.stations.filter fun e => loses e.2).length) ∧
          (∀ j, owned.stations.find j = (s0.stations.find j).map fun st =>
            if loses st then { st with subs := st.subs.filter fun x => x.channel != c }
            else if s0.channels[c].seatLocked = l then st
            else { st with subs := st.subs.map fun x => if x.channel = c then reflag now st x else x }) ∧
          (s.GroupLaw → ∀ r, owned.group r c =
            (s0.group r c).bind (Group.keeping fun j => (s0.stations.find j).all fun st => !loses st)))) ∧
    (Ready .channelClose lane q s s0 → q.params = [BitVec.ofNat 8 c.val] → s0.channels[c].state = .closed →
      exec (.channelClose lane) s = .next (answered s lane q .done [0#8] s0)) ∧
    (Ready .channelClose lane q s s0 → q.params = [BitVec.ofNat 8 c.val] → s0.channels[c].state = .live →
      ∃ owned, exec (.channelClose lane) s = .next (answered s lane q .done
          (be16 (s0.stations.filter fun e => (e.2.entry c).isSome).length ++
            [BitVec.ofNat 8 ((List.finRange 64).filter fun r : RadioIx => (s0.group r c).isSome).length]) owned) ∧
        owned.channels = s0.channels.set c { state := .closed, openAll := false, seatLocked := false, expected := none } ∧
        owned.stations = s0.stations.map (fun e => (e.1, { e.2 with subs := e.2.subs.filter fun x => x.channel != c })) ∧
        (∀ r, owned.group r c = none) ∧ (∀ r c', c' ≠ c → owned.group r c' = s0.group r c') ∧
        Counted s0 owned (.replay .closes) 1 ∧ ChangesOnly [.channels, .stations, .groups, .offers, .counters] s0 owned) ∧
    ∀ b : Byte, 16 ≤ b.toNat →
      (Ready .channelOpen lane q s s0 → q.params = [b, flagByte o, flagByte l] →
        exec (.channelOpen lane) s = .next (answered s lane q .badArg [] s0)) ∧
      (Ready .channelClose lane q s s0 → q.params = [b] →
        exec (.channelClose lane) s = .next (answered s lane q .badArg [] s0))

/-- R125, R126, R178: the checks of a replay packet in their order. (An offered packet waits for its group's decision: log entry
24.) -/
def Obligations.IngressFollowsTheSequence : Prop :=
  (∀ body s, s.inReset = false → exec (.replayPacket false body) s = .next (s.count (.trunk .badFrames))) ∧
  (∀ body s, s.inReset = false → packetOf body = none →
    exec (.replayPacket true body) s = .next (s.count (.replay .malformedPackets))) ∧
  ∀ body s p, s.inReset = false → packetOf body = some p →
    (s.channels[p.channel].state = .closed → exec (.replayPacket true body) s =
      .next (((s.count (.replay .closedDrops)).note .closedChannel).settle s.notices)) ∧
    (s.channels[p.channel].state = .live →
      ∀ taken, taken = ({ s with
        channels := s.channels.set p.channel
          { s.channels[p.channel] with expected := some (p.sequence + 1) } }).count (.channel p.channel .packetsReceived) →
      (s.channels[p.channel].expected = none ∨ s.channels[p.channel].expected = some p.sequence →
        exec (.replayPacket true body) s =
          .next { taken with
            offers := s.offers ++ (s.groupRadios p.channel).map fun r => { radio := r, channel := p.channel, packet := p } }) ∧
      ∀ x, s.channels[p.channel].expected = some x → p.sequence ≠ x →
        (32768 ≤ (p.sequence - x).toNat →
          exec (.replayPacket true body) s = .next (s.count (.channel p.channel .stalePackets))) ∧
        ((p.sequence - x).toNat < 32768 → ∃ t, exec (.replayPacket true body) s = .next t ∧ t.channels = taken.channels ∧
          Counted s t (.channel p.channel .packetsReceived) 1 ∧ Counted s t (.channel p.channel .sequenceGaps) 1 ∧
          Noticed t .replaySequenceGap ∧
          (p.cls = .delta → t.offers = s.offers ∧ Counted s t (.channel p.channel .gapDeltaDrops) 1 ∧
            ∀ r c, t.group r c = if c = p.channel then (s.group r c).map fun g => { g with delivery := .skipToKey }
              else s.group r c) ∧
          (p.cls = .key → t.groups = s.groups ∧ t.offers = s.offers ++
            (s.groupRadios p.channel).map fun r => { radio := r, channel := p.channel, packet := p })))

/-- R128: the time on air of a packet of L bytes is 8 L over the rate of its class, rounded up, with the values of the rule's table;
the rate of a recipient is the one that the station table holds at the decision. -/
def Obligations.TimeOnAirIsTheCeiling : Prop :=
  (List.finRange 12).map rateOf = [6, 12, 18, 24, 36, 48, 72, 96, 144, 192, 288, 384] ∧
    (∀ L r, 8 * L ≤ rateOf r * airtime L r ∧ (0 < L → rateOf r * (airtime L r - 1) < 8 * L)) ∧
    (∀ L r, 64 ≤ L → L ≤ 1500 → 2 ≤ airtime L r ∧ airtime L r ≤ 2000) ∧
    [64, 1000, 1200, 1500].map (fun L => [0, 3, 4, 7, 11].map (airtime L)) =
      [[86, 22, 15, 6, 2], [1334, 334, 223, 84, 21], [1600, 400, 267, 100, 25], [2000, 500, 334, 125, 32]] ∧
    ∀ (s : State) c cls members, ∀ m ∈ s.recipients c cls members,
      m.station ∈ members ∧ ∃ st ∈ s.stations.find m.station, m.rate = st.rate ∧ m.device = st.device

/-- R129 to R134, R140: the decision that is due for a packet and a group, step by step. (Which of the group's packets: log entry
23.) -/
def Obligations.DecisionSendsOrDrops : Prop :=
  ∀ (r : RadioIx) c k s p rest g, s.inReset = false → takeOffer s.offers r c k = some (p, rest) → s.group r c = some g →
    ∀ s1, s1 = { s with offers := rest } →
    ∀ m, m = s.recipients c p.cls g.members →
    ∀ cost, cost = decisionCost p.contents.length s.links[r].profile.bias m →
    ∀ room, room = 64 - s.links[r].queue.length →
    (p.cls = .delta → g.delivery = .skipToKey →
      exec (.groupDecision r c k) s = .next (s1.count (.airtime r .deltasSkipped))) ∧
    (¬(p.cls = .delta ∧ g.delivery = .skipToKey) → m = [] →
      exec (.groupDecision r c k) s = .next (s1.count (.airtime r .emptyRecipients))) ∧
    (¬(p.cls = .delta ∧ g.delivery = .skipToKey) → m ≠ [] →
      room < (copies c p s.links[r].profile.bias m).length →
      exec (.groupDecision r c k) s = .next ((((({ s1 with
      groups := s.groups.put (groupKey r c)
        { g with delivery := .skipToKey } }).count (.airtime r .queueOverflowDrops)).note .transmitQueueOverflow)).settle
          s.notices)) ∧
    (¬(p.cls = .delta ∧ g.delivery = .skipToKey) → m ≠ [] →
      (copies c p s.links[r].profile.bias m).length ≤ room →
      (s.links[r].profile.refill = 0 ∨ (s.credit[r] < cost ∧
        (p.cls = .delta ∨ s.credit[r] - cost < -((s.links[r].profile.refill / 2 : Nat) : Int)))) →
      exec (.groupDecision r c k) s = .next ((((({ s1 with
      groups := s.groups.put (groupKey r c)
        { g with delivery := .skipToKey } }).count (.airtime r .budgetDrops)).note .budgetDrop)).settle s.notices)) ∧
    (¬(p.cls = .delta ∧ g.delivery = .skipToKey) → m ≠ [] →
      (copies c p s.links[r].profile.bias m).length ≤ room → s.links[r].profile.refill ≠ 0 →
      ((cost : Int) ≤ s.credit[r] ∨ (p.cls = .key ∧ -((s.links[r].profile.refill / 2 : Nat) : Int) ≤ s.credit[r] - cost)) →
      ∃ t, exec (.groupDecision r c k) s = .next t ∧ t.credit = s.credit.set r (s.credit[r] - cost) ∧
        t.links = s.links.set r { s.links[r] with queue := s.links[r].queue ++ copies c p s.links[r].profile.bias m } ∧
        t.offers = rest ∧
        (p.cls = .key → t.groups = s.groups.put (groupKey r c) { g with delivery := .inStep } ∧
          ∀ ix, t.stations.find ix = (s.stations.find ix).map fun st =>
            if ix ∈ m.map Recipient.station then
              { st with subs := st.subs.map fun e => if e.channel = c then { e with awaitingKey := false } else e }
            else st) ∧
        (p.cls = .delta → t.groups = s.groups ∧ t.stations = s.stations) ∧
        Counted s t (.airtime r .airtimeCharged) cost ∧
        (s.credit[r] < cost → Counted s t (.airtime r .keyBorrows) 1) ∧ t.notices = s.notices)

/-- R130, R131: the unicast total, the multicast cost and the choice between them: UNICAST for at most 8 recipients where it costs
at most the multicast cost and the bias, one copy for each; MULTICAST otherwise, one copy at the lowest rate. -/
def Obligations.ModeWeighsUnicastAgainstMulticast : Prop :=
  ∀ c p bias (m : List Recipient), m ≠ [] →
    (∀ x ∈ m, lowestRate m ≤ x.rate) ∧ (∃ x ∈ m, lowestRate m = x.rate) ∧
    unicastTotal p.contents.length m = (m.map fun x => airtime p.contents.length x.rate + 60).sum ∧
    multicastCost p.contents.length m = airtime p.contents.length (lowestRate m) + 36 ∧
    (m.length ≤ 8 → unicastTotal p.contents.length m ≤ multicastCost p.contents.length m + bias →
      decisionCost p.contents.length bias m = unicastTotal p.contents.length m ∧
      copies c p bias m = m.map fun x => .unicast x.station x.device x.rate p) ∧
    (8 < m.length ∨ multicastCost p.contents.length m + bias < unicastTotal p.contents.length m →
      decisionCost p.contents.length bias m = multicastCost p.contents.length m ∧
      copies c p bias m = [.multicast (0x015A01000000#48 + BitVec.ofNat 48 c.val) (lowestRate m) p])

/-! ### The lanes -/

/-- R155, R161, R176: a request that arrives is counted and queued, or answered QUEUE_FULL; a short write and a bad or misaddressed
frame are counted and discarded; a trunk lane learns its master's address. R160, R176: a read takes the oldest response off lane 0's
list, however much of it is clocked out; an empty list gives length 0; any other command byte is ignored. (The order of the checks
of a frame: log entry 19.) -/
def Obligations.RequestsArriveAndResponsesAreRead : Prop :=
  ((∀ bytes s, s.inReset = false → requestOf bytes = none →
     exec (.spiWriteRequest bytes) s = .next (s.count (.lane 0 .shortWrites))) ∧
   (∀ bytes s q, s.inReset = false → requestOf bytes = some q → s.lanes[(0 : LaneIx)].queue.length < 8 →
     exec (.spiWriteRequest bytes) s = .next ({ s with
     lanes := s.lanes.set 0
       { s.lanes[(0 : LaneIx)] with queue := s.lanes[(0 : LaneIx)].queue ++ [q] } }.count (.lane 0 .requestsReceived))) ∧
   (∀ bytes s q, s.inReset = false → requestOf bytes = some q → 8 ≤ s.lanes[(0 : LaneIx)].queue.length → ∃ t,
     exec (.spiWriteRequest bytes) s = .next t ∧ (∀ l : LaneIx, t.lanes[l].queue = s.lanes[l].queue) ∧ Noticed t .laneOverflow ∧
       Counted s t (.lane 0 .requestsReceived) 1 ∧ Counted s t (.lane 0 .queueFull) 1 ∧
       (s.responses.length < 8 →
         t.responses = s.responses ++ [{ kind := q.kind, tag := q.tag, answer := .queueFull, block := [] }]) ∧
       (8 ≤ s.responses.length → t.responses = s.responses ∧ Counted s t (.lane 0 .lostResponses) 1)) ∧
   (∀ src body s, s.inReset = false → exec (.trunkControlFrame false src body) s = .next (s.count (.trunk .badFrames))) ∧
   (∀ src s, s.inReset = false → exec (.trunkControlFrame true src []) s = .next (s.count (.trunk .badFrames))) ∧
   (∀ src (b : Byte) rest s, s.inReset = false → (b = 0#8 ∨ 3 < b.toNat) →
     exec (.trunkControlFrame true src (b :: rest)) s = .next (s.count (.trunk .misaddressedFrames))) ∧
   (∀ src (l : LaneIx) s, s.inReset = false → l ≠ 0 →
     exec (.trunkControlFrame true src [BitVec.ofNat 8 l.val]) s = .next (s.count (.trunk .badFrames))) ∧
   (∀ src (b k : Byte) rec s, s.inReset = false → (b = 0#8 ∨ 3 < b.toNat ∨ k ≠ 0#8) →
     exec (.trunkControlFrame true src (b :: k :: rec)) s = .next (s.count (.trunk .misaddressedFrames))) ∧
   (∀ src (l : LaneIx) rec s, s.inReset = false → l ≠ 0 → requestOf rec = none →
     exec (.trunkControlFrame true src (BitVec.ofNat 8 l.val :: 0#8 :: rec)) s = .next (s.count (.trunk .badFrames))) ∧
   (∀ src (l : LaneIx) rec s q, s.inReset = false → l ≠ 0 → requestOf rec = some q → s.lanes[l].queue.length < 8 →
     exec (.trunkControlFrame true src (BitVec.ofNat 8 l.val :: 0#8 :: rec)) s = .next ({ s with
     lanes := s.lanes.set l
       { s.lanes[l] with master := some src, queue := s.lanes[l].queue ++ [q] } }.count (.lane l .requestsReceived))) ∧
   (∀ src (l : LaneIx) rec s q, s.inReset = false → l ≠ 0 → requestOf rec = some q → 8 ≤ s.lanes[l].queue.length →
     ∃ t, exec (.trunkControlFrame true src (BitVec.ofNat 8 l.val :: 0#8 :: rec)) s = .next t ∧
       t.lanes[l].queue = s.lanes[l].queue ∧ t.lanes[l].master = some src ∧ Noticed t .laneOverflow ∧
       Shown s t (.trunkFrame src (responseBody l { kind := q.kind, tag := q.tag, answer := .queueFull, block := [] })) ∧
       Counted s t (.lane l .queueFull) 1 ∧ Counted s t (.lane l .responsesSent) 1)) ∧
  (∀ n s x rest, s.inReset = false → s.responses = x :: rest → exec (.spiReadResponse n) s =
    .next ({ s with responses := rest, wire := s.wire ++ [Output.spi ((be16 x.bytes.length ++ x.bytes).take n)] }.count
      (.lane 0 .responsesSent))) ∧
  (∀ n s, s.inReset = false → s.responses = [] →
    exec (.spiReadResponse n) s = .next { s with wire := s.wire ++ [Output.spi ([0#8, 0#8].take n)] }) ∧
  ∀ c bytes s, exec (.spiOtherCommand c bytes) s = .next s

/-- R157, R158: a head request of unknown kind is answered BAD_KIND; a request of any kind whose class its lane lacks is DENIED,
naming the missing classes, and changes nothing but that; a head request of another kind, or none, or one that waits for room, is
not served (log entry 4). (That DENIED names every missing class: log entry 22.) -/
def Obligations.ServiceChecksKindAndRights : Prop :=
  (∀ lane s q s0, s.inReset = false → s.head lane = some (q, s0) → knownKind q.kind = false → exec (.unknownRequestKind lane) s =
    .next (answered s lane q .badKind [] (s0.count (.lane lane .badKind)))) ∧
  (∀ k : RequestKind, ∀ lane s q s0, s.inReset = false → s.head lane = some (q, s0) → q.kind = k.code →
    k.needs &&& ~~~s0.lanes[lane].rights ≠ 0#6 → exec (k.command lane) s =
      .next (answered s lane q .denied [(k.needs &&& ~~~s0.lanes[lane].rights).zeroExtend 8]
        ((s0.count (.lane lane .denied)).note .denied))) ∧
  (∀ k : RequestKind, ∀ lane s, (∀ q s0, s.head lane = some (q, s0) → q.kind ≠ k.code) → exec (k.command lane) s = .next s) ∧
  ∀ b : Byte, knownKind b = true ↔ ∃ k : RequestKind, k.code = b

/-- R160 to R162, R168: what follows a request's owner: the response at the end of lane 0's list, or in a frame to the lane's
master; lines, armed flags and counters of what is sent; and nothing else of what the owner left. (The order of the frames of one
event: log entry 20.) -/
def Obligations.AnswerReachesItsMaster : Prop :=
  ∀ s lane q a block owned t, t = answered s lane q a block owned →
    ChangesOnly serviceFields owned t ∧
    (∀ l : LaneIx, t.lanes[l].queue = owned.lanes[l].queue ∧ t.lanes[l].rights = owned.lanes[l].rights ∧
      t.lanes[l].master = owned.lanes[l].master) ∧
    (∀ l : LaneIx, t.notices[l] = { owned.notices[l] with lineUp := t.notices[l].lineUp }) ∧
    (lane = 0 → owned.responses.length < 8 →
      t.responses = owned.responses ++ [{ kind := q.kind, tag := q.tag, answer := a, block := block }]) ∧
    (lane ≠ 0 → t.responses = owned.responses ∧ Counted owned t (.lane lane .responsesSent) 1 ∧
      ∃ after, t.wire = owned.wire ++ .trunkFrame (owned.lanes[lane].master.getD 0xFFFFFFFFFFFF#48)
        ([BitVec.ofNat 8 lane.val, 1#8] ++
          Response.bytes { kind := q.kind, tag := q.tag, answer := a, block := block }) :: after)

/-! ### Requests of the class RADIO -/

/-- R41, R42, R137: RADIO_PROFILE_SET applies the clamped profile and clamps the credit, or is refused CONFLICT with the count. -/
def Obligations.ProfileSetClampsAndApplies : Prop :=
  ∀ lane q s s0 (r : RadioIx) l (refill cap bias : Half) (d : DetectMode) (strict : Bool), Ready .radioProfileSet lane q s s0 →
    q.params = [BitVec.ofNat 8 r.val, l] ++ be16 refill.toNat ++ be16 cap.toNat ++ be16 bias.toNat ++
      [BitVec.ofNat 8 d.ctorIdx, flagByte strict] →
    ∀ p : Profile, p.stationLimit = max 1 (min 255 l.toNat) →
      p.refill = min (min (s0.settings.budgetPeriod * 1000) 60000) refill.toNat →
      p.cap = max p.refill (min 65535 cap.toNat) → p.bias = min 1000 bias.toNat → p.detect = d → p.strict = strict →
    (p.stationLimit < s0.stationCount[r] → exec (.radioProfileSet lane) s =
      .next (answered s lane q .conflict [BitVec.ofNat 8 s0.stationCount[r]] s0)) ∧
    (¬ p.stationLimit < s0.stationCount[r] →
      ∀ credit : Int, credit = max (-((p.refill / 2 : Nat) : Int)) (min (p.cap : Int) s0.credit[r]) →
      ∃ block, exec (.radioProfileSet lane) s = .next (answered s lane q .done block
        { s0 with links := s0.links.set r { s0.links[r] with profile := p }, credit := s0.credit.set r credit }))

/-- R39: LINK_FAULT_ARM sets the arm and reports the one it replaces; R43: LINK_RESTART puts the link's record as a restart leaves
it, by its carrier; an exit's other effects are `EveryExitFromUpClearsTheRadio`'s. (The width of a position: log entry 36.) -/
def Obligations.FaultArmAndRestart : Prop :=
  (∀ lane q s s0 (r : RadioIx) (k : FaultKind) n, Ready .linkFaultArm lane q s s0 → 1 ≤ n → n ≤ 8 →
    q.params = [BitVec.ofNat 8 r.val, BitVec.ofNat 8 k.ctorIdx, BitVec.ofNat 8 n] →
    exec (.linkFaultArm lane) s = .next (answered s lane q .done
      (match s0.links[r].arm with
        | none => [0#8]
        | some a => [1#8, BitVec.ofNat 8 a.kind.ctorIdx, BitVec.ofNat 8 a.position])
      { s0 with links := s0.links.set r { s0.links[r] with arm := some { kind := k, position := n, count := 0 } } })) ∧
  (∀ lane q s s0 (r : RadioIx) k n, Ready .linkFaultArm lane q s s0 → q.params = [BitVec.ofNat 8 r.val, k, n] →
    (2 < k.toNat ∨ n.toNat = 0 ∨ 8 < n.toNat) → exec (.linkFaultArm lane) s = .next (answered s lane q .badArg [] s0)) ∧
  ∀ lane q s s0 (r : RadioIx), Ready .linkRestart lane q s s0 → q.params = [BitVec.ofNat 8 r.val] →
    ∃ t, exec (.linkRestart lane) s = .next t ∧
      t.links[r] = { s.links[r] with
        state := (if s.links[r].carrier then .detected else .absent), sample := .none, filter := 0, keepaliveSeen := false,
        alertSeen := false, awaitingFirstUp := s.links[r].carrier, rxSequence := 0, txSequence := 0, arm := none, queue := [] } ∧
      Counted s t (.link r .restarts) 1 ∧
      (s.links[r].carrier = true → s.links[r].profile.detect = .onCarrier → Noticed t .linkDetected)

/-- R18: STATION_EJECT of a station, with or without its address, frees it, reports its state and its current radio, and sends DROP to
the radios it is on; of a FREE context, or with another address, it is NOT_FOUND, and above 4095 BAD_ARG. -/
def Obligations.EjectFreesTheStation : Prop :=
  ∀ lane q s s0, Ready .stationEject lane q s s0 →
    (∀ ix st, ix < 4096 → s0.stations.find ix = some st →
      q.params = be16 ix ++ [0#8] ∨ q.params = be16 ix ++ [1#8] ++ be48 st.device →
      ∀ code : Byte, code = (match st.place with | .associated _ _ => 1#8 | .handoff _ _ _ _ _ => 2#8 | .orphan _ _ => 3#8) →
      ∀ dropped, dropped = (match st.place with
        | .associated r _ => s0.send r (.drop ix st.device)
        | .handoff o n _ _ _ =>
          if o = n then s0.send o (.drop ix st.device) else (s0.send o (.drop ix st.device)).send n (.drop ix st.device)
        | .orphan _ _ => s0) →
      ∃ owned, exec (.stationEject lane) s =
          .next (answered s lane q .done [code, BitVec.ofNat 8 st.current.val] owned) ∧
        owned.wire = dropped.wire ∧ owned.links = dropped.links ∧ owned.notices = s0.notices ∧
        owned.stations.find ix = none ∧ (∀ j, j ≠ ix → owned.stations.find j = s0.stations.find j) ∧
        owned.addressMap = s0.addressMap.drop st.device.toNat ∧ owned.holdFree = s0.holdFree + st.held.length ∧
        (∀ r : RadioIx, owned.stationCount[r] = s0.stationCount[r] - (if st.isOn r then 1 else 0)) ∧
        (∀ j, owned.passes.find j = (s0.passes.find j).map fun x =>
          if st.binding.map Binding.slot = some j then { x with bound := x.bound.erase ix } else x) ∧
        (s.GroupLaw → ∀ r c, owned.group r c = s0.groupWithout ix r c) ∧
        Counted s0 owned (.station .ejected) 1 ∧ Counted s0 owned (.station .freed) 1) ∧
    (∀ ix, ix < 4096 → q.params = be16 ix ++ [0#8] → s0.stations.find ix = none →
      exec (.stationEject lane) s = .next (answered s lane q .notFound [] s0)) ∧
    (∀ ix (a : Address), ix < 4096 → q.params = be16 ix ++ [1#8] ++ be48 a → (∀ st ∈ s0.stations.find ix, st.device ≠ a) →
      exec (.stationEject lane) s = .next (answered s lane q .notFound [] s0)) ∧
    (∀ ix (a : Address), 4096 ≤ ix → ix < 65536 → q.params = be16 ix ++ [0#8] ∨ q.params = be16 ix ++ [1#8] ++ be48 a →
      exec (.stationEject lane) s = .next (answered s lane q .badArg [] s0))

/-- R104, R107: SEAT_MAP_WRITE with valid parameters writes its entries in order and starts the zone sweep, abandoning a run. -/
def Obligations.SeatMapWriteStartsTheSweep : Prop :=
  ∀ lane q s s0 first bytes values, Ready .seatMapWrite lane q s s0 → 1 ≤ bytes.length → bytes.length ≤ 16 →
    first + bytes.length ≤ 1024 → q.params = be16 first ++ [BitVec.ofNat 8 bytes.length] ++ bytes →
    (bytes.mapM entryOf = none → exec (.seatMapWrite lane) s = .next (answered s lane q .badArg [] s0)) ∧
    (bytes.mapM entryOf = some values → ∃ t, exec (.seatMapWrite lane) s = .next t ∧
      (∀ b, t.seatMap.find b =
        if first ≤ b ∧ b < first + bytes.length then values.getD (b - first) none else s.seatMap.find b) ∧
      t.zoneSweep = { running := true, cursor := 0 } ∧ Counted s t (.admission .seatMapWrites) 1 ∧
      Counted s t (.admission .sweepsStarted) 1 ∧
      (s.zoneSweep.running = true → Counted s t (.admission .sweepRestarts) 1) ∧
      ChangesOnly ([.seatMap, .zoneSweep] ++ serviceFields) s t)

/-- R105: SEAT_MAP_READ requires INSPECT; it is refused BAD_ARG where the checks of R104 fail, and otherwise answers DONE with the
entries as they stand, and changes nothing. (R175: a list is preceded by its count.) -/
def Obligations.SeatMapReadReturnsTheEntries : Prop :=
  RequestKind.seatMapRead.needs = 0b010000#6 ∧
  ∀ lane q s s0 (first : Half) (n : Byte), Ready .seatMapRead lane q s s0 → q.params = be16 first.toNat ++ [n] →
    (n.toNat = 0 ∨ 16 < n.toNat ∨ 1024 < first.toNat + n.toNat →
      exec (.seatMapRead lane) s = .next (answered s lane q .badArg [] s0)) ∧
    (1 ≤ n.toNat → n.toNat ≤ 16 → first.toNat + n.toNat ≤ 1024 → exec (.seatMapRead lane) s =
      .next (answered s lane q .done
        (n :: (List.range n.toNat).map fun i => match s0.seatMap.find (first.toNat + i) with
          | none => 0xFF#8
          | some r => BitVec.ofNat 8 r.val) s0))

/-- R138, R148: SECTOR_SET clamps and applies its value and changes that setting alone; a change of the budget period clamps each
radio's refill that is above it, and that radio's credit with it. (The layout of the result block and what no change does: log
entries 11 and 27.) -/
def Obligations.SectorSetAppliesOneSetting : Prop :=
  ∀ lane q s s0 (v : Half), Ready .sectorSet lane q s s0 →
    ∀ clamped : Nat → Byte, clamped = (fun n => if n = v.toNat then 0#8 else 1#8) →
    (∀ n, n = max 5 (min 500 v.toNat) → q.params = 0#8 :: be16 v.toNat → exec (.sectorSet lane) s =
      .next (answered s lane q .done ([0#8] ++ be16 s0.settings.handoffTimeout ++ be16 n ++ [clamped n])
        ({ s0 with settings := { s0.settings with handoffTimeout := n } }.count (.sector .settingsApplied)))) ∧
    (∀ n, n = min 10000 v.toNat → q.params = 1#8 :: be16 v.toNat → exec (.sectorSet lane) s =
      .next (answered s lane q .done ([1#8] ++ be16 s0.settings.returnGuard ++ be16 n ++ [clamped n])
        ({ s0 with settings := { s0.settings with returnGuard := n } }.count (.sector .settingsApplied)))) ∧
    (∀ n, n = max 1 (min 600 v.toNat) → q.params = 2#8 :: be16 v.toNat → exec (.sectorSet lane) s =
      .next (answered s lane q .done ([2#8] ++ be16 s0.settings.orphanHold ++ be16 n ++ [clamped n])
        ({ s0 with settings := { s0.settings with orphanHold := n } }.count (.sector .settingsApplied)))) ∧
    (∀ n, n = max 1 (min 100 v.toNat) → q.params = 3#8 :: be16 v.toNat → ∃ t, exec (.sectorSet lane) s = .next t ∧
      t.settings = { s.settings with budgetPeriod := n } ∧ Counted s t (.sector .settingsApplied) 1 ∧
      (s.settings.budgetPeriod = n → t.links = s.links ∧ t.credit = s.credit) ∧
      (s.settings.budgetPeriod ≠ n → ∀ r : RadioIx,
        (s.links[r].profile.refill ≤ n * 1000 → t.links[r] = s.links[r] ∧ t.credit[r] = s.credit[r]) ∧
        (n * 1000 < s.links[r].profile.refill →
          t.links[r] = { s.links[r] with profile := { s.links[r].profile with refill := n * 1000 } } ∧
          t.credit[r] = max (-((n * 1000 / 2 : Nat) : Int)) (min (s.links[r].profile.cap : Int) s.credit[r]))) ∧
      ChangesOnly ([.settings, .links, .credit] ++ serviceFields) s t) ∧
    (∀ k : Byte, 3 < k.toNat → q.params = k :: be16 v.toNat →
      exec (.sectorSet lane) s = .next (answered s lane q .badArg [] s0))

/-- R87, R149: PHASE_SET by how the named phase stands to the current one. (The layout of the result block: log entries 11, 14 and, for
ORDER, 38.) -/
def Obligations.PhaseSetAdvances : Prop :=
  ∀ lane q s s0 (b : Byte), Ready .phaseSet lane q s s0 → q.params = [b] →
    (6 < b.toNat → exec (.phaseSet lane) s = .next (answered s lane q .badArg [] s0)) ∧
    (b.toNat < s0.phase.value → exec (.phaseSet lane) s =
      .next (answered s lane q .order [] (s0.count (.sector .orderRefusals)))) ∧
    (b.toNat = s0.phase.value → exec (.phaseSet lane) s = .next (answered s lane q .done [b, b, 0#8] s0)) ∧
    (∀ p : Phase, p.value = b.toNat → s0.phase.value < p.value →
      (s0.expirySweep.running = false → exec (.phaseSet lane) s =
        .next (answered s lane q .done [BitVec.ofNat 8 s0.phase.value, b, 0#8]
          (({ s0 with phase := p, expirySweep := { running := true, cursor := 0 } }.count (.pass .sweepsStarted)).count
            (.sector .phaseAdvances)))) ∧
      (s0.expirySweep.running = true → exec (.phaseSet lane) s =
        .next (answered s lane q .done ([BitVec.ofNat 8 s0.phase.value, b, 1#8] ++ be16 s0.expirySweep.cursor)
          ((({ s0 with phase := p, expirySweep := { running := true, cursor := 0 } }.count (.pass .sweepsStarted)).count
            (.pass .sweepRestarts)).count (.sector .phaseAdvances)))))

/-- R150: what MATCH_CLEAR clears, that it is counted, and that it reports what it cleared; every other field of the device stands
but for what a service changes. (The layout of the report: log entry 11.) -/
def Obligations.MatchClearEmptiesTheTables : Prop :=
  RequestKind.matchClear.needs = 0b100001#6 ∧
  ∀ lane q s s0, Ready .matchClear lane q s s0 → q.params = [] → exec (.matchClear lane) s =
    .next (answered s lane q .done
      (be16 s0.stations.length ++ be16 s0.passes.length ++
        [BitVec.ofNat 8 ((List.finRange 16).filter fun c : ChannelIx => decide (s0.channels[c].state = .live)).length] ++
        be16 s0.groups.length ++ [flagByte s0.expirySweep.running, flagByte s0.zoneSweep.running])
      ({ s0 with
        stations := [], addressMap := [], stationCount := Vector.replicate 64 0, holdFree := 2048, passes := [], passMap := [],
        expirySweep := { running := false, cursor := 0 }, zoneSweep := { running := false, cursor := 0 },
        channels := Vector.replicate 16 { state := .closed, openAll := false, seatLocked := false, expected := none },
        groups := [], offers := [], credit := s0.links.map fun (l : SeatLink) => (l.profile.refill : Int), phase := .pregame }.count
          (.sector .matchClears)))

/-! ### Requests of the classes PASS, NOTICE, INSPECT and CONFIG -/

/-- R75, R76: PASS_LOAD fills the lowest free slot, or is refused DUPLICATE, TABLE_FULL or BAD_ARG. -/
def Obligations.PassLoadFillsTheLowestSlot : Prop :=
  ∀ lane q s s0 (n : Word) (code home mask : Half) (t w f u : Byte), Ready .passLoad lane q s s0 →
    q.params = be32 n.toNat ++ be16 code.toNat ++ [t] ++ be16 home.toNat ++ [w] ++ be16 mask.toNat ++ [f, u] →
    ∀ ok : Prop, ok = (1 ≤ t.toNat ∧ t.toNat ≤ 3 ∧ 1 ≤ w.toNat ∧ w.toNat ≤ 16 ∧ home.toNat + w.toNat ≤ 1024 ∧ u.toNat ≤ 6 ∧
      f.toNat ≤ u.toNat) →
    (¬ok → ∃ block, exec (.passLoad lane) s = .next (answered s lane q .badArg block s0)) ∧
    (ok → ∀ slot, s0.passMap.find n.toNat = some slot → ∃ block, exec (.passLoad lane) s =
      .next (answered s lane q .duplicate block (s0.count (.pass .loadRefusals)))) ∧
    (ok → s0.passMap.find n.toNat = none → s0.passes.lowestFree 8192 = none → exec (.passLoad lane) s =
      .next (answered s lane q .tableFull [] (s0.count (.pass .loadRefusals)))) ∧
    (ok → ∀ slot, s0.passMap.find n.toNat = none → s0.passes.lowestFree 8192 = some slot →
      ∃ p t', exec (.passLoad lane) s = .next t' ∧ t'.passes = s.passes.put slot p ∧ t'.passMap = s.passMap.put n.toNat slot ∧
        p.number = n ∧ p.code = code ∧ p.tier.ctorIdx = t.toNat ∧ p.home = home.toNat ∧ p.width = w.toNat ∧ p.mask = mask ∧
        p.validFrom.value = f.toNat ∧ p.validUntil.value = u.toNat ∧ p.bound = [] ∧ p.mismatches = 0 ∧
        p.state = (if u.toNat < s.phase.value then .expired else .active) ∧ Counted s t' (.pass .loaded) 1 ∧
        (u.toNat < s.phase.value → Counted s t' (.pass .loadedExpired) 1) ∧
        ChangesOnly ([.passes, .passMap] ++ serviceFields) s t')

/-- R78, R79, R101: PASS_AMEND of an ACTIVE or LOCKED pass applies its changes and reloads every bound station, or expires the pass
directly; of an EXPIRED or REVOKED one it is refused CONFLICT. -/
def Obligations.PassAmendReloadsOrExpires : Prop :=
  ∀ lane q s s0 n a slot p, Ready .passAmend lane q s s0 → amendmentOf q.params = some (n, a) →
    s0.passNumbered n = some (slot, p) →
    (p.inForce = false → exec (.passAmend lane) s = .next (answered s lane q .conflict [BitVec.ofNat 8 p.state.ctorIdx] s0)) ∧
    (p.inForce = true → amendExpires p (a.apply p) s0.phase = false → s.Canonical → s.BindingLaw →
      ∃ t, exec (.passAmend lane) s = .next t ∧ t.passes = s.passes.put slot (a.apply p) ∧
        (∀ ix ∈ p.bound, ∃ st ∈ t.stations.find ix, st.binding = some ((a.apply p).grant slot s.seatMap) ∧
          st.tier = (a.apply p).tier ∧ ∀ e ∈ st.subs, permitted s.channels st.binding e.channel = true) ∧
        (∀ j, j ∉ p.bound → t.stations.find j = s.stations.find j) ∧ Counted s t (.pass .amends) 1) ∧
    (p.inForce = true → amendExpires p (a.apply p) s0.phase = true → ∃ t, exec (.passAmend lane) s = .next t ∧
      t.passes.find slot = some { a.apply p with state := .expired, bound := [] } ∧ Counted s t (.pass .amends) 1 ∧
      Counted s t (.pass .directExpiries) 1)

/-- R81, R82, R85: PASS_REVOKE and PASS_REMOVE unbind every station of the pass at the same event; PASS_UNLOCK of a LOCKED pass
makes it ACTIVE with no mismatches, and of any other is refused CONFLICT; a number that names no pass is NOT_FOUND. -/
def Obligations.PassRevokeRemoveUnlock : Prop :=
  ∀ lane q s s0 (n : Word), q.params = be32 n.toNat →
    (s0.passNumbered n = none →
      (Ready .passRevoke lane q s s0 → exec (.passRevoke lane) s = .next (answered s lane q .notFound [] s0)) ∧
      (Ready .passRemove lane q s s0 → exec (.passRemove lane) s = .next (answered s lane q .notFound [] s0)) ∧
      (Ready .passUnlock lane q s s0 → exec (.passUnlock lane) s = .next (answered s lane q .notFound [] s0))) ∧
    ∀ slot p, s0.passNumbered n = some (slot, p) →
      (Ready .passRevoke lane q s s0 → p.inForce = true → ∃ t, exec (.passRevoke lane) s = .next t ∧
        t.passes.find slot = some { p with state := .revoked, bound := [] } ∧
        (∀ ix ∈ p.bound, ∀ st ∈ t.stations.find ix, st.binding = none ∧ st.tier = .guest) ∧
        Counted s t (.pass .revocations) 1 ∧ (p.bound ≠ [] → Noticed t .passRevokedWithBoundStations)) ∧
      (Ready .passRemove lane q s s0 → ∃ t, exec (.passRemove lane) s = .next t ∧ t.passes.find slot = none ∧
        t.passMap = s.passMap.drop p.number.toNat ∧
        (∀ ix ∈ p.bound, ∀ st ∈ t.stations.find ix, st.binding = none ∧ st.tier = .guest) ∧
        Counted s t (.pass .removals) 1) ∧
      (Ready .passUnlock lane q s s0 → p.state = .locked → exec (.passUnlock lane) s = .next (answered s lane q .done []
        ({ s0 with passes := s0.passes.put slot { p with state := .active, mismatches := 0 } }.count (.pass .unlocks)))) ∧
      (Ready .passUnlock lane q s s0 → p.state ≠ .locked → exec (.passUnlock lane) s =
        .next (answered s lane q .conflict [BitVec.ofNat 8 p.state.ctorIdx] s0))

/-- R169 to R172: NOTICE_LEVELS_SET, NOTICE_CLEAR, NOTICE_ACCEPT and NOTICE_RETURN on the notice state of the
lane that sends them. (The layout of their result blocks: log entries 11, 36 and 39.) -/
def Obligations.NoticeRequestsActOnTheirLane : Prop :=
  (∀ lane q s s0 (g : NoticeGroup) (l : Level) (e : BitVec 4), Ready .noticeLevelsSet lane q s s0 →
    q.params = [BitVec.ofNat 8 g.val, BitVec.ofNat 8 l.val, e.zeroExtend 8] → e &&& ~~~groupSources g = 0#4 →
    exec (.noticeLevelsSet lane) s = .next (answered s lane q .done
      [BitVec.ofNat 8 s0.notices[lane].levels[g].val, s0.notices[lane].enables[g].zeroExtend 8, BitVec.ofNat 8 l.val,
        e.zeroExtend 8]
      { s0 with
      notices := s0.notices.set lane
        { s0.notices[lane] with levels := s0.notices[lane].levels.set g l, enables := s0.notices[lane].enables.set g e } })) ∧
  (∀ lane q s s0 (sets : Vector (BitVec 4) 8), Ready .noticeClear lane q s s0 →
    q.params = sets.toList.map (fun m => m.zeroExtend 8) → (∀ g : NoticeGroup, sets[g] &&& ~~~groupSources g = 0#4) →
    exec (.noticeClear lane) s = .next (answered s lane q .done
      (s0.notices[lane].status.toList.map (fun m => m.zeroExtend 8) ++
        [BitVec.ofNat 8 s0.notices[lane].mask.val, BitVec.ofNat 8 s0.notices[lane].saved.length])
      { s0 with
      notices := s0.notices.set lane
        { s0.notices[lane] with status := Vector.ofFn fun g : NoticeGroup => s0.notices[lane].status[g] &&& ~~~sets[g] } })) ∧
  (∀ lane q s s0, Ready .noticeAccept lane q s s0 → q.params = [] →
    (s0.notices[lane].anyEligible = false → exec (.noticeAccept lane) s = .next (answered s lane q .nothingPending [] s0)) ∧
    (∀ g : NoticeGroup, s0.notices[lane].eligible g = true →
      (∀ h : NoticeGroup, s0.notices[lane].eligible h = true →
        s0.notices[lane].levels[h] < s0.notices[lane].levels[g] ∨
          (s0.notices[lane].levels[h] = s0.notices[lane].levels[g] ∧ g ≤ h)) →
      exec (.noticeAccept lane) s = .next (answered s lane q .done
        [BitVec.ofNat 8 g.val, BitVec.ofNat 8 s0.notices[lane].levels[g].val,
          (s0.notices[lane].status[g] &&& s0.notices[lane].enables[g]).zeroExtend 8, BitVec.ofNat 8 s0.notices[lane].mask.val,
          BitVec.ofNat 8 (s0.notices[lane].saved.length + 1)]
        { s0 with
        notices := s0.notices.set lane
          { s0.notices[lane] with saved := s0.notices[lane].mask :: s0.notices[lane].saved,
                                  mask := s0.notices[lane].levels[g] } }))) ∧
  (∀ lane q s s0, Ready .noticeReturn lane q s s0 → q.params = [] →
    (s0.notices[lane].saved = [] → exec (.noticeReturn lane) s = .next (answered s lane q .nothingSaved [] s0)) ∧
    (∀ m rest, s0.notices[lane].saved = m :: rest → exec (.noticeReturn lane) s = .next (answered s lane q .done
      [BitVec.ofNat 8 s0.notices[lane].mask.val, BitVec.ofNat 8 m.val, BitVec.ofNat 8 rest.length]
      { s0 with notices := s0.notices.set lane { s0.notices[lane] with mask := m, saved := rest } })))

/-- R173: NOTICE_MASK_SET in all its cases; the groups that the new mask hides or lets through; and that an ACCEPT saves the mask it
is made over (its RETURN is `NoticeRequestsActOnTheirLane`'s). -/
def Obligations.MaskSetOnlyOutsideANest : Prop :=
  (∀ lane q s s0 (b : Byte), Ready .noticeMaskSet lane q s s0 → q.params = [b] →
    (7 < b.toNat → exec (.noticeMaskSet lane) s = .next (answered s lane q .badArg [] s0)) ∧
    (b.toNat ≤ 7 → s0.notices[lane].saved ≠ [] → exec (.noticeMaskSet lane) s = .next (answered s lane q .conflict
      [BitVec.ofNat 8 s0.notices[lane].saved.length, BitVec.ofNat 8 s0.notices[lane].mask.val] s0)) ∧
    (∀ l : Level, l.val = b.toNat → s0.notices[lane].saved = [] → exec (.noticeMaskSet lane) s = .next (answered s lane q .done
      [BitVec.ofNat 8 s0.notices[lane].mask.val, b]
      { s0 with notices := s0.notices.set lane { s0.notices[lane] with mask := l } }))) ∧
  (∀ (n : Notice) (l : Level) g, { n with mask := l }.eligible g = true ↔ n.pending g = true ∧ l < n.levels[g]) ∧
  ∀ (n : Notice) g, (n.accepted g).saved = n.mask :: n.saved ∧ (n.accepted g).mask = n.levels[g]

/-- R22, R44, R91, R127, R153, R164: each read answers DONE with the record of its subject (section 11.5) and leaves everything as
it stands but what every service changes; COUNTERS_CLEAR answers the counters as they stood and sets each of them to 0, before its
own response is sent and counted (log entry 28). A subject out of range, or a scope that is none, is BAD_ARG. (The layouts are those
of section 11.5 and R175, with log entry 15 for the counts of an absent hold queue and zone set, 26 for a deadline that is passed, 11
and 36 for SECTOR_READ and RADIO_READ, and 37 for a block above 1,024 bytes.) -/
def Obligations.ReadsReportAndChangeNothing : Prop :=
  (∀ lane q s s0 ix, Ready .stationRead lane q s s0 → ix < 4096 → q.params = 0#8 :: be16 ix →
    exec (.stationRead lane) s = .next (answered s lane q .done (s0.stationRecord ix) s0)) ∧
  (∀ lane q s s0 (a : Address), Ready .stationRead lane q s s0 → q.params = 1#8 :: be48 a →
    (s0.lookup a = none → exec (.stationRead lane) s = .next (answered s lane q .notFound [] s0)) ∧
    (∀ ix, s0.lookup a = some ix → exec (.stationRead lane) s = .next (answered s lane q .done (s0.stationRecord ix) s0))) ∧
  (∀ lane q s s0 slot, Ready .passRead lane q s s0 → slot < 8192 → q.params = 0#8 :: be16 slot →
    exec (.passRead lane) s = .next (answered s lane q .done (s0.slotRecord slot) s0)) ∧
  (∀ lane q s s0 (n : Word), Ready .passRead lane q s s0 → q.params = 1#8 :: be32 n.toNat →
    (s0.passMap.find n.toNat = none → exec (.passRead lane) s = .next (answered s lane q .notFound [] s0)) ∧
    (∀ slot, s0.passMap.find n.toNat = some slot →
      exec (.passRead lane) s = .next (answered s lane q .done (s0.slotRecord slot) s0))) ∧
  (∀ lane q s s0 (r : RadioIx), Ready .radioRead lane q s s0 → q.params = [BitVec.ofNat 8 r.val] →
    exec (.radioRead lane) s = .next (answered s lane q .done
      ([BitVec.ofNat 8 s0.stationCount[r], BitVec.ofNat 8 s0.links[r].profile.stationLimit,
          BitVec.ofNat 8 s0.links[r].queue.length, BitVec.ofNat 8 s0.links[r].state.ctorIdx, flagByte s0.links[r].carrier,
          BitVec.ofNat 8 s0.links[r].sample.ctorIdx, BitVec.ofNat 8 s0.links[r].filter, flagByte s0.links[r].awaitingFirstUp,
          flagByte s0.links[r].alertSeen, s0.links[r].rxSequence, s0.links[r].txSequence] ++
        armBytes s0.links[r].arm ++ s0.links[r].profile.bytes ++ be32 (BitVec.ofInt 32 s0.credit[r]).toNat) s0)) ∧
  (∀ lane q s s0 (c : ChannelIx) radios, Ready .groupRead lane q s s0 → q.params = [BitVec.ofNat 8 c.val, 0#8] →
    radios = ((List.finRange 64).filter fun r : RadioIx => (s0.group r c).isSome) →
    exec (.groupRead lane) s = .next (answered s lane q .done
      (s0.channels[c].record ++ [BitVec.ofNat 8 radios.length] ++ radios.map fun r => BitVec.ofNat 8 r.val) s0)) ∧
  (∀ lane q s s0 (c : ChannelIx) (r : RadioIx), Ready .groupRead lane q s s0 →
    q.params = [BitVec.ofNat 8 c.val, 1#8, BitVec.ofNat 8 r.val] →
    (s0.group r c = none → exec (.groupRead lane) s = .next (answered s lane q .notFound [] s0)) ∧
    (∀ g, s0.group r c = some g → exec (.groupRead lane) s = .next (answered s lane q .done
      (s0.channels[c].record ++ [BitVec.ofNat 8 g.delivery.ctorIdx, BitVec.ofNat 8 g.members.length] ++
        g.members.flatMap (s0.memberRecord c)) s0))) ∧
  (∀ lane q s s0, Ready .sectorRead lane q s s0 → q.params = [] → exec (.sectorRead lane) s = .next (answered s lane q .done
    ([0x5A#8, 0x01#8] ++ be32 s0.sectorTime.toNat ++ [BitVec.ofNat 8 s0.phase.value] ++ be16 s0.settings.handoffTimeout ++
      be16 s0.settings.returnGuard ++ be16 s0.settings.orphanHold ++ be16 s0.settings.budgetPeriod ++ be16 s0.periodInForce ++
      be32 (remaining s0.nextExpiry s0.sectorTime) ++ [flagByte s0.expirySweep.running] ++ be16 s0.expirySweep.cursor ++
      [flagByte s0.zoneSweep.running] ++ be16 s0.zoneSweep.cursor) s0)) ∧
  (∀ lane q s s0 k, scopeOf q.params = some k →
    (Ready .countersRead lane q s s0 → exec (.countersRead lane) s = .next (answered s lane q .done (s0.scopeRecord k) s0)) ∧
    (Ready .countersClear lane q s s0 → ∃ owned, exec (.countersClear lane) s =
        .next (answered s lane q .done (s0.scopeRecord k) owned) ∧ ChangesOnly [.counters] s0 owned ∧
      (∀ c ∈ k.counters, owned.counter c = 0) ∧ ∀ c, c ∉ k.counters → owned.counter c = s0.counter c)) ∧
  ∀ lane q s s0,
    (Ready .stationRead lane q s s0 → ∀ ix, 4096 ≤ ix → ix < 65536 → q.params = 0#8 :: be16 ix →
      exec (.stationRead lane) s = .next (answered s lane q .badArg [] s0)) ∧
    (Ready .passRead lane q s s0 → ∀ slot, 8192 ≤ slot → slot < 65536 → q.params = 0#8 :: be16 slot →
      exec (.passRead lane) s = .next (answered s lane q .badArg [] s0)) ∧
    (Ready .radioRead lane q s s0 → ∀ b : Byte, 64 ≤ b.toNat → q.params = [b] →
      exec (.radioRead lane) s = .next (answered s lane q .badArg [] s0)) ∧
    (Ready .groupRead lane q s s0 → ∀ c r : Byte, 16 ≤ c.toNat ∨ 64 ≤ r.toNat → q.params = [c, 1#8, r] →
      exec (.groupRead lane) s = .next (answered s lane q .badArg [] s0)) ∧
    (Ready .groupRead lane q s s0 → ∀ c : Byte, 16 ≤ c.toNat → q.params = [c, 0#8] →
      exec (.groupRead lane) s = .next (answered s lane q .badArg [] s0)) ∧
    (scopeOf q.params = none →
      (Ready .countersRead lane q s s0 → exec (.countersRead lane) s = .next (answered s lane q .badArg [] s0)) ∧
      (Ready .countersClear lane q s s0 → exec (.countersClear lane) s = .next (answered s lane q .badArg [] s0)))

/-- R159: RIGHTS_SET gives the named lane the given set, but keeps CONFIG on lane 0 and says so; BAD_ARG has no effect. (The
width of a lane number: log entry 36.) -/
def Obligations.RightsSetKeepsConfigOnBoard : Prop :=
  ∀ lane q s s0 (l : LaneIx) (c : Byte), Ready .rightsSet lane q s s0 → q.params = [BitVec.ofNat 8 l.val, c] →
    (64 ≤ c.toNat → exec (.rightsSet lane) s = .next (answered s lane q .badArg [] s0)) ∧
    (∀ x : Rights, x.toNat = c.toNat → ∀ applied : Rights, applied = (if l = 0 then x ||| 0b100000#6 else x) →
      exec (.rightsSet lane) s = .next (answered s lane q .done
        [s0.lanes[l].rights.zeroExtend 8, applied.zeroExtend 8, if applied = x then 0#8 else 1#8]
        ({ s0 with lanes := s0.lanes.set l { s0.lanes[l] with rights := applied } }.count (.lane l .rightsChanges))))
end

