-- ==== Sys2Proof/Laws/Bytes.lean ====
section
/-! SUPPORT. What the value encodings of R175 read back as: a written value reads as itself. -/

namespace Sys2Proof.Machine

theorem byteOf_toNat {n : Nat} (h : n < 256) : (byteOf n).toNat = n := by
  simp only [byteOf, BitVec.toNat_ofNat]
  omega

theorem ofNat8_toNat {n : Nat} (h : n < 256) : (BitVec.ofNat 8 n).toNat = n := byteOf_toNat h

/-! ### Numbers of several bytes -/

theorem be16_eq (n : Nat) : be16 n = [BitVec.ofNat 8 (n / 256), BitVec.ofNat 8 n] := rfl

theorem be32_eq (n : Nat) :
    be32 n = [BitVec.ofNat 8 (n / 65536 / 256), BitVec.ofNat 8 (n / 65536), BitVec.ofNat 8 (n / 256), BitVec.ofNat 8 n] := rfl

theorem unsigned_be16 {n : Nat} (h : n < 65536) : unsigned (be16 n) = n := by
  simp only [be16, unsigned, List.foldl, BitVec.toNat_ofNat]
  omega

theorem unsigned_be32 {n : Nat} (h : n < 4294967296) : unsigned (be32 n) = n := by
  simp only [be32, be16, unsigned, List.foldl, List.cons_append, List.nil_append, BitVec.toNat_ofNat]
  omega

theorem unsigned_be48 (a : Address) : unsigned (be48 a) = a.toNat := by
  have := a.isLt
  simp only [be48, be32, be16, unsigned, List.foldl, List.cons_append, List.nil_append, BitVec.toNat_ofNat]
  omega

@[simp] theorem half_of_be16 (x : Half) : BitVec.ofNat 16 (unsigned (be16 x.toNat)) = x := by
  rw [unsigned_be16 x.isLt, BitVec.ofNat_toNat, BitVec.setWidth_eq]

@[simp] theorem word_of_be32 (x : Word) : BitVec.ofNat 32 (unsigned (be32 x.toNat)) = x := by
  rw [unsigned_be32 x.isLt, BitVec.ofNat_toNat, BitVec.setWidth_eq]

@[simp] theorem address_of_be48 (a : Address) : BitVec.ofNat 48 (unsigned (be48 a)) = a := by
  rw [unsigned_be48, BitVec.ofNat_toNat, BitVec.setWidth_eq]

@[simp] theorem be16_length (n : Nat) : (be16 n).length = 2 := rfl
@[simp] theorem be32_length (n : Nat) : (be32 n).length = 4 := rfl
@[simp] theorem be48_length (a : Address) : (be48 a).length = 6 := rfl

/-! ### Single values -/

@[simp] theorem radioOf_byteOf (r : RadioIx) : radioOf (BitVec.ofNat 8 r.val) = some r := by
  have h : (BitVec.ofNat 8 r.val).toNat = r.val := ofNat8_toNat (by omega)
  simp only [radioOf, h, r.isLt, dif_pos]

@[simp] theorem channelOf_byteOf (c : ChannelIx) : channelOf (BitVec.ofNat 8 c.val) = some c := by
  have h : (BitVec.ofNat 8 c.val).toNat = c.val := ofNat8_toNat (by omega)
  simp only [channelOf, h, c.isLt, dif_pos]

@[simp] theorem laneOf_byteOf (l : LaneIx) : laneOf (BitVec.ofNat 8 l.val) = some l := by
  have h : (BitVec.ofNat 8 l.val).toNat = l.val := ofNat8_toNat (by omega)
  simp only [laneOf, h, l.isLt, dif_pos]

@[simp] theorem levelOf_byteOf (l : Level) : levelOf (BitVec.ofNat 8 l.val) = some l := by
  have h : (BitVec.ofNat 8 l.val).toNat = l.val := ofNat8_toNat (by omega)
  simp only [levelOf, h, l.isLt, dif_pos]

@[simp] theorem flagOf_flagByte (b : Bool) : flagOf (flagByte b) = some b := by cases b <;> rfl

@[simp] theorem detectOf_ctorIdx (d : DetectMode) : detectOf (BitVec.ofNat 8 d.ctorIdx) = some d := by cases d <;> rfl

@[simp] theorem faultKindOf_ctorIdx (k : FaultKind) : faultKindOf (BitVec.ofNat 8 k.ctorIdx) = some k := by cases k <;> rfl

@[simp] theorem phaseOf_value (p : Phase) : phaseOf (BitVec.ofNat 8 p.value) = some p := by cases p <;> rfl

end Sys2Proof.Machine
end

