-- ==== Sys2Proof/Laws/State.lean ====
section
/-! SUPPORT. One lemma for each field of State and each of its single updates, true by rfl: what the update writes, and that every
other field stands. No later proof unfolds an update. -/

namespace Sys2Proof.Machine

section setLink
variable (s : State) (r : RadioIx) (l : SeatLink)
@[simp] theorem State.setLink_stations : (s.setLink r l).stations = s.stations := rfl
@[simp] theorem State.setLink_addressMap : (s.setLink r l).addressMap = s.addressMap := rfl
@[simp] theorem State.setLink_stationCount : (s.setLink r l).stationCount = s.stationCount := rfl
@[simp] theorem State.setLink_holdFree : (s.setLink r l).holdFree = s.holdFree := rfl
@[simp] theorem State.setLink_links : (s.setLink r l).links = s.links.set r l := rfl
@[simp] theorem State.setLink_passes : (s.setLink r l).passes = s.passes := rfl
@[simp] theorem State.setLink_passMap : (s.setLink r l).passMap = s.passMap := rfl
@[simp] theorem State.setLink_expirySweep : (s.setLink r l).expirySweep = s.expirySweep := rfl
@[simp] theorem State.setLink_seatMap : (s.setLink r l).seatMap = s.seatMap := rfl
@[simp] theorem State.setLink_zoneSweep : (s.setLink r l).zoneSweep = s.zoneSweep := rfl
@[simp] theorem State.setLink_channels : (s.setLink r l).channels = s.channels := rfl
@[simp] theorem State.setLink_groups : (s.setLink r l).groups = s.groups := rfl
@[simp] theorem State.setLink_offers : (s.setLink r l).offers = s.offers := rfl
@[simp] theorem State.setLink_credit : (s.setLink r l).credit = s.credit := rfl
@[simp] theorem State.setLink_refillsDue : (s.setLink r l).refillsDue = s.refillsDue := rfl
@[simp] theorem State.setLink_sectorTime : (s.setLink r l).sectorTime = s.sectorTime := rfl
@[simp] theorem State.setLink_settings : (s.setLink r l).settings = s.settings := rfl
@[simp] theorem State.setLink_periodInForce : (s.setLink r l).periodInForce = s.periodInForce := rfl
@[simp] theorem State.setLink_nextExpiry : (s.setLink r l).nextExpiry = s.nextExpiry := rfl
@[simp] theorem State.setLink_samplePosition : (s.setLink r l).samplePosition = s.samplePosition := rfl
@[simp] theorem State.setLink_samplesDue : (s.setLink r l).samplesDue = s.samplesDue := rfl
@[simp] theorem State.setLink_phase : (s.setLink r l).phase = s.phase := rfl
@[simp] theorem State.setLink_lanes : (s.setLink r l).lanes = s.lanes := rfl
@[simp] theorem State.setLink_responses : (s.setLink r l).responses = s.responses := rfl
@[simp] theorem State.setLink_notices : (s.setLink r l).notices = s.notices := rfl
@[simp] theorem State.setLink_counters : (s.setLink r l).counters = s.counters := rfl
@[simp] theorem State.setLink_wire : (s.setLink r l).wire = s.wire := rfl
@[simp] theorem State.setLink_draws : (s.setLink r l).draws = s.draws := rfl
@[simp] theorem State.setLink_pending : (s.setLink r l).pending = s.pending := rfl
@[simp] theorem State.setLink_inReset : (s.setLink r l).inReset = s.inReset := rfl
end setLink

section setStation
variable (s : State) (ix : Nat) (st : Station)
@[simp] theorem State.setStation_stations : (s.setStation ix st).stations = s.stations.put ix st := rfl
@[simp] theorem State.setStation_addressMap : (s.setStation ix st).addressMap = s.addressMap := rfl
@[simp] theorem State.setStation_stationCount : (s.setStation ix st).stationCount = s.stationCount := rfl
@[simp] theorem State.setStation_holdFree : (s.setStation ix st).holdFree = s.holdFree := rfl
@[simp] theorem State.setStation_links : (s.setStation ix st).links = s.links := rfl
@[simp] theorem State.setStation_passes : (s.setStation ix st).passes = s.passes := rfl
@[simp] theorem State.setStation_passMap : (s.setStation ix st).passMap = s.passMap := rfl
@[simp] theorem State.setStation_expirySweep : (s.setStation ix st).expirySweep = s.expirySweep := rfl
@[simp] theorem State.setStation_seatMap : (s.setStation ix st).seatMap = s.seatMap := rfl
@[simp] theorem State.setStation_zoneSweep : (s.setStation ix st).zoneSweep = s.zoneSweep := rfl
@[simp] theorem State.setStation_channels : (s.setStation ix st).channels = s.channels := rfl
@[simp] theorem State.setStation_groups : (s.setStation ix st).groups = s.groups := rfl
@[simp] theorem State.setStation_offers : (s.setStation ix st).offers = s.offers := rfl
@[simp] theorem State.setStation_credit : (s.setStation ix st).credit = s.credit := rfl
@[simp] theorem State.setStation_refillsDue : (s.setStation ix st).refillsDue = s.refillsDue := rfl
@[simp] theorem State.setStation_sectorTime : (s.setStation ix st).sectorTime = s.sectorTime := rfl
@[simp] theorem State.setStation_settings : (s.setStation ix st).settings = s.settings := rfl
@[simp] theorem State.setStation_periodInForce : (s.setStation ix st).periodInForce = s.periodInForce := rfl
@[simp] theorem State.setStation_nextExpiry : (s.setStation ix st).nextExpiry = s.nextExpiry := rfl
@[simp] theorem State.setStation_samplePosition : (s.setStation ix st).samplePosition = s.samplePosition := rfl
@[simp] theorem State.setStation_samplesDue : (s.setStation ix st).samplesDue = s.samplesDue := rfl
@[simp] theorem State.setStation_phase : (s.setStation ix st).phase = s.phase := rfl
@[simp] theorem State.setStation_lanes : (s.setStation ix st).lanes = s.lanes := rfl
@[simp] theorem State.setStation_responses : (s.setStation ix st).responses = s.responses := rfl
@[simp] theorem State.setStation_notices : (s.setStation ix st).notices = s.notices := rfl
@[simp] theorem State.setStation_counters : (s.setStation ix st).counters = s.counters := rfl
@[simp] theorem State.setStation_wire : (s.setStation ix st).wire = s.wire := rfl
@[simp] theorem State.setStation_draws : (s.setStation ix st).draws = s.draws := rfl
@[simp] theorem State.setStation_pending : (s.setStation ix st).pending = s.pending := rfl
@[simp] theorem State.setStation_inReset : (s.setStation ix st).inReset = s.inReset := rfl
end setStation

section setPass
variable (s : State) (slot : Nat) (p : Pass)
@[simp] theorem State.setPass_stations : (s.setPass slot p).stations = s.stations := rfl
@[simp] theorem State.setPass_addressMap : (s.setPass slot p).addressMap = s.addressMap := rfl
@[simp] theorem State.setPass_stationCount : (s.setPass slot p).stationCount = s.stationCount := rfl
@[simp] theorem State.setPass_holdFree : (s.setPass slot p).holdFree = s.holdFree := rfl
@[simp] theorem State.setPass_links : (s.setPass slot p).links = s.links := rfl
@[simp] theorem State.setPass_passes : (s.setPass slot p).passes = s.passes.put slot p := rfl
@[simp] theorem State.setPass_passMap : (s.setPass slot p).passMap = s.passMap := rfl
@[simp] theorem State.setPass_expirySweep : (s.setPass slot p).expirySweep = s.expirySweep := rfl
@[simp] theorem State.setPass_seatMap : (s.setPass slot p).seatMap = s.seatMap := rfl
@[simp] theorem State.setPass_zoneSweep : (s.setPass slot p).zoneSweep = s.zoneSweep := rfl
@[simp] theorem State.setPass_channels : (s.setPass slot p).channels = s.channels := rfl
@[simp] theorem State.setPass_groups : (s.setPass slot p).groups = s.groups := rfl
@[simp] theorem State.setPass_offers : (s.setPass slot p).offers = s.offers := rfl
@[simp] theorem State.setPass_credit : (s.setPass slot p).credit = s.credit := rfl
@[simp] theorem State.setPass_refillsDue : (s.setPass slot p).refillsDue = s.refillsDue := rfl
@[simp] theorem State.setPass_sectorTime : (s.setPass slot p).sectorTime = s.sectorTime := rfl
@[simp] theorem State.setPass_settings : (s.setPass slot p).settings = s.settings := rfl
@[simp] theorem State.setPass_periodInForce : (s.setPass slot p).periodInForce = s.periodInForce := rfl
@[simp] theorem State.setPass_nextExpiry : (s.setPass slot p).nextExpiry = s.nextExpiry := rfl
@[simp] theorem State.setPass_samplePosition : (s.setPass slot p).samplePosition = s.samplePosition := rfl
@[simp] theorem State.setPass_samplesDue : (s.setPass slot p).samplesDue = s.samplesDue := rfl
@[simp] theorem State.setPass_phase : (s.setPass slot p).phase = s.phase := rfl
@[simp] theorem State.setPass_lanes : (s.setPass slot p).lanes = s.lanes := rfl
@[simp] theorem State.setPass_responses : (s.setPass slot p).responses = s.responses := rfl
@[simp] theorem State.setPass_notices : (s.setPass slot p).notices = s.notices := rfl
@[simp] theorem State.setPass_counters : (s.setPass slot p).counters = s.counters := rfl
@[simp] theorem State.setPass_wire : (s.setPass slot p).wire = s.wire := rfl
@[simp] theorem State.setPass_draws : (s.setPass slot p).draws = s.draws := rfl
@[simp] theorem State.setPass_pending : (s.setPass slot p).pending = s.pending := rfl
@[simp] theorem State.setPass_inReset : (s.setPass slot p).inReset = s.inReset := rfl
end setPass

section setLane
variable (s : State) (lane : LaneIx) (l : Lane)
@[simp] theorem State.setLane_stations : (s.setLane lane l).stations = s.stations := rfl
@[simp] theorem State.setLane_addressMap : (s.setLane lane l).addressMap = s.addressMap := rfl
@[simp] theorem State.setLane_stationCount : (s.setLane lane l).stationCount = s.stationCount := rfl
@[simp] theorem State.setLane_holdFree : (s.setLane lane l).holdFree = s.holdFree := rfl
@[simp] theorem State.setLane_links : (s.setLane lane l).links = s.links := rfl
@[simp] theorem State.setLane_passes : (s.setLane lane l).passes = s.passes := rfl
@[simp] theorem State.setLane_passMap : (s.setLane lane l).passMap = s.passMap := rfl
@[simp] theorem State.setLane_expirySweep : (s.setLane lane l).expirySweep = s.expirySweep := rfl
@[simp] theorem State.setLane_seatMap : (s.setLane lane l).seatMap = s.seatMap := rfl
@[simp] theorem State.setLane_zoneSweep : (s.setLane lane l).zoneSweep = s.zoneSweep := rfl
@[simp] theorem State.setLane_channels : (s.setLane lane l).channels = s.channels := rfl
@[simp] theorem State.setLane_groups : (s.setLane lane l).groups = s.groups := rfl
@[simp] theorem State.setLane_offers : (s.setLane lane l).offers = s.offers := rfl
@[simp] theorem State.setLane_credit : (s.setLane lane l).credit = s.credit := rfl
@[simp] theorem State.setLane_refillsDue : (s.setLane lane l).refillsDue = s.refillsDue := rfl
@[simp] theorem State.setLane_sectorTime : (s.setLane lane l).sectorTime = s.sectorTime := rfl
@[simp] theorem State.setLane_settings : (s.setLane lane l).settings = s.settings := rfl
@[simp] theorem State.setLane_periodInForce : (s.setLane lane l).periodInForce = s.periodInForce := rfl
@[simp] theorem State.setLane_nextExpiry : (s.setLane lane l).nextExpiry = s.nextExpiry := rfl
@[simp] theorem State.setLane_samplePosition : (s.setLane lane l).samplePosition = s.samplePosition := rfl
@[simp] theorem State.setLane_samplesDue : (s.setLane lane l).samplesDue = s.samplesDue := rfl
@[simp] theorem State.setLane_phase : (s.setLane lane l).phase = s.phase := rfl
@[simp] theorem State.setLane_lanes : (s.setLane lane l).lanes = s.lanes.set lane l := rfl
@[simp] theorem State.setLane_responses : (s.setLane lane l).responses = s.responses := rfl
@[simp] theorem State.setLane_notices : (s.setLane lane l).notices = s.notices := rfl
@[simp] theorem State.setLane_counters : (s.setLane lane l).counters = s.counters := rfl
@[simp] theorem State.setLane_wire : (s.setLane lane l).wire = s.wire := rfl
@[simp] theorem State.setLane_draws : (s.setLane lane l).draws = s.draws := rfl
@[simp] theorem State.setLane_pending : (s.setLane lane l).pending = s.pending := rfl
@[simp] theorem State.setLane_inReset : (s.setLane lane l).inReset = s.inReset := rfl
end setLane

section raiseCount
variable (s : State) (r : RadioIx)
@[simp] theorem State.raiseCount_stations : (s.raiseCount r).stations = s.stations := rfl
@[simp] theorem State.raiseCount_addressMap : (s.raiseCount r).addressMap = s.addressMap := rfl
@[simp] theorem State.raiseCount_stationCount : (s.raiseCount r).stationCount = s.stationCount.set r (s.stationCount[r] + 1) :=
  rfl
@[simp] theorem State.raiseCount_holdFree : (s.raiseCount r).holdFree = s.holdFree := rfl
@[simp] theorem State.raiseCount_links : (s.raiseCount r).links = s.links := rfl
@[simp] theorem State.raiseCount_passes : (s.raiseCount r).passes = s.passes := rfl
@[simp] theorem State.raiseCount_passMap : (s.raiseCount r).passMap = s.passMap := rfl
@[simp] theorem State.raiseCount_expirySweep : (s.raiseCount r).expirySweep = s.expirySweep := rfl
@[simp] theorem State.raiseCount_seatMap : (s.raiseCount r).seatMap = s.seatMap := rfl
@[simp] theorem State.raiseCount_zoneSweep : (s.raiseCount r).zoneSweep = s.zoneSweep := rfl
@[simp] theorem State.raiseCount_channels : (s.raiseCount r).channels = s.channels := rfl
@[simp] theorem State.raiseCount_groups : (s.raiseCount r).groups = s.groups := rfl
@[simp] theorem State.raiseCount_offers : (s.raiseCount r).offers = s.offers := rfl
@[simp] theorem State.raiseCount_credit : (s.raiseCount r).credit = s.credit := rfl
@[simp] theorem State.raiseCount_refillsDue : (s.raiseCount r).refillsDue = s.refillsDue := rfl
@[simp] theorem State.raiseCount_sectorTime : (s.raiseCount r).sectorTime = s.sectorTime := rfl
@[simp] theorem State.raiseCount_settings : (s.raiseCount r).settings = s.settings := rfl
@[simp] theorem State.raiseCount_periodInForce : (s.raiseCount r).periodInForce = s.periodInForce := rfl
@[simp] theorem State.raiseCount_nextExpiry : (s.raiseCount r).nextExpiry = s.nextExpiry := rfl
@[simp] theorem State.raiseCount_samplePosition : (s.raiseCount r).samplePosition = s.samplePosition := rfl
@[simp] theorem State.raiseCount_samplesDue : (s.raiseCount r).samplesDue = s.samplesDue := rfl
@[simp] theorem State.raiseCount_phase : (s.raiseCount r).phase = s.phase := rfl
@[simp] theorem State.raiseCount_lanes : (s.raiseCount r).lanes = s.lanes := rfl
@[simp] theorem State.raiseCount_responses : (s.raiseCount r).responses = s.responses := rfl
@[simp] theorem State.raiseCount_notices : (s.raiseCount r).notices = s.notices := rfl
@[simp] theorem State.raiseCount_counters : (s.raiseCount r).counters = s.counters := rfl
@[simp] theorem State.raiseCount_wire : (s.raiseCount r).wire = s.wire := rfl
@[simp] theorem State.raiseCount_draws : (s.raiseCount r).draws = s.draws := rfl
@[simp] theorem State.raiseCount_pending : (s.raiseCount r).pending = s.pending := rfl
@[simp] theorem State.raiseCount_inReset : (s.raiseCount r).inReset = s.inReset := rfl
end raiseCount

section lowerCount
variable (s : State) (r : RadioIx)
@[simp] theorem State.lowerCount_stations : (s.lowerCount r).stations = s.stations := rfl
@[simp] theorem State.lowerCount_addressMap : (s.lowerCount r).addressMap = s.addressMap := rfl
@[simp] theorem State.lowerCount_stationCount : (s.lowerCount r).stationCount = s.stationCount.set r (s.stationCount[r] - 1) :=
  rfl
@[simp] theorem State.lowerCount_holdFree : (s.lowerCount r).holdFree = s.holdFree := rfl
@[simp] theorem State.lowerCount_links : (s.lowerCount r).links = s.links := rfl
@[simp] theorem State.lowerCount_passes : (s.lowerCount r).passes = s.passes := rfl
@[simp] theorem State.lowerCount_passMap : (s.lowerCount r).passMap = s.passMap := rfl
@[simp] theorem State.lowerCount_expirySweep : (s.lowerCount r).expirySweep = s.expirySweep := rfl
@[simp] theorem State.lowerCount_seatMap : (s.lowerCount r).seatMap = s.seatMap := rfl
@[simp] theorem State.lowerCount_zoneSweep : (s.lowerCount r).zoneSweep = s.zoneSweep := rfl
@[simp] theorem State.lowerCount_channels : (s.lowerCount r).channels = s.channels := rfl
@[simp] theorem State.lowerCount_groups : (s.lowerCount r).groups = s.groups := rfl
@[simp] theorem State.lowerCount_offers : (s.lowerCount r).offers = s.offers := rfl
@[simp] theorem State.lowerCount_credit : (s.lowerCount r).credit = s.credit := rfl
@[simp] theorem State.lowerCount_refillsDue : (s.lowerCount r).refillsDue = s.refillsDue := rfl
@[simp] theorem State.lowerCount_sectorTime : (s.lowerCount r).sectorTime = s.sectorTime := rfl
@[simp] theorem State.lowerCount_settings : (s.lowerCount r).settings = s.settings := rfl
@[simp] theorem State.lowerCount_periodInForce : (s.lowerCount r).periodInForce = s.periodInForce := rfl
@[simp] theorem State.lowerCount_nextExpiry : (s.lowerCount r).nextExpiry = s.nextExpiry := rfl
@[simp] theorem State.lowerCount_samplePosition : (s.lowerCount r).samplePosition = s.samplePosition := rfl
@[simp] theorem State.lowerCount_samplesDue : (s.lowerCount r).samplesDue = s.samplesDue := rfl
@[simp] theorem State.lowerCount_phase : (s.lowerCount r).phase = s.phase := rfl
@[simp] theorem State.lowerCount_lanes : (s.lowerCount r).lanes = s.lanes := rfl
@[simp] theorem State.lowerCount_responses : (s.lowerCount r).responses = s.responses := rfl
@[simp] theorem State.lowerCount_notices : (s.lowerCount r).notices = s.notices := rfl
@[simp] theorem State.lowerCount_counters : (s.lowerCount r).counters = s.counters := rfl
@[simp] theorem State.lowerCount_wire : (s.lowerCount r).wire = s.wire := rfl
@[simp] theorem State.lowerCount_draws : (s.lowerCount r).draws = s.draws := rfl
@[simp] theorem State.lowerCount_pending : (s.lowerCount r).pending = s.pending := rfl
@[simp] theorem State.lowerCount_inReset : (s.lowerCount r).inReset = s.inReset := rfl
end lowerCount

section emit
variable (s : State) (o : Output)
@[simp] theorem State.emit_stations : (s.emit o).stations = s.stations := rfl
@[simp] theorem State.emit_addressMap : (s.emit o).addressMap = s.addressMap := rfl
@[simp] theorem State.emit_stationCount : (s.emit o).stationCount = s.stationCount := rfl
@[simp] theorem State.emit_holdFree : (s.emit o).holdFree = s.holdFree := rfl
@[simp] theorem State.emit_links : (s.emit o).links = s.links := rfl
@[simp] theorem State.emit_passes : (s.emit o).passes = s.passes := rfl
@[simp] theorem State.emit_passMap : (s.emit o).passMap = s.passMap := rfl
@[simp] theorem State.emit_expirySweep : (s.emit o).expirySweep = s.expirySweep := rfl
@[simp] theorem State.emit_seatMap : (s.emit o).seatMap = s.seatMap := rfl
@[simp] theorem State.emit_zoneSweep : (s.emit o).zoneSweep = s.zoneSweep := rfl
@[simp] theorem State.emit_channels : (s.emit o).channels = s.channels := rfl
@[simp] theorem State.emit_groups : (s.emit o).groups = s.groups := rfl
@[simp] theorem State.emit_offers : (s.emit o).offers = s.offers := rfl
@[simp] theorem State.emit_credit : (s.emit o).credit = s.credit := rfl
@[simp] theorem State.emit_refillsDue : (s.emit o).refillsDue = s.refillsDue := rfl
@[simp] theorem State.emit_sectorTime : (s.emit o).sectorTime = s.sectorTime := rfl
@[simp] theorem State.emit_settings : (s.emit o).settings = s.settings := rfl
@[simp] theorem State.emit_periodInForce : (s.emit o).periodInForce = s.periodInForce := rfl
@[simp] theorem State.emit_nextExpiry : (s.emit o).nextExpiry = s.nextExpiry := rfl
@[simp] theorem State.emit_samplePosition : (s.emit o).samplePosition = s.samplePosition := rfl
@[simp] theorem State.emit_samplesDue : (s.emit o).samplesDue = s.samplesDue := rfl
@[simp] theorem State.emit_phase : (s.emit o).phase = s.phase := rfl
@[simp] theorem State.emit_lanes : (s.emit o).lanes = s.lanes := rfl
@[simp] theorem State.emit_responses : (s.emit o).responses = s.responses := rfl
@[simp] theorem State.emit_notices : (s.emit o).notices = s.notices := rfl
@[simp] theorem State.emit_counters : (s.emit o).counters = s.counters := rfl
@[simp] theorem State.emit_wire : (s.emit o).wire = s.wire ++ [o] := rfl
@[simp] theorem State.emit_draws : (s.emit o).draws = s.draws := rfl
@[simp] theorem State.emit_pending : (s.emit o).pending = s.pending := rfl
@[simp] theorem State.emit_inReset : (s.emit o).inReset = s.inReset := rfl
end emit

section note
variable (s : State) (src : Source)
@[simp] theorem State.note_stations : (s.note src).stations = s.stations := rfl
@[simp] theorem State.note_addressMap : (s.note src).addressMap = s.addressMap := rfl
@[simp] theorem State.note_stationCount : (s.note src).stationCount = s.stationCount := rfl
@[simp] theorem State.note_holdFree : (s.note src).holdFree = s.holdFree := rfl
@[simp] theorem State.note_links : (s.note src).links = s.links := rfl
@[simp] theorem State.note_passes : (s.note src).passes = s.passes := rfl
@[simp] theorem State.note_passMap : (s.note src).passMap = s.passMap := rfl
@[simp] theorem State.note_expirySweep : (s.note src).expirySweep = s.expirySweep := rfl
@[simp] theorem State.note_seatMap : (s.note src).seatMap = s.seatMap := rfl
@[simp] theorem State.note_zoneSweep : (s.note src).zoneSweep = s.zoneSweep := rfl
@[simp] theorem State.note_channels : (s.note src).channels = s.channels := rfl
@[simp] theorem State.note_groups : (s.note src).groups = s.groups := rfl
@[simp] theorem State.note_offers : (s.note src).offers = s.offers := rfl
@[simp] theorem State.note_credit : (s.note src).credit = s.credit := rfl
@[simp] theorem State.note_refillsDue : (s.note src).refillsDue = s.refillsDue := rfl
@[simp] theorem State.note_sectorTime : (s.note src).sectorTime = s.sectorTime := rfl
@[simp] theorem State.note_settings : (s.note src).settings = s.settings := rfl
@[simp] theorem State.note_periodInForce : (s.note src).periodInForce = s.periodInForce := rfl
@[simp] theorem State.note_nextExpiry : (s.note src).nextExpiry = s.nextExpiry := rfl
@[simp] theorem State.note_samplePosition : (s.note src).samplePosition = s.samplePosition := rfl
@[simp] theorem State.note_samplesDue : (s.note src).samplesDue = s.samplesDue := rfl
@[simp] theorem State.note_phase : (s.note src).phase = s.phase := rfl
@[simp] theorem State.note_lanes : (s.note src).lanes = s.lanes := rfl
@[simp] theorem State.note_responses : (s.note src).responses = s.responses := rfl
@[simp] theorem State.note_notices : (s.note src).notices = s.notices.map (Notice.raise src) := rfl
@[simp] theorem State.note_counters : (s.note src).counters = s.counters := rfl
@[simp] theorem State.note_wire : (s.note src).wire = s.wire := rfl
@[simp] theorem State.note_draws : (s.note src).draws = s.draws := rfl
@[simp] theorem State.note_pending : (s.note src).pending = s.pending := rfl
@[simp] theorem State.note_inReset : (s.note src).inReset = s.inReset := rfl
end note

section addTo
variable (s : State) (c : Counter) (n : Nat)
@[simp] theorem State.addTo_stations : (s.addTo c n).stations = s.stations := rfl
@[simp] theorem State.addTo_addressMap : (s.addTo c n).addressMap = s.addressMap := rfl
@[simp] theorem State.addTo_stationCount : (s.addTo c n).stationCount = s.stationCount := rfl
@[simp] theorem State.addTo_holdFree : (s.addTo c n).holdFree = s.holdFree := rfl
@[simp] theorem State.addTo_links : (s.addTo c n).links = s.links := rfl
@[simp] theorem State.addTo_passes : (s.addTo c n).passes = s.passes := rfl
@[simp] theorem State.addTo_passMap : (s.addTo c n).passMap = s.passMap := rfl
@[simp] theorem State.addTo_expirySweep : (s.addTo c n).expirySweep = s.expirySweep := rfl
@[simp] theorem State.addTo_seatMap : (s.addTo c n).seatMap = s.seatMap := rfl
@[simp] theorem State.addTo_zoneSweep : (s.addTo c n).zoneSweep = s.zoneSweep := rfl
@[simp] theorem State.addTo_channels : (s.addTo c n).channels = s.channels := rfl
@[simp] theorem State.addTo_groups : (s.addTo c n).groups = s.groups := rfl
@[simp] theorem State.addTo_offers : (s.addTo c n).offers = s.offers := rfl
@[simp] theorem State.addTo_credit : (s.addTo c n).credit = s.credit := rfl
@[simp] theorem State.addTo_refillsDue : (s.addTo c n).refillsDue = s.refillsDue := rfl
@[simp] theorem State.addTo_sectorTime : (s.addTo c n).sectorTime = s.sectorTime := rfl
@[simp] theorem State.addTo_settings : (s.addTo c n).settings = s.settings := rfl
@[simp] theorem State.addTo_periodInForce : (s.addTo c n).periodInForce = s.periodInForce := rfl
@[simp] theorem State.addTo_nextExpiry : (s.addTo c n).nextExpiry = s.nextExpiry := rfl
@[simp] theorem State.addTo_samplePosition : (s.addTo c n).samplePosition = s.samplePosition := rfl
@[simp] theorem State.addTo_samplesDue : (s.addTo c n).samplesDue = s.samplesDue := rfl
@[simp] theorem State.addTo_phase : (s.addTo c n).phase = s.phase := rfl
@[simp] theorem State.addTo_lanes : (s.addTo c n).lanes = s.lanes := rfl
@[simp] theorem State.addTo_responses : (s.addTo c n).responses = s.responses := rfl
@[simp] theorem State.addTo_notices : (s.addTo c n).notices = s.notices := rfl
@[simp] theorem State.addTo_counters : (s.addTo c n).counters = tally s.counters c.key n := rfl
@[simp] theorem State.addTo_wire : (s.addTo c n).wire = s.wire := rfl
@[simp] theorem State.addTo_draws : (s.addTo c n).draws = s.draws := rfl
@[simp] theorem State.addTo_pending : (s.addTo c n).pending = s.pending := rfl
@[simp] theorem State.addTo_inReset : (s.addTo c n).inReset = s.inReset := rfl
end addTo

section count
variable (s : State) (c : Counter)
@[simp] theorem State.count_stations : (s.count c).stations = s.stations := rfl
@[simp] theorem State.count_addressMap : (s.count c).addressMap = s.addressMap := rfl
@[simp] theorem State.count_stationCount : (s.count c).stationCount = s.stationCount := rfl
@[simp] theorem State.count_holdFree : (s.count c).holdFree = s.holdFree := rfl
@[simp] theorem State.count_links : (s.count c).links = s.links := rfl
@[simp] theorem State.count_passes : (s.count c).passes = s.passes := rfl
@[simp] theorem State.count_passMap : (s.count c).passMap = s.passMap := rfl
@[simp] theorem State.count_expirySweep : (s.count c).expirySweep = s.expirySweep := rfl
@[simp] theorem State.count_seatMap : (s.count c).seatMap = s.seatMap := rfl
@[simp] theorem State.count_zoneSweep : (s.count c).zoneSweep = s.zoneSweep := rfl
@[simp] theorem State.count_channels : (s.count c).channels = s.channels := rfl
@[simp] theorem State.count_groups : (s.count c).groups = s.groups := rfl
@[simp] theorem State.count_offers : (s.count c).offers = s.offers := rfl
@[simp] theorem State.count_credit : (s.count c).credit = s.credit := rfl
@[simp] theorem State.count_refillsDue : (s.count c).refillsDue = s.refillsDue := rfl
@[simp] theorem State.count_sectorTime : (s.count c).sectorTime = s.sectorTime := rfl
@[simp] theorem State.count_settings : (s.count c).settings = s.settings := rfl
@[simp] theorem State.count_periodInForce : (s.count c).periodInForce = s.periodInForce := rfl
@[simp] theorem State.count_nextExpiry : (s.count c).nextExpiry = s.nextExpiry := rfl
@[simp] theorem State.count_samplePosition : (s.count c).samplePosition = s.samplePosition := rfl
@[simp] theorem State.count_samplesDue : (s.count c).samplesDue = s.samplesDue := rfl
@[simp] theorem State.count_phase : (s.count c).phase = s.phase := rfl
@[simp] theorem State.count_lanes : (s.count c).lanes = s.lanes := rfl
@[simp] theorem State.count_responses : (s.count c).responses = s.responses := rfl
@[simp] theorem State.count_notices : (s.count c).notices = s.notices := rfl
@[simp] theorem State.count_counters : (s.count c).counters = tally s.counters c.key 1 := rfl
@[simp] theorem State.count_wire : (s.count c).wire = s.wire := rfl
@[simp] theorem State.count_draws : (s.count c).draws = s.draws := rfl
@[simp] theorem State.count_pending : (s.count c).pending = s.pending := rfl
@[simp] theorem State.count_inReset : (s.count c).inReset = s.inReset := rfl
end count

section zero
variable (s : State) (cs : List Counter)
@[simp] theorem State.zero_stations : (s.zero cs).stations = s.stations := rfl
@[simp] theorem State.zero_addressMap : (s.zero cs).addressMap = s.addressMap := rfl
@[simp] theorem State.zero_stationCount : (s.zero cs).stationCount = s.stationCount := rfl
@[simp] theorem State.zero_holdFree : (s.zero cs).holdFree = s.holdFree := rfl
@[simp] theorem State.zero_links : (s.zero cs).links = s.links := rfl
@[simp] theorem State.zero_passes : (s.zero cs).passes = s.passes := rfl
@[simp] theorem State.zero_passMap : (s.zero cs).passMap = s.passMap := rfl
@[simp] theorem State.zero_expirySweep : (s.zero cs).expirySweep = s.expirySweep := rfl
@[simp] theorem State.zero_seatMap : (s.zero cs).seatMap = s.seatMap := rfl
@[simp] theorem State.zero_zoneSweep : (s.zero cs).zoneSweep = s.zoneSweep := rfl
@[simp] theorem State.zero_channels : (s.zero cs).channels = s.channels := rfl
@[simp] theorem State.zero_groups : (s.zero cs).groups = s.groups := rfl
@[simp] theorem State.zero_offers : (s.zero cs).offers = s.offers := rfl
@[simp] theorem State.zero_credit : (s.zero cs).credit = s.credit := rfl
@[simp] theorem State.zero_refillsDue : (s.zero cs).refillsDue = s.refillsDue := rfl
@[simp] theorem State.zero_sectorTime : (s.zero cs).sectorTime = s.sectorTime := rfl
@[simp] theorem State.zero_settings : (s.zero cs).settings = s.settings := rfl
@[simp] theorem State.zero_periodInForce : (s.zero cs).periodInForce = s.periodInForce := rfl
@[simp] theorem State.zero_nextExpiry : (s.zero cs).nextExpiry = s.nextExpiry := rfl
@[simp] theorem State.zero_samplePosition : (s.zero cs).samplePosition = s.samplePosition := rfl
@[simp] theorem State.zero_samplesDue : (s.zero cs).samplesDue = s.samplesDue := rfl
@[simp] theorem State.zero_phase : (s.zero cs).phase = s.phase := rfl
@[simp] theorem State.zero_lanes : (s.zero cs).lanes = s.lanes := rfl
@[simp] theorem State.zero_responses : (s.zero cs).responses = s.responses := rfl
@[simp] theorem State.zero_notices : (s.zero cs).notices = s.notices := rfl
@[simp] theorem State.zero_counters : (s.zero cs).counters = cs.foldl (fun t c => t.drop c.key) s.counters := rfl
@[simp] theorem State.zero_wire : (s.zero cs).wire = s.wire := rfl
@[simp] theorem State.zero_draws : (s.zero cs).draws = s.draws := rfl
@[simp] theorem State.zero_pending : (s.zero cs).pending = s.pending := rfl
@[simp] theorem State.zero_inReset : (s.zero cs).inReset = s.inReset := rfl
end zero

section setCredit
variable (s : State) (r : RadioIx) (c : Int)
@[simp] theorem State.setCredit_stations : (s.setCredit r c).stations = s.stations := rfl
@[simp] theorem State.setCredit_addressMap : (s.setCredit r c).addressMap = s.addressMap := rfl
@[simp] theorem State.setCredit_stationCount : (s.setCredit r c).stationCount = s.stationCount := rfl
@[simp] theorem State.setCredit_holdFree : (s.setCredit r c).holdFree = s.holdFree := rfl
@[simp] theorem State.setCredit_links : (s.setCredit r c).links = s.links := rfl
@[simp] theorem State.setCredit_passes : (s.setCredit r c).passes = s.passes := rfl
@[simp] theorem State.setCredit_passMap : (s.setCredit r c).passMap = s.passMap := rfl
@[simp] theorem State.setCredit_expirySweep : (s.setCredit r c).expirySweep = s.expirySweep := rfl
@[simp] theorem State.setCredit_seatMap : (s.setCredit r c).seatMap = s.seatMap := rfl
@[simp] theorem State.setCredit_zoneSweep : (s.setCredit r c).zoneSweep = s.zoneSweep := rfl
@[simp] theorem State.setCredit_channels : (s.setCredit r c).channels = s.channels := rfl
@[simp] theorem State.setCredit_groups : (s.setCredit r c).groups = s.groups := rfl
@[simp] theorem State.setCredit_offers : (s.setCredit r c).offers = s.offers := rfl
@[simp] theorem State.setCredit_credit : (s.setCredit r c).credit = s.credit.set r c := rfl
@[simp] theorem State.setCredit_refillsDue : (s.setCredit r c).refillsDue = s.refillsDue := rfl
@[simp] theorem State.setCredit_sectorTime : (s.setCredit r c).sectorTime = s.sectorTime := rfl
@[simp] theorem State.setCredit_settings : (s.setCredit r c).settings = s.settings := rfl
@[simp] theorem State.setCredit_periodInForce : (s.setCredit r c).periodInForce = s.periodInForce := rfl
@[simp] theorem State.setCredit_nextExpiry : (s.setCredit r c).nextExpiry = s.nextExpiry := rfl
@[simp] theorem State.setCredit_samplePosition : (s.setCredit r c).samplePosition = s.samplePosition := rfl
@[simp] theorem State.setCredit_samplesDue : (s.setCredit r c).samplesDue = s.samplesDue := rfl
@[simp] theorem State.setCredit_phase : (s.setCredit r c).phase = s.phase := rfl
@[simp] theorem State.setCredit_lanes : (s.setCredit r c).lanes = s.lanes := rfl
@[simp] theorem State.setCredit_responses : (s.setCredit r c).responses = s.responses := rfl
@[simp] theorem State.setCredit_notices : (s.setCredit r c).notices = s.notices := rfl
@[simp] theorem State.setCredit_counters : (s.setCredit r c).counters = s.counters := rfl
@[simp] theorem State.setCredit_wire : (s.setCredit r c).wire = s.wire := rfl
@[simp] theorem State.setCredit_draws : (s.setCredit r c).draws = s.draws := rfl
@[simp] theorem State.setCredit_pending : (s.setCredit r c).pending = s.pending := rfl
@[simp] theorem State.setCredit_inReset : (s.setCredit r c).inReset = s.inReset := rfl
end setCredit

section setChannel
variable (s : State) (c : ChannelIx) (ch : Channel)
@[simp] theorem State.setChannel_stations : (s.setChannel c ch).stations = s.stations := rfl
@[simp] theorem State.setChannel_addressMap : (s.setChannel c ch).addressMap = s.addressMap := rfl
@[simp] theorem State.setChannel_stationCount : (s.setChannel c ch).stationCount = s.stationCount := rfl
@[simp] theorem State.setChannel_holdFree : (s.setChannel c ch).holdFree = s.holdFree := rfl
@[simp] theorem State.setChannel_links : (s.setChannel c ch).links = s.links := rfl
@[simp] theorem State.setChannel_passes : (s.setChannel c ch).passes = s.passes := rfl
@[simp] theorem State.setChannel_passMap : (s.setChannel c ch).passMap = s.passMap := rfl
@[simp] theorem State.setChannel_expirySweep : (s.setChannel c ch).expirySweep = s.expirySweep := rfl
@[simp] theorem State.setChannel_seatMap : (s.setChannel c ch).seatMap = s.seatMap := rfl
@[simp] theorem State.setChannel_zoneSweep : (s.setChannel c ch).zoneSweep = s.zoneSweep := rfl
@[simp] theorem State.setChannel_channels : (s.setChannel c ch).channels = s.channels.set c ch := rfl
@[simp] theorem State.setChannel_groups : (s.setChannel c ch).groups = s.groups := rfl
@[simp] theorem State.setChannel_offers : (s.setChannel c ch).offers = s.offers := rfl
@[simp] theorem State.setChannel_credit : (s.setChannel c ch).credit = s.credit := rfl
@[simp] theorem State.setChannel_refillsDue : (s.setChannel c ch).refillsDue = s.refillsDue := rfl
@[simp] theorem State.setChannel_sectorTime : (s.setChannel c ch).sectorTime = s.sectorTime := rfl
@[simp] theorem State.setChannel_settings : (s.setChannel c ch).settings = s.settings := rfl
@[simp] theorem State.setChannel_periodInForce : (s.setChannel c ch).periodInForce = s.periodInForce := rfl
@[simp] theorem State.setChannel_nextExpiry : (s.setChannel c ch).nextExpiry = s.nextExpiry := rfl
@[simp] theorem State.setChannel_samplePosition : (s.setChannel c ch).samplePosition = s.samplePosition := rfl
@[simp] theorem State.setChannel_samplesDue : (s.setChannel c ch).samplesDue = s.samplesDue := rfl
@[simp] theorem State.setChannel_phase : (s.setChannel c ch).phase = s.phase := rfl
@[simp] theorem State.setChannel_lanes : (s.setChannel c ch).lanes = s.lanes := rfl
@[simp] theorem State.setChannel_responses : (s.setChannel c ch).responses = s.responses := rfl
@[simp] theorem State.setChannel_notices : (s.setChannel c ch).notices = s.notices := rfl
@[simp] theorem State.setChannel_counters : (s.setChannel c ch).counters = s.counters := rfl
@[simp] theorem State.setChannel_wire : (s.setChannel c ch).wire = s.wire := rfl
@[simp] theorem State.setChannel_draws : (s.setChannel c ch).draws = s.draws := rfl
@[simp] theorem State.setChannel_pending : (s.setChannel c ch).pending = s.pending := rfl
@[simp] theorem State.setChannel_inReset : (s.setChannel c ch).inReset = s.inReset := rfl
end setChannel

section setNotice
variable (s : State) (lane : LaneIx) (n : Notice)
@[simp] theorem State.setNotice_stations : (s.setNotice lane n).stations = s.stations := rfl
@[simp] theorem State.setNotice_addressMap : (s.setNotice lane n).addressMap = s.addressMap := rfl
@[simp] theorem State.setNotice_stationCount : (s.setNotice lane n).stationCount = s.stationCount := rfl
@[simp] theorem State.setNotice_holdFree : (s.setNotice lane n).holdFree = s.holdFree := rfl
@[simp] theorem State.setNotice_links : (s.setNotice lane n).links = s.links := rfl
@[simp] theorem State.setNotice_passes : (s.setNotice lane n).passes = s.passes := rfl
@[simp] theorem State.setNotice_passMap : (s.setNotice lane n).passMap = s.passMap := rfl
@[simp] theorem State.setNotice_expirySweep : (s.setNotice lane n).expirySweep = s.expirySweep := rfl
@[simp] theorem State.setNotice_seatMap : (s.setNotice lane n).seatMap = s.seatMap := rfl
@[simp] theorem State.setNotice_zoneSweep : (s.setNotice lane n).zoneSweep = s.zoneSweep := rfl
@[simp] theorem State.setNotice_channels : (s.setNotice lane n).channels = s.channels := rfl
@[simp] theorem State.setNotice_groups : (s.setNotice lane n).groups = s.groups := rfl
@[simp] theorem State.setNotice_offers : (s.setNotice lane n).offers = s.offers := rfl
@[simp] theorem State.setNotice_credit : (s.setNotice lane n).credit = s.credit := rfl
@[simp] theorem State.setNotice_refillsDue : (s.setNotice lane n).refillsDue = s.refillsDue := rfl
@[simp] theorem State.setNotice_sectorTime : (s.setNotice lane n).sectorTime = s.sectorTime := rfl
@[simp] theorem State.setNotice_settings : (s.setNotice lane n).settings = s.settings := rfl
@[simp] theorem State.setNotice_periodInForce : (s.setNotice lane n).periodInForce = s.periodInForce := rfl
@[simp] theorem State.setNotice_nextExpiry : (s.setNotice lane n).nextExpiry = s.nextExpiry := rfl
@[simp] theorem State.setNotice_samplePosition : (s.setNotice lane n).samplePosition = s.samplePosition := rfl
@[simp] theorem State.setNotice_samplesDue : (s.setNotice lane n).samplesDue = s.samplesDue := rfl
@[simp] theorem State.setNotice_phase : (s.setNotice lane n).phase = s.phase := rfl
@[simp] theorem State.setNotice_lanes : (s.setNotice lane n).lanes = s.lanes := rfl
@[simp] theorem State.setNotice_responses : (s.setNotice lane n).responses = s.responses := rfl
@[simp] theorem State.setNotice_notices : (s.setNotice lane n).notices = s.notices.set lane n := rfl
@[simp] theorem State.setNotice_counters : (s.setNotice lane n).counters = s.counters := rfl
@[simp] theorem State.setNotice_wire : (s.setNotice lane n).wire = s.wire := rfl
@[simp] theorem State.setNotice_draws : (s.setNotice lane n).draws = s.draws := rfl
@[simp] theorem State.setNotice_pending : (s.setNotice lane n).pending = s.pending := rfl
@[simp] theorem State.setNotice_inReset : (s.setNotice lane n).inReset = s.inReset := rfl
end setNotice

section returnBuffers
variable (s : State) (n : Nat)
@[simp] theorem State.returnBuffers_stations : (s.returnBuffers n).stations = s.stations := rfl
@[simp] theorem State.returnBuffers_addressMap : (s.returnBuffers n).addressMap = s.addressMap := rfl
@[simp] theorem State.returnBuffers_stationCount : (s.returnBuffers n).stationCount = s.stationCount := rfl
@[simp] theorem State.returnBuffers_holdFree : (s.returnBuffers n).holdFree = s.holdFree + n := rfl
@[simp] theorem State.returnBuffers_links : (s.returnBuffers n).links = s.links := rfl
@[simp] theorem State.returnBuffers_passes : (s.returnBuffers n).passes = s.passes := rfl
@[simp] theorem State.returnBuffers_passMap : (s.returnBuffers n).passMap = s.passMap := rfl
@[simp] theorem State.returnBuffers_expirySweep : (s.returnBuffers n).expirySweep = s.expirySweep := rfl
@[simp] theorem State.returnBuffers_seatMap : (s.returnBuffers n).seatMap = s.seatMap := rfl
@[simp] theorem State.returnBuffers_zoneSweep : (s.returnBuffers n).zoneSweep = s.zoneSweep := rfl
@[simp] theorem State.returnBuffers_channels : (s.returnBuffers n).channels = s.channels := rfl
@[simp] theorem State.returnBuffers_groups : (s.returnBuffers n).groups = s.groups := rfl
@[simp] theorem State.returnBuffers_offers : (s.returnBuffers n).offers = s.offers := rfl
@[simp] theorem State.returnBuffers_credit : (s.returnBuffers n).credit = s.credit := rfl
@[simp] theorem State.returnBuffers_refillsDue : (s.returnBuffers n).refillsDue = s.refillsDue := rfl
@[simp] theorem State.returnBuffers_sectorTime : (s.returnBuffers n).sectorTime = s.sectorTime := rfl
@[simp] theorem State.returnBuffers_settings : (s.returnBuffers n).settings = s.settings := rfl
@[simp] theorem State.returnBuffers_periodInForce : (s.returnBuffers n).periodInForce = s.periodInForce := rfl
@[simp] theorem State.returnBuffers_nextExpiry : (s.returnBuffers n).nextExpiry = s.nextExpiry := rfl
@[simp] theorem State.returnBuffers_samplePosition : (s.returnBuffers n).samplePosition = s.samplePosition := rfl
@[simp] theorem State.returnBuffers_samplesDue : (s.returnBuffers n).samplesDue = s.samplesDue := rfl
@[simp] theorem State.returnBuffers_phase : (s.returnBuffers n).phase = s.phase := rfl
@[simp] theorem State.returnBuffers_lanes : (s.returnBuffers n).lanes = s.lanes := rfl
@[simp] theorem State.returnBuffers_responses : (s.returnBuffers n).responses = s.responses := rfl
@[simp] theorem State.returnBuffers_notices : (s.returnBuffers n).notices = s.notices := rfl
@[simp] theorem State.returnBuffers_counters : (s.returnBuffers n).counters = s.counters := rfl
@[simp] theorem State.returnBuffers_wire : (s.returnBuffers n).wire = s.wire := rfl
@[simp] theorem State.returnBuffers_draws : (s.returnBuffers n).draws = s.draws := rfl
@[simp] theorem State.returnBuffers_pending : (s.returnBuffers n).pending = s.pending := rfl
@[simp] theorem State.returnBuffers_inReset : (s.returnBuffers n).inReset = s.inReset := rfl
end returnBuffers

section withQueue
variable (s : State) (rest : List Instr)
@[simp] theorem State.withQueue_stations : (s.withQueue rest).stations = s.stations := rfl
@[simp] theorem State.withQueue_addressMap : (s.withQueue rest).addressMap = s.addressMap := rfl
@[simp] theorem State.withQueue_stationCount : (s.withQueue rest).stationCount = s.stationCount := rfl
@[simp] theorem State.withQueue_holdFree : (s.withQueue rest).holdFree = s.holdFree := rfl
@[simp] theorem State.withQueue_links : (s.withQueue rest).links = s.links := rfl
@[simp] theorem State.withQueue_passes : (s.withQueue rest).passes = s.passes := rfl
@[simp] theorem State.withQueue_passMap : (s.withQueue rest).passMap = s.passMap := rfl
@[simp] theorem State.withQueue_expirySweep : (s.withQueue rest).expirySweep = s.expirySweep := rfl
@[simp] theorem State.withQueue_seatMap : (s.withQueue rest).seatMap = s.seatMap := rfl
@[simp] theorem State.withQueue_zoneSweep : (s.withQueue rest).zoneSweep = s.zoneSweep := rfl
@[simp] theorem State.withQueue_channels : (s.withQueue rest).channels = s.channels := rfl
@[simp] theorem State.withQueue_groups : (s.withQueue rest).groups = s.groups := rfl
@[simp] theorem State.withQueue_offers : (s.withQueue rest).offers = s.offers := rfl
@[simp] theorem State.withQueue_credit : (s.withQueue rest).credit = s.credit := rfl
@[simp] theorem State.withQueue_refillsDue : (s.withQueue rest).refillsDue = s.refillsDue := rfl
@[simp] theorem State.withQueue_sectorTime : (s.withQueue rest).sectorTime = s.sectorTime := rfl
@[simp] theorem State.withQueue_settings : (s.withQueue rest).settings = s.settings := rfl
@[simp] theorem State.withQueue_periodInForce : (s.withQueue rest).periodInForce = s.periodInForce := rfl
@[simp] theorem State.withQueue_nextExpiry : (s.withQueue rest).nextExpiry = s.nextExpiry := rfl
@[simp] theorem State.withQueue_samplePosition : (s.withQueue rest).samplePosition = s.samplePosition := rfl
@[simp] theorem State.withQueue_samplesDue : (s.withQueue rest).samplesDue = s.samplesDue := rfl
@[simp] theorem State.withQueue_phase : (s.withQueue rest).phase = s.phase := rfl
@[simp] theorem State.withQueue_lanes : (s.withQueue rest).lanes = s.lanes := rfl
@[simp] theorem State.withQueue_responses : (s.withQueue rest).responses = s.responses := rfl
@[simp] theorem State.withQueue_notices : (s.withQueue rest).notices = s.notices := rfl
@[simp] theorem State.withQueue_counters : (s.withQueue rest).counters = s.counters := rfl
@[simp] theorem State.withQueue_wire : (s.withQueue rest).wire = s.wire := rfl
@[simp] theorem State.withQueue_draws : (s.withQueue rest).draws = s.draws := rfl
@[simp] theorem State.withQueue_pending : (s.withQueue rest).pending = rest := rfl
@[simp] theorem State.withQueue_inReset : (s.withQueue rest).inReset = s.inReset := rfl
end withQueue

section enqueue
variable (s : State) (r : RadioIx) (entries : List TxEntry)
@[simp] theorem State.enqueue_stations : (s.enqueue r entries).stations = s.stations := rfl
@[simp] theorem State.enqueue_addressMap : (s.enqueue r entries).addressMap = s.addressMap := rfl
@[simp] theorem State.enqueue_stationCount : (s.enqueue r entries).stationCount = s.stationCount := rfl
@[simp] theorem State.enqueue_holdFree : (s.enqueue r entries).holdFree = s.holdFree := rfl
@[simp] theorem State.enqueue_links : (s.enqueue r entries).links =
    s.links.set r { s.links[r] with queue := s.links[r].queue ++ entries } := rfl
@[simp] theorem State.enqueue_passes : (s.enqueue r entries).passes = s.passes := rfl
@[simp] theorem State.enqueue_passMap : (s.enqueue r entries).passMap = s.passMap := rfl
@[simp] theorem State.enqueue_expirySweep : (s.enqueue r entries).expirySweep = s.expirySweep := rfl
@[simp] theorem State.enqueue_seatMap : (s.enqueue r entries).seatMap = s.seatMap := rfl
@[simp] theorem State.enqueue_zoneSweep : (s.enqueue r entries).zoneSweep = s.zoneSweep := rfl
@[simp] theorem State.enqueue_channels : (s.enqueue r entries).channels = s.channels := rfl
@[simp] theorem State.enqueue_groups : (s.enqueue r entries).groups = s.groups := rfl
@[simp] theorem State.enqueue_offers : (s.enqueue r entries).offers = s.offers := rfl
@[simp] theorem State.enqueue_credit : (s.enqueue r entries).credit = s.credit := rfl
@[simp] theorem State.enqueue_refillsDue : (s.enqueue r entries).refillsDue = s.refillsDue := rfl
@[simp] theorem State.enqueue_sectorTime : (s.enqueue r entries).sectorTime = s.sectorTime := rfl
@[simp] theorem State.enqueue_settings : (s.enqueue r entries).settings = s.settings := rfl
@[simp] theorem State.enqueue_periodInForce : (s.enqueue r entries).periodInForce = s.periodInForce := rfl
@[simp] theorem State.enqueue_nextExpiry : (s.enqueue r entries).nextExpiry = s.nextExpiry := rfl
@[simp] theorem State.enqueue_samplePosition : (s.enqueue r entries).samplePosition = s.samplePosition := rfl
@[simp] theorem State.enqueue_samplesDue : (s.enqueue r entries).samplesDue = s.samplesDue := rfl
@[simp] theorem State.enqueue_phase : (s.enqueue r entries).phase = s.phase := rfl
@[simp] theorem State.enqueue_lanes : (s.enqueue r entries).lanes = s.lanes := rfl
@[simp] theorem State.enqueue_responses : (s.enqueue r entries).responses = s.responses := rfl
@[simp] theorem State.enqueue_notices : (s.enqueue r entries).notices = s.notices := rfl
@[simp] theorem State.enqueue_counters : (s.enqueue r entries).counters = s.counters := rfl
@[simp] theorem State.enqueue_wire : (s.enqueue r entries).wire = s.wire := rfl
@[simp] theorem State.enqueue_draws : (s.enqueue r entries).draws = s.draws := rfl
@[simp] theorem State.enqueue_pending : (s.enqueue r entries).pending = s.pending := rfl
@[simp] theorem State.enqueue_inReset : (s.enqueue r entries).inReset = s.inReset := rfl
end enqueue

section emitTrunk
variable (s : State) (lane : LaneIx) (body : List Byte)
@[simp] theorem State.emitTrunk_stations : (s.emitTrunk lane body).stations = s.stations := rfl
@[simp] theorem State.emitTrunk_addressMap : (s.emitTrunk lane body).addressMap = s.addressMap := rfl
@[simp] theorem State.emitTrunk_stationCount : (s.emitTrunk lane body).stationCount = s.stationCount := rfl
@[simp] theorem State.emitTrunk_holdFree : (s.emitTrunk lane body).holdFree = s.holdFree := rfl
@[simp] theorem State.emitTrunk_links : (s.emitTrunk lane body).links = s.links := rfl
@[simp] theorem State.emitTrunk_passes : (s.emitTrunk lane body).passes = s.passes := rfl
@[simp] theorem State.emitTrunk_passMap : (s.emitTrunk lane body).passMap = s.passMap := rfl
@[simp] theorem State.emitTrunk_expirySweep : (s.emitTrunk lane body).expirySweep = s.expirySweep := rfl
@[simp] theorem State.emitTrunk_seatMap : (s.emitTrunk lane body).seatMap = s.seatMap := rfl
@[simp] theorem State.emitTrunk_zoneSweep : (s.emitTrunk lane body).zoneSweep = s.zoneSweep := rfl
@[simp] theorem State.emitTrunk_channels : (s.emitTrunk lane body).channels = s.channels := rfl
@[simp] theorem State.emitTrunk_groups : (s.emitTrunk lane body).groups = s.groups := rfl
@[simp] theorem State.emitTrunk_offers : (s.emitTrunk lane body).offers = s.offers := rfl
@[simp] theorem State.emitTrunk_credit : (s.emitTrunk lane body).credit = s.credit := rfl
@[simp] theorem State.emitTrunk_refillsDue : (s.emitTrunk lane body).refillsDue = s.refillsDue := rfl
@[simp] theorem State.emitTrunk_sectorTime : (s.emitTrunk lane body).sectorTime = s.sectorTime := rfl
@[simp] theorem State.emitTrunk_settings : (s.emitTrunk lane body).settings = s.settings := rfl
@[simp] theorem State.emitTrunk_periodInForce : (s.emitTrunk lane body).periodInForce = s.periodInForce := rfl
@[simp] theorem State.emitTrunk_nextExpiry : (s.emitTrunk lane body).nextExpiry = s.nextExpiry := rfl
@[simp] theorem State.emitTrunk_samplePosition : (s.emitTrunk lane body).samplePosition = s.samplePosition := rfl
@[simp] theorem State.emitTrunk_samplesDue : (s.emitTrunk lane body).samplesDue = s.samplesDue := rfl
@[simp] theorem State.emitTrunk_phase : (s.emitTrunk lane body).phase = s.phase := rfl
@[simp] theorem State.emitTrunk_lanes : (s.emitTrunk lane body).lanes = s.lanes := rfl
@[simp] theorem State.emitTrunk_responses : (s.emitTrunk lane body).responses = s.responses := rfl
@[simp] theorem State.emitTrunk_notices : (s.emitTrunk lane body).notices = s.notices := rfl
@[simp] theorem State.emitTrunk_counters : (s.emitTrunk lane body).counters = s.counters := rfl
@[simp] theorem State.emitTrunk_wire : (s.emitTrunk lane body).wire =
    s.wire ++ [.trunkFrame (s.lanes[lane].master.getD Config.broadcast) body] := rfl
@[simp] theorem State.emitTrunk_draws : (s.emitTrunk lane body).draws = s.draws := rfl
@[simp] theorem State.emitTrunk_pending : (s.emitTrunk lane body).pending = s.pending := rfl
@[simp] theorem State.emitTrunk_inReset : (s.emitTrunk lane body).inReset = s.inReset := rfl
end emitTrunk

end Sys2Proof.Machine
end

