-- ==== Sys2Proof/Laws/Frame.lean ====
section
/-! SUPPORT. For each shared operation, once, which fields of State it can change: every other field stands. A frame of a larger
operation is put together from the frames of its parts. -/

namespace Sys2Proof.Machine

/-! ### Frames compose -/

variable {s t u : State} {fs gs : List Field}

theorem ChangesOnly.refl (fs : List Field) (s : State) : ChangesOnly fs s s := fun f _ => by cases f <;> rfl

theorem ChangesOnly.trans (h : ChangesOnly fs s t) (k : ChangesOnly fs t u) : ChangesOnly fs s u := fun f hf => by
  have a := h f hf
  have b := k f hf
  revert a b
  cases f <;> exact fun a b => Eq.trans b a

theorem ChangesOnly.mono (h : ChangesOnly fs s t) (sub : fs ⊆ gs) : ChangesOnly gs s t := fun f hf => h f fun hm => hf (sub hm)

/-- A step of a chain of operations, with the fields it changes among those of the whole chain. -/
theorem ChangesOnly.step (h : ChangesOnly gs s t) (k : ChangesOnly fs t u) (sub : fs ⊆ gs := by decide) : ChangesOnly gs s u :=
  h.trans (k.mono sub)

theorem ChangesOnly.le (h : ChangesOnly fs s t) (sub : fs ⊆ gs := by decide) : ChangesOnly gs s t := h.mono sub

theorem ChangesOnly.foldl {α : Type} (f : State → α → State) (h : ∀ s a, ChangesOnly fs s (f s a)) (l : List α) (s : State) :
    ChangesOnly fs s (l.foldl f s) := by
  induction l generalizing s with
  | nil => exact .refl _ _
  | cons a l ih => exact (h s a).trans (ih _)

theorem ChangesOnly.ite {p : Prop} [Decidable p] (h : ChangesOnly fs s t) (k : ChangesOnly fs s u) :
    ChangesOnly fs s (if p then t else u) := by
  split
  · exact h
  · exact k

/-! ### Single updates -/

section
variable (s : State)

theorem setLink_frame (r : RadioIx) (l : SeatLink) : ChangesOnly [.links] s (s.setLink r l) := by
  rintro (_ | _) h <;> first | rfl | simp at h

theorem setStation_frame (ix : Nat) (st : Station) : ChangesOnly [.stations] s (s.setStation ix st) := by
  rintro (_ | _) h <;> first | rfl | simp at h

theorem setPass_frame (slot : Nat) (p : Pass) : ChangesOnly [.passes] s (s.setPass slot p) := by
  rintro (_ | _) h <;> first | rfl | simp at h

theorem setLane_frame (lane : LaneIx) (l : Lane) : ChangesOnly [.lanes] s (s.setLane lane l) := by
  rintro (_ | _) h <;> first | rfl | simp at h

theorem raiseCount_frame (r : RadioIx) : ChangesOnly [.stationCount] s (s.raiseCount r) := by
  rintro (_ | _) h <;> first | rfl | simp at h

theorem lowerCount_frame (r : RadioIx) : ChangesOnly [.stationCount] s (s.lowerCount r) := by
  rintro (_ | _) h <;> first | rfl | simp at h

theorem emit_frame (o : Output) : ChangesOnly [.wire] s (s.emit o) := by
  rintro (_ | _) h <;> first | rfl | simp at h

theorem note_frame (src : Source) : ChangesOnly [.notices] s (s.note src) := by
  rintro (_ | _) h <;> first | rfl | simp at h

theorem addTo_frame (c : Counter) (n : Nat) : ChangesOnly [.counters] s (s.addTo c n) := by
  rintro (_ | _) h <;> first | rfl | simp at h

theorem count_frame (c : Counter) : ChangesOnly [.counters] s (s.count c) := addTo_frame s c 1

theorem zero_frame (cs : List Counter) : ChangesOnly [.counters] s (s.zero cs) := by
  rintro (_ | _) h <;> first | rfl | simp at h

theorem setCredit_frame (r : RadioIx) (c : Int) : ChangesOnly [.credit] s (s.setCredit r c) := by
  rintro (_ | _) h <;> first | rfl | simp at h

theorem setChannel_frame (c : ChannelIx) (ch : Channel) : ChangesOnly [.channels] s (s.setChannel c ch) := by
  rintro (_ | _) h <;> first | rfl | simp at h

theorem setNotice_frame (lane : LaneIx) (n : Notice) : ChangesOnly [.notices] s (s.setNotice lane n) := by
  rintro (_ | _) h <;> first | rfl | simp at h

theorem returnBuffers_frame (n : Nat) : ChangesOnly [.holdFree] s (s.returnBuffers n) := by
  rintro (_ | _) h <;> first | rfl | simp at h

theorem enqueue_frame (r : RadioIx) (entries : List TxEntry) : ChangesOnly [.links] s (s.enqueue r entries) := setLink_frame s r _

theorem emitTrunk_frame (lane : LaneIx) (body : List Byte) : ChangesOnly [.wire] s (s.emitTrunk lane body) := emit_frame s _

/-! ### Lines, responses and messages -/

theorem driveLine_frame (lane : LaneIx) (up : Bool) : ChangesOnly noticeFields s (s.driveLine lane up) := by
  have h0 : ChangesOnly noticeFields s { s with notices := s.notices.set lane { s.notices[lane] with lineUp := up } } :=
    (setNotice_frame s lane _).le
  unfold State.driveLine
  dsimp only
  split
  · exact h0
  · split
    · split
      · exact ((h0.step (emitTrunk_frame _ _ _)).step (count_frame _ _)).step (setLane_frame _ _ _)
      · exact h0
    · exact h0.step (setLane_frame _ _ _)

theorem evaluateLine_frame (before : Vector Notice 4) (lane : LaneIx) :
    ChangesOnly noticeFields s (State.evaluateLine before s lane) := by
  unfold State.evaluateLine
  exact .ite (.refl _ _) (.ite (.refl _ _) (driveLine_frame s _ _))

theorem settle_frame (before : Vector Notice 4) : ChangesOnly noticeFields s (s.settle before) :=
  .foldl _ (fun s lane => evaluateLine_frame s before lane) _ s

theorem inject_frame (r : RadioIx) (l : SeatLink) (kind : FaultKind) (m : ControlOut) :
    ChangesOnly sendFields s (s.inject r l kind m) := by
  cases kind with
  | corruptCrc =>
    have h := (((emit_frame s (.control r (m.damaged l.txSequence s.draws))).le (gs := sendFields)).step
      (setLink_frame _ r { l with txSequence := l.txSequence + 1 }))
    refine h.step (fs := [.draws]) ?_
    rintro (_ | _) h <;> first | rfl | simp at h
  | skipSequence => exact ((emit_frame s _).le (gs := sendFields)).step (setLink_frame _ _ _)
  | dropMessage => exact (setLink_frame s _ _).le

theorem transmit_frame (r : RadioIx) (l : SeatLink) (m : ControlOut) : ChangesOnly sendFields s (s.transmit r l m) :=
  ((emit_frame s _).le (gs := sendFields)).step (setLink_frame _ _ _)

theorem send_frame (r : RadioIx) (m : ControlOut) : ChangesOnly sendFields s (s.send r m) := by
  unfold State.send
  dsimp only
  split
  · split
    · exact (transmit_frame s _ _ _).step (count_frame _ _)
    · split
      · exact ((inject_frame s _ _ _ _).step (count_frame _ _)).step (count_frame _ _)
      · exact (transmit_frame s _ _ _).step (count_frame _ _)
  · exact (count_frame s _).le

theorem sendAdmit_frame (r : RadioIx) (ix : Nat) : ChangesOnly sendFields s (s.sendAdmit r ix) := by
  unfold State.sendAdmit
  split
  · exact .refl _ _
  · exact send_frame s _ _

theorem respond_frame (lane : LaneIx) (r : Response) : ChangesOnly [.responses, .counters, .wire] s (s.respond lane r) := by
  unfold State.respond
  split
  · split
    · rintro (_ | _) h <;> first | rfl | simp at h
    · exact (count_frame s _).le
  · exact ((emitTrunk_frame s _ _).le (gs := [.responses, .counters, .wire])).step (count_frame _ _)

theorem arrive_frame (lane : LaneIx) (q : Request) : ChangesOnly serviceFields s (s.arrive lane q) := by
  have h0 : ChangesOnly serviceFields s (s.count (.lane lane .requestsReceived)) := (count_frame s _).le
  unfold State.arrive
  dsimp only
  split
  · exact h0.step (setLane_frame _ _ _)
  · exact ((h0.step (count_frame _ _)).step (note_frame _ _)).step (respond_frame _ _ _)

/-! ### Groups -/

theorem discardGroup_frame (r : RadioIx) (c : ChannelIx) :
    ChangesOnly [.groups, .offers, .counters] s (s.discardGroup r c) := by
  rintro (_ | _) h <;> first | rfl | simp at h

theorem joinGroup_frame (r : RadioIx) (c : ChannelIx) (ix : Nat) :
    ChangesOnly [.groups, .counters] s (s.joinGroup r c ix) := by
  unfold State.joinGroup
  split <;> (rintro (_ | _) h <;> first | rfl | simp at h)

theorem leaveGroup_frame (r : RadioIx) (c : ChannelIx) (ix : Nat) :
    ChangesOnly [.groups, .offers, .counters] s (s.leaveGroup r c ix) := by
  unfold State.leaveGroup
  split
  · exact .refl _ _
  · split
    · exact discardGroup_frame s r c
    · rintro (_ | _) h <;> first | rfl | simp at h

theorem leaveGroups_frame (r : Option RadioIx) (entries : List Subscription) (ix : Nat) :
    ChangesOnly [.groups, .offers, .counters] s (s.leaveGroups r entries ix) := by
  unfold State.leaveGroups
  split
  · exact .refl _ _
  · exact .foldl _ (fun s _ => leaveGroup_frame s _ _ _) _ s

theorem joinGroups_frame (r : RadioIx) (entries : List Subscription) (ix : Nat) :
    ChangesOnly [.groups, .counters] s (s.joinGroups r entries ix) :=
  .foldl _ (fun s _ => joinGroup_frame s _ _ _) _ s

theorem discardGroups_frame (r : RadioIx) : ChangesOnly [.groups, .offers, .counters] s (s.discardGroups r) :=
  .foldl _ (fun s c => .ite (discardGroup_frame s r c) (.refl _ _)) _ s

/-! ### Bindings -/

theorem prune_frame (ix : Nat) : ChangesOnly [.stations, .groups, .offers, .counters] s (s.prune ix) := by
  unfold State.prune
  split
  · exact .refl _ _
  · exact (((setStation_frame s _ _).le (gs := [.stations, .groups, .offers, .counters])).step (leaveGroups_frame _ _ _ _)).step
      (addTo_frame _ _ _)

theorem repause_frame (ix : Nat) : ChangesOnly [.stations] s (s.repause ix) := by
  unfold State.repause
  split
  · exact .refl _ _
  · exact setStation_frame s _ _

theorem shrinkHold_frame (ix : Nat) : ChangesOnly [.stations, .holdFree, .counters] s (s.shrinkHold ix) := by
  unfold State.shrinkHold
  split
  · exact .refl _ _
  · split
    · rintro (_ | _) h <;> first | rfl | simp at h
    · exact .refl _ _

theorem dropBound_frame (slot ix : Nat) : ChangesOnly [.passes] s (s.dropBound slot ix) := by
  unfold State.dropBound
  split
  · exact .refl _ _
  · exact setPass_frame s _ _

theorem setBinding_frame (ix : Nat) (b : Option Binding) : ChangesOnly [.stations] s (s.setBinding ix b) := by
  unfold State.setBinding
  split
  · exact .refl _ _
  · exact setStation_frame s _ _

/-- Unbinding reaches the station, its pass, its groups with their offers, its hold queue, and counters (R99). -/
theorem unbind_frame (slot ix : Nat) : ChangesOnly (.counters :: unbindFields) s (s.unbind slot ix) :=
  ((((((dropBound_frame s slot ix).le (gs := .counters :: unbindFields)).step (setBinding_frame _ _ _)).step
    (prune_frame _ _)).step (repause_frame _ _)).step (shrinkHold_frame _ _)).step (count_frame _ _)

theorem unbindAll_frame (slot : Nat) (stations : List Nat) :
    ChangesOnly (.counters :: unbindFields) s (s.unbindAll slot stations) :=
  .foldl _ (fun s ix => unbind_frame s slot ix) _ s

theorem endPass_frame (slot : Nat) (p : Pass) (state : PassState) :
    ChangesOnly (.counters :: unbindFields) s (s.endPass slot p state) :=
  ((setPass_frame s _ _).le (gs := .counters :: unbindFields)).step (unbindAll_frame _ _ _)

theorem expireDirectly_frame (slot : Nat) (p : Pass) : ChangesOnly (.counters :: unbindFields) s (s.expireDirectly slot p) :=
  (endPass_frame s slot p .expired).step (count_frame _ _)

theorem loadBinding_frame (slot : Nat) (p : Pass) (ix : Nat) : ChangesOnly [.stations] s (s.loadBinding slot p ix) :=
  (setBinding_frame s _ _).trans (repause_frame _ _)

theorem reload_frame (slot : Nat) (p : Pass) (ix : Nat) :
    ChangesOnly [.stations, .holdFree, .groups, .offers, .counters] s (s.reload slot p ix) :=
  (((((setBinding_frame s ix _).le (gs := [.stations, .holdFree, .groups, .offers, .counters])).step (prune_frame _ _)).step
    (repause_frame _ _)).step (shrinkHold_frame _ _)).step (count_frame _ _)

/-! ### Stations -/

theorem flush_frame (r : RadioIx) (held : List FanFrame) : ChangesOnly [.links, .counters, .holdFree] s (s.flush r held) :=
  ((((enqueue_frame s r _).le (gs := [.links, .counters, .holdFree])).step (addTo_frame _ _ _)).step (addTo_frame _ _ _)).step
    (returnBuffers_frame _ _)

theorem discardHeld_frame (held : List FanFrame) : ChangesOnly [.counters, .holdFree] s (s.discardHeld held) :=
  ((returnBuffers_frame s _).le (gs := [.counters, .holdFree])).step (addTo_frame _ _ _)

theorem lowerCounts_frame (place : Place) : ChangesOnly [.stationCount] s (s.lowerCounts place) := by
  unfold State.lowerCounts
  split
  · exact lowerCount_frame s _
  · exact .ite (lowerCount_frame s _) ((lowerCount_frame s _).trans (lowerCount_frame _ _))
  · exact .refl _ _

theorem endSubscriptions_frame (ix : Nat) :
    ChangesOnly [.stations, .groups, .offers, .counters] s (s.endSubscriptions ix) := by
  unfold State.endSubscriptions
  split
  · exact .refl _ _
  · exact ((setStation_frame s _ _).le (gs := [.stations, .groups, .offers, .counters])).step (leaveGroups_frame _ _ _ _)

theorem unbindStation_frame (ix : Nat) (st : Station) :
    ChangesOnly (.counters :: unbindFields) s (s.unbindStation ix st) := by
  unfold State.unbindStation
  split
  · exact .refl _ _
  · exact unbind_frame s _ _

theorem discardHold_frame (ix : Nat) : ChangesOnly [.counters, .holdFree] s (s.discardHold ix) := by
  unfold State.discardHold
  split
  · exact .refl _ _
  · exact discardHeld_frame s _

/-- Freeing a station reaches its context, its address, its radios' counts, its pass, its groups and its hold queue (R13). -/
theorem free_frame (ix : Nat) (st : Station) : ChangesOnly (.counters :: freeFields) s (s.free ix st) := by
  have h : ChangesOnly (.counters :: freeFields) s (((s.unbindStation ix st).endSubscriptions ix).discardHold ix) :=
    (((unbindStation_frame s ix st).le (gs := .counters :: freeFields)).step (endSubscriptions_frame _ _)).step
      (discardHold_frame _ _)
  unfold State.free
  dsimp only
  refine ChangesOnly.step ?_ (count_frame _ _)
  generalize ((s.unbindStation ix st).endSubscriptions ix).discardHold ix = t at h
  have h1 : ChangesOnly (.counters :: freeFields) s { t with addressMap := t.addressMap.drop st.device.toNat } :=
    h.step (fs := [.addressMap]) (by rintro (_ | _) h <;> first | rfl | simp at h)
  refine (h1.step (lowerCounts_frame _ st.place)).step (fs := [.stations]) ?_
  rintro (_ | _) h <;> first | rfl | simp at h

theorem orphan_frame (ix : Nat) (st : Station) :
    ChangesOnly [.stations, .groups, .offers, .counters] s (s.orphan ix st) :=
  (((setStation_frame s _ _).le (gs := [.stations, .groups, .offers, .counters])).step (leaveGroups_frame _ _ _ _)).step
    (count_frame _ _)

/-- The completion of a handoff reaches the station, the old radio's count, both radios' groups, the hold pool, the new radio's queue
and its messages (R51). -/
theorem complete_frame (ix : Nat) (st : Station) (o n : RadioIx) (held : List FanFrame) :
    ChangesOnly exitFields s (s.complete ix st o n held) :=
  (((((((((setStation_frame s ix _).le (gs := exitFields)).step (lowerCount_frame _ _)).step (sendAdmit_frame _ _ _)).step
    (flush_frame _ _ _)).step (leaveGroups_frame _ _ _ _)).step (joinGroups_frame _ _ _ _)).step (addTo_frame _ _ _)).step
    (repause_frame _ _)).step (count_frame _ _)

theorem force_frame (ix : Nat) (st : Station) (o n : RadioIx) (held : List FanFrame) (withDrop : Bool) :
    ChangesOnly exitFields s (s.force ix st o n held withDrop) := by
  unfold State.force
  refine ((ChangesOnly.step ?_ (complete_frame _ _ _ _ _ _)).step (count_frame _ _)).step (note_frame _ _)
  split
  · exact (send_frame s _ _).le
  · exact .refl _ _

theorem abandonToOld_frame (ix : Nat) (st : Station) (o n : RadioIx) (p : Option Prior) (held : List FanFrame) :
    ChangesOnly exitFields s (s.abandonToOld ix st o n p held) :=
  (((((setStation_frame s ix _).le (gs := exitFields)).step (lowerCount_frame _ _)).step (flush_frame _ _ _)).step
    (sendAdmit_frame _ _ _)).step (count_frame _ _)

theorem endReturn_frame (ix : Nat) (st : Station) (o : RadioIx) (p : Option Prior) (held : List FanFrame) :
    ChangesOnly exitFields s (s.endReturn ix st o p held) :=
  ((((setStation_frame s ix _).le (gs := exitFields)).step (sendAdmit_frame _ _ _)).step (flush_frame _ _ _)).step
    (count_frame _ _)

theorem abandonToOrphan_frame (ix : Nat) (st : Station) (held : List FanFrame) :
    ChangesOnly exitFields s (s.abandonToOrphan ix st held) :=
  ((((orphan_frame s ix st).le (gs := exitFields)).step (lowerCounts_frame _ _)).step (discardHeld_frame _ _)).step
    (count_frame _ _)

/-! ### Seat links -/

theorem exitStation_frame (r : RadioIx) (ix : Nat) : ChangesOnly exitFields s (State.exitStation r s ix) := by
  unfold State.exitStation
  split
  · exact .refl _ _
  · split
    · exact .ite (((orphan_frame s _ _).le (gs := exitFields)).step (lowerCount_frame _ _)) (.refl _ _)
    · exact .ite (force_frame s _ _ _ _ _ _) (.ite (abandonToOld_frame s _ _ _ _ _ _)
        (.ite ((((orphan_frame s _ _).le (gs := exitFields)).step (lowerCounts_frame _ _)).step (discardHeld_frame _ _))
          (.refl _ _)))
    · exact .refl _ _

/-- The exit of a link from UP reaches what its stations, its queue and its groups hold, and what it sends and notices (R29). -/
theorem exitUp_frame (r : RadioIx) : ChangesOnly exitFields s (s.exitUp r) := by
  have h : ChangesOnly exitFields s (((s.note .linkDown).count (.link r .linkDownExits)).discardQueue r) :=
    ((((note_frame s _).le (gs := exitFields)).step (count_frame _ _)).step (setLink_frame _ _ _)).step (addTo_frame _ _ _)
  unfold State.exitUp
  dsimp only
  generalize ((s.note .linkDown).count (.link r .linkDownExits)).discardQueue r = t at h
  have h1 : ChangesOnly exitFields s { t with draws := t.draws + 1 } :=
    h.step (fs := [.draws]) (by rintro (_ | _) h <;> first | rfl | simp at h)
  exact (h1.trans (.foldl _ (fun s ix => exitStation_frame s r ix) _ _)).step (discardGroups_frame _ _)

theorem checkSequence_frame (r : RadioIx) (sequence : Byte) :
    ChangesOnly [.links, .counters, .notices] s (s.checkSequence r sequence) := by
  unfold State.checkSequence
  dsimp only
  have h : ChangesOnly [.links, .counters, .notices] s (s.setLink r { s.links[r] with rxSequence := sequence + 1 }) :=
    (setLink_frame s _ _).le
  exact .ite h ((h.step (count_frame _ _)).step (note_frame _ _))

/-! ### Replay -/

theorem deliver_frame (r : RadioIx) (c : ChannelIx) (d : Delivery) : ChangesOnly [.groups] s (s.deliver r c d) := by
  unfold State.deliver
  split
  · exact .refl _ _
  · rintro (_ | _) h <;> first | rfl | simp at h

theorem clearAwaiting_frame (c : ChannelIx) (ix : Nat) : ChangesOnly [.stations] s (State.clearAwaiting c s ix) := by
  unfold State.clearAwaiting
  split
  · exact .refl _ _
  · exact setStation_frame s _ _

theorem sendCopies_frame (r : RadioIx) (c : ChannelIx) (p : Packet) (dest : List Recipient) (credit : Int) :
    ChangesOnly [.credit, .links, .groups, .stations, .counters] s (s.sendCopies r c p dest credit) := by
  have h0 : ChangesOnly [.credit, .links, .groups, .stations, .counters] s
      ((s.setCredit r credit).enqueue r (copies c p s.links[r].profile.bias dest)) :=
    ((setCredit_frame s _ _).le (gs := [.credit, .links, .groups, .stations, .counters])).step (enqueue_frame _ _ _)
  have h1 : ChangesOnly [.credit, .links, .groups, .stations, .counters] s
      (((s.setCredit r credit).enqueue r (copies c p s.links[r].profile.bias dest)).afterSend r c p.cls dest) := by
    unfold State.afterSend
    split
    · exact h0
    · exact (h0.step (deliver_frame _ _ _ _)).step (.foldl _ (fun s ix => clearAwaiting_frame s c ix) _ _)
  unfold State.sendCopies
  dsimp only
  exact ((ChangesOnly.ite h1 (h1.step (count_frame _ _))).step (addTo_frame _ _ _)).step (count_frame _ _) |>.step
    (addTo_frame _ _ _)

end

end Sys2Proof.Machine
end

