-- ==== Sys2Proof/Laws/Fields.lean ====
section
/-! SUPPORT. The fields that each of the longer shared operations leaves, one lemma each, from its frame. -/

namespace Sys2Proof.Machine

section settle
variable (s : State) (before : Vector Notice 4)
@[simp] theorem settle_stations : (s.settle before).stations = s.stations := settle_frame s before .stations (by decide)
@[simp] theorem settle_addressMap : (s.settle before).addressMap = s.addressMap := settle_frame s before .addressMap (by decide)
@[simp] theorem settle_stationCount : (s.settle before).stationCount = s.stationCount := settle_frame s before .stationCount (by decide)
@[simp] theorem settle_holdFree : (s.settle before).holdFree = s.holdFree := settle_frame s before .holdFree (by decide)
@[simp] theorem settle_links : (s.settle before).links = s.links := settle_frame s before .links (by decide)
@[simp] theorem settle_passes : (s.settle before).passes = s.passes := settle_frame s before .passes (by decide)
@[simp] theorem settle_passMap : (s.settle before).passMap = s.passMap := settle_frame s before .passMap (by decide)
@[simp] theorem settle_expirySweep : (s.settle before).expirySweep = s.expirySweep := settle_frame s before .expirySweep (by decide)
@[simp] theorem settle_seatMap : (s.settle before).seatMap = s.seatMap := settle_frame s before .seatMap (by decide)
@[simp] theorem settle_zoneSweep : (s.settle before).zoneSweep = s.zoneSweep := settle_frame s before .zoneSweep (by decide)
@[simp] theorem settle_channels : (s.settle before).channels = s.channels := settle_frame s before .channels (by decide)
@[simp] theorem settle_groups : (s.settle before).groups = s.groups := settle_frame s before .groups (by decide)
@[simp] theorem settle_offers : (s.settle before).offers = s.offers := settle_frame s before .offers (by decide)
@[simp] theorem settle_credit : (s.settle before).credit = s.credit := settle_frame s before .credit (by decide)
@[simp] theorem settle_refillsDue : (s.settle before).refillsDue = s.refillsDue := settle_frame s before .refillsDue (by decide)
@[simp] theorem settle_sectorTime : (s.settle before).sectorTime = s.sectorTime := settle_frame s before .sectorTime (by decide)
@[simp] theorem settle_settings : (s.settle before).settings = s.settings := settle_frame s before .settings (by decide)
@[simp] theorem settle_periodInForce : (s.settle before).periodInForce = s.periodInForce := settle_frame s before .periodInForce (by decide)
@[simp] theorem settle_nextExpiry : (s.settle before).nextExpiry = s.nextExpiry := settle_frame s before .nextExpiry (by decide)
@[simp] theorem settle_samplePosition : (s.settle before).samplePosition = s.samplePosition := settle_frame s before .samplePosition (by decide)
@[simp] theorem settle_samplesDue : (s.settle before).samplesDue = s.samplesDue := settle_frame s before .samplesDue (by decide)
@[simp] theorem settle_phase : (s.settle before).phase = s.phase := settle_frame s before .phase (by decide)
@[simp] theorem settle_responses : (s.settle before).responses = s.responses := settle_frame s before .responses (by decide)
@[simp] theorem settle_draws : (s.settle before).draws = s.draws := settle_frame s before .draws (by decide)
@[simp] theorem settle_pending : (s.settle before).pending = s.pending := settle_frame s before .pending (by decide)
@[simp] theorem settle_inReset : (s.settle before).inReset = s.inReset := settle_frame s before .inReset (by decide)
end settle

section send
variable (s : State) (r : RadioIx) (m : ControlOut)
@[simp] theorem send_stations : (s.send r m).stations = s.stations := send_frame s r m .stations (by decide)
@[simp] theorem send_addressMap : (s.send r m).addressMap = s.addressMap := send_frame s r m .addressMap (by decide)
@[simp] theorem send_stationCount : (s.send r m).stationCount = s.stationCount := send_frame s r m .stationCount (by decide)
@[simp] theorem send_holdFree : (s.send r m).holdFree = s.holdFree := send_frame s r m .holdFree (by decide)
@[simp] theorem send_passes : (s.send r m).passes = s.passes := send_frame s r m .passes (by decide)
@[simp] theorem send_passMap : (s.send r m).passMap = s.passMap := send_frame s r m .passMap (by decide)
@[simp] theorem send_expirySweep : (s.send r m).expirySweep = s.expirySweep := send_frame s r m .expirySweep (by decide)
@[simp] theorem send_seatMap : (s.send r m).seatMap = s.seatMap := send_frame s r m .seatMap (by decide)
@[simp] theorem send_zoneSweep : (s.send r m).zoneSweep = s.zoneSweep := send_frame s r m .zoneSweep (by decide)
@[simp] theorem send_channels : (s.send r m).channels = s.channels := send_frame s r m .channels (by decide)
@[simp] theorem send_groups : (s.send r m).groups = s.groups := send_frame s r m .groups (by decide)
@[simp] theorem send_offers : (s.send r m).offers = s.offers := send_frame s r m .offers (by decide)
@[simp] theorem send_credit : (s.send r m).credit = s.credit := send_frame s r m .credit (by decide)
@[simp] theorem send_refillsDue : (s.send r m).refillsDue = s.refillsDue := send_frame s r m .refillsDue (by decide)
@[simp] theorem send_sectorTime : (s.send r m).sectorTime = s.sectorTime := send_frame s r m .sectorTime (by decide)
@[simp] theorem send_settings : (s.send r m).settings = s.settings := send_frame s r m .settings (by decide)
@[simp] theorem send_periodInForce : (s.send r m).periodInForce = s.periodInForce := send_frame s r m .periodInForce (by decide)
@[simp] theorem send_nextExpiry : (s.send r m).nextExpiry = s.nextExpiry := send_frame s r m .nextExpiry (by decide)
@[simp] theorem send_samplePosition : (s.send r m).samplePosition = s.samplePosition := send_frame s r m .samplePosition (by decide)
@[simp] theorem send_samplesDue : (s.send r m).samplesDue = s.samplesDue := send_frame s r m .samplesDue (by decide)
@[simp] theorem send_phase : (s.send r m).phase = s.phase := send_frame s r m .phase (by decide)
@[simp] theorem send_lanes : (s.send r m).lanes = s.lanes := send_frame s r m .lanes (by decide)
@[simp] theorem send_responses : (s.send r m).responses = s.responses := send_frame s r m .responses (by decide)
@[simp] theorem send_notices : (s.send r m).notices = s.notices := send_frame s r m .notices (by decide)
@[simp] theorem send_pending : (s.send r m).pending = s.pending := send_frame s r m .pending (by decide)
@[simp] theorem send_inReset : (s.send r m).inReset = s.inReset := send_frame s r m .inReset (by decide)
end send

section sendAdmit
variable (s : State) (r : RadioIx) (ix : Nat)
@[simp] theorem sendAdmit_stations : (s.sendAdmit r ix).stations = s.stations := sendAdmit_frame s r ix .stations (by decide)
@[simp] theorem sendAdmit_addressMap : (s.sendAdmit r ix).addressMap = s.addressMap := sendAdmit_frame s r ix .addressMap (by decide)
@[simp] theorem sendAdmit_stationCount : (s.sendAdmit r ix).stationCount = s.stationCount := sendAdmit_frame s r ix .stationCount (by decide)
@[simp] theorem sendAdmit_holdFree : (s.sendAdmit r ix).holdFree = s.holdFree := sendAdmit_frame s r ix .holdFree (by decide)
@[simp] theorem sendAdmit_passes : (s.sendAdmit r ix).passes = s.passes := sendAdmit_frame s r ix .passes (by decide)
@[simp] theorem sendAdmit_passMap : (s.sendAdmit r ix).passMap = s.passMap := sendAdmit_frame s r ix .passMap (by decide)
@[simp] theorem sendAdmit_expirySweep : (s.sendAdmit r ix).expirySweep = s.expirySweep := sendAdmit_frame s r ix .expirySweep (by decide)
@[simp] theorem sendAdmit_seatMap : (s.sendAdmit r ix).seatMap = s.seatMap := sendAdmit_frame s r ix .seatMap (by decide)
@[simp] theorem sendAdmit_zoneSweep : (s.sendAdmit r ix).zoneSweep = s.zoneSweep := sendAdmit_frame s r ix .zoneSweep (by decide)
@[simp] theorem sendAdmit_channels : (s.sendAdmit r ix).channels = s.channels := sendAdmit_frame s r ix .channels (by decide)
@[simp] theorem sendAdmit_groups : (s.sendAdmit r ix).groups = s.groups := sendAdmit_frame s r ix .groups (by decide)
@[simp] theorem sendAdmit_offers : (s.sendAdmit r ix).offers = s.offers := sendAdmit_frame s r ix .offers (by decide)
@[simp] theorem sendAdmit_credit : (s.sendAdmit r ix).credit = s.credit := sendAdmit_frame s r ix .credit (by decide)
@[simp] theorem sendAdmit_refillsDue : (s.sendAdmit r ix).refillsDue = s.refillsDue := sendAdmit_frame s r ix .refillsDue (by decide)
@[simp] theorem sendAdmit_sectorTime : (s.sendAdmit r ix).sectorTime = s.sectorTime := sendAdmit_frame s r ix .sectorTime (by decide)
@[simp] theorem sendAdmit_settings : (s.sendAdmit r ix).settings = s.settings := sendAdmit_frame s r ix .settings (by decide)
@[simp] theorem sendAdmit_periodInForce : (s.sendAdmit r ix).periodInForce = s.periodInForce := sendAdmit_frame s r ix .periodInForce (by decide)
@[simp] theorem sendAdmit_nextExpiry : (s.sendAdmit r ix).nextExpiry = s.nextExpiry := sendAdmit_frame s r ix .nextExpiry (by decide)
@[simp] theorem sendAdmit_samplePosition : (s.sendAdmit r ix).samplePosition = s.samplePosition := sendAdmit_frame s r ix .samplePosition (by decide)
@[simp] theorem sendAdmit_samplesDue : (s.sendAdmit r ix).samplesDue = s.samplesDue := sendAdmit_frame s r ix .samplesDue (by decide)
@[simp] theorem sendAdmit_phase : (s.sendAdmit r ix).phase = s.phase := sendAdmit_frame s r ix .phase (by decide)
@[simp] theorem sendAdmit_lanes : (s.sendAdmit r ix).lanes = s.lanes := sendAdmit_frame s r ix .lanes (by decide)
@[simp] theorem sendAdmit_responses : (s.sendAdmit r ix).responses = s.responses := sendAdmit_frame s r ix .responses (by decide)
@[simp] theorem sendAdmit_notices : (s.sendAdmit r ix).notices = s.notices := sendAdmit_frame s r ix .notices (by decide)
@[simp] theorem sendAdmit_pending : (s.sendAdmit r ix).pending = s.pending := sendAdmit_frame s r ix .pending (by decide)
@[simp] theorem sendAdmit_inReset : (s.sendAdmit r ix).inReset = s.inReset := sendAdmit_frame s r ix .inReset (by decide)
end sendAdmit

section respond
variable (s : State) (lane : LaneIx) (x : Response)
@[simp] theorem respond_stations : (s.respond lane x).stations = s.stations := respond_frame s lane x .stations (by decide)
@[simp] theorem respond_addressMap : (s.respond lane x).addressMap = s.addressMap := respond_frame s lane x .addressMap (by decide)
@[simp] theorem respond_stationCount : (s.respond lane x).stationCount = s.stationCount := respond_frame s lane x .stationCount (by decide)
@[simp] theorem respond_holdFree : (s.respond lane x).holdFree = s.holdFree := respond_frame s lane x .holdFree (by decide)
@[simp] theorem respond_links : (s.respond lane x).links = s.links := respond_frame s lane x .links (by decide)
@[simp] theorem respond_passes : (s.respond lane x).passes = s.passes := respond_frame s lane x .passes (by decide)
@[simp] theorem respond_passMap : (s.respond lane x).passMap = s.passMap := respond_frame s lane x .passMap (by decide)
@[simp] theorem respond_expirySweep : (s.respond lane x).expirySweep = s.expirySweep := respond_frame s lane x .expirySweep (by decide)
@[simp] theorem respond_seatMap : (s.respond lane x).seatMap = s.seatMap := respond_frame s lane x .seatMap (by decide)
@[simp] theorem respond_zoneSweep : (s.respond lane x).zoneSweep = s.zoneSweep := respond_frame s lane x .zoneSweep (by decide)
@[simp] theorem respond_channels : (s.respond lane x).channels = s.channels := respond_frame s lane x .channels (by decide)
@[simp] theorem respond_groups : (s.respond lane x).groups = s.groups := respond_frame s lane x .groups (by decide)
@[simp] theorem respond_offers : (s.respond lane x).offers = s.offers := respond_frame s lane x .offers (by decide)
@[simp] theorem respond_credit : (s.respond lane x).credit = s.credit := respond_frame s lane x .credit (by decide)
@[simp] theorem respond_refillsDue : (s.respond lane x).refillsDue = s.refillsDue := respond_frame s lane x .refillsDue (by decide)
@[simp] theorem respond_sectorTime : (s.respond lane x).sectorTime = s.sectorTime := respond_frame s lane x .sectorTime (by decide)
@[simp] theorem respond_settings : (s.respond lane x).settings = s.settings := respond_frame s lane x .settings (by decide)
@[simp] theorem respond_periodInForce : (s.respond lane x).periodInForce = s.periodInForce := respond_frame s lane x .periodInForce (by decide)
@[simp] theorem respond_nextExpiry : (s.respond lane x).nextExpiry = s.nextExpiry := respond_frame s lane x .nextExpiry (by decide)
@[simp] theorem respond_samplePosition : (s.respond lane x).samplePosition = s.samplePosition := respond_frame s lane x .samplePosition (by decide)
@[simp] theorem respond_samplesDue : (s.respond lane x).samplesDue = s.samplesDue := respond_frame s lane x .samplesDue (by decide)
@[simp] theorem respond_phase : (s.respond lane x).phase = s.phase := respond_frame s lane x .phase (by decide)
@[simp] theorem respond_lanes : (s.respond lane x).lanes = s.lanes := respond_frame s lane x .lanes (by decide)
@[simp] theorem respond_notices : (s.respond lane x).notices = s.notices := respond_frame s lane x .notices (by decide)
@[simp] theorem respond_draws : (s.respond lane x).draws = s.draws := respond_frame s lane x .draws (by decide)
@[simp] theorem respond_pending : (s.respond lane x).pending = s.pending := respond_frame s lane x .pending (by decide)
@[simp] theorem respond_inReset : (s.respond lane x).inReset = s.inReset := respond_frame s lane x .inReset (by decide)
end respond

section flush
variable (s : State) (r : RadioIx) (held : List FanFrame)
@[simp] theorem flush_stations : (s.flush r held).stations = s.stations := flush_frame s r held .stations (by decide)
@[simp] theorem flush_addressMap : (s.flush r held).addressMap = s.addressMap := flush_frame s r held .addressMap (by decide)
@[simp] theorem flush_stationCount : (s.flush r held).stationCount = s.stationCount := flush_frame s r held .stationCount (by decide)
@[simp] theorem flush_passes : (s.flush r held).passes = s.passes := flush_frame s r held .passes (by decide)
@[simp] theorem flush_passMap : (s.flush r held).passMap = s.passMap := flush_frame s r held .passMap (by decide)
@[simp] theorem flush_expirySweep : (s.flush r held).expirySweep = s.expirySweep := flush_frame s r held .expirySweep (by decide)
@[simp] theorem flush_seatMap : (s.flush r held).seatMap = s.seatMap := flush_frame s r held .seatMap (by decide)
@[simp] theorem flush_zoneSweep : (s.flush r held).zoneSweep = s.zoneSweep := flush_frame s r held .zoneSweep (by decide)
@[simp] theorem flush_channels : (s.flush r held).channels = s.channels := flush_frame s r held .channels (by decide)
@[simp] theorem flush_groups : (s.flush r held).groups = s.groups := flush_frame s r held .groups (by decide)
@[simp] theorem flush_offers : (s.flush r held).offers = s.offers := flush_frame s r held .offers (by decide)
@[simp] theorem flush_credit : (s.flush r held).credit = s.credit := flush_frame s r held .credit (by decide)
@[simp] theorem flush_refillsDue : (s.flush r held).refillsDue = s.refillsDue := flush_frame s r held .refillsDue (by decide)
@[simp] theorem flush_sectorTime : (s.flush r held).sectorTime = s.sectorTime := flush_frame s r held .sectorTime (by decide)
@[simp] theorem flush_settings : (s.flush r held).settings = s.settings := flush_frame s r held .settings (by decide)
@[simp] theorem flush_periodInForce : (s.flush r held).periodInForce = s.periodInForce := flush_frame s r held .periodInForce (by decide)
@[simp] theorem flush_nextExpiry : (s.flush r held).nextExpiry = s.nextExpiry := flush_frame s r held .nextExpiry (by decide)
@[simp] theorem flush_samplePosition : (s.flush r held).samplePosition = s.samplePosition := flush_frame s r held .samplePosition (by decide)
@[simp] theorem flush_samplesDue : (s.flush r held).samplesDue = s.samplesDue := flush_frame s r held .samplesDue (by decide)
@[simp] theorem flush_phase : (s.flush r held).phase = s.phase := flush_frame s r held .phase (by decide)
@[simp] theorem flush_lanes : (s.flush r held).lanes = s.lanes := flush_frame s r held .lanes (by decide)
@[simp] theorem flush_responses : (s.flush r held).responses = s.responses := flush_frame s r held .responses (by decide)
@[simp] theorem flush_notices : (s.flush r held).notices = s.notices := flush_frame s r held .notices (by decide)
@[simp] theorem flush_wire : (s.flush r held).wire = s.wire := flush_frame s r held .wire (by decide)
@[simp] theorem flush_draws : (s.flush r held).draws = s.draws := flush_frame s r held .draws (by decide)
@[simp] theorem flush_pending : (s.flush r held).pending = s.pending := flush_frame s r held .pending (by decide)
@[simp] theorem flush_inReset : (s.flush r held).inReset = s.inReset := flush_frame s r held .inReset (by decide)
end flush

section leaveGroups
variable (s : State) (r : Option RadioIx) (es : List Subscription) (ix : Nat)
@[simp] theorem leaveGroups_stations : (s.leaveGroups r es ix).stations = s.stations := leaveGroups_frame s r es ix .stations (by decide)
@[simp] theorem leaveGroups_addressMap : (s.leaveGroups r es ix).addressMap = s.addressMap := leaveGroups_frame s r es ix .addressMap (by decide)
@[simp] theorem leaveGroups_stationCount : (s.leaveGroups r es ix).stationCount = s.stationCount := leaveGroups_frame s r es ix .stationCount (by decide)
@[simp] theorem leaveGroups_holdFree : (s.leaveGroups r es ix).holdFree = s.holdFree := leaveGroups_frame s r es ix .holdFree (by decide)
@[simp] theorem leaveGroups_links : (s.leaveGroups r es ix).links = s.links := leaveGroups_frame s r es ix .links (by decide)
@[simp] theorem leaveGroups_passes : (s.leaveGroups r es ix).passes = s.passes := leaveGroups_frame s r es ix .passes (by decide)
@[simp] theorem leaveGroups_passMap : (s.leaveGroups r es ix).passMap = s.passMap := leaveGroups_frame s r es ix .passMap (by decide)
@[simp] theorem leaveGroups_expirySweep : (s.leaveGroups r es ix).expirySweep = s.expirySweep := leaveGroups_frame s r es ix .expirySweep (by decide)
@[simp] theorem leaveGroups_seatMap : (s.leaveGroups r es ix).seatMap = s.seatMap := leaveGroups_frame s r es ix .seatMap (by decide)
@[simp] theorem leaveGroups_zoneSweep : (s.leaveGroups r es ix).zoneSweep = s.zoneSweep := leaveGroups_frame s r es ix .zoneSweep (by decide)
@[simp] theorem leaveGroups_channels : (s.leaveGroups r es ix).channels = s.channels := leaveGroups_frame s r es ix .channels (by decide)
@[simp] theorem leaveGroups_credit : (s.leaveGroups r es ix).credit = s.credit := leaveGroups_frame s r es ix .credit (by decide)
@[simp] theorem leaveGroups_refillsDue : (s.leaveGroups r es ix).refillsDue = s.refillsDue := leaveGroups_frame s r es ix .refillsDue (by decide)
@[simp] theorem leaveGroups_sectorTime : (s.leaveGroups r es ix).sectorTime = s.sectorTime := leaveGroups_frame s r es ix .sectorTime (by decide)
@[simp] theorem leaveGroups_settings : (s.leaveGroups r es ix).settings = s.settings := leaveGroups_frame s r es ix .settings (by decide)
@[simp] theorem leaveGroups_periodInForce : (s.leaveGroups r es ix).periodInForce = s.periodInForce := leaveGroups_frame s r es ix .periodInForce (by decide)
@[simp] theorem leaveGroups_nextExpiry : (s.leaveGroups r es ix).nextExpiry = s.nextExpiry := leaveGroups_frame s r es ix .nextExpiry (by decide)
@[simp] theorem leaveGroups_samplePosition : (s.leaveGroups r es ix).samplePosition = s.samplePosition := leaveGroups_frame s r es ix .samplePosition (by decide)
@[simp] theorem leaveGroups_samplesDue : (s.leaveGroups r es ix).samplesDue = s.samplesDue := leaveGroups_frame s r es ix .samplesDue (by decide)
@[simp] theorem leaveGroups_phase : (s.leaveGroups r es ix).phase = s.phase := leaveGroups_frame s r es ix .phase (by decide)
@[simp] theorem leaveGroups_lanes : (s.leaveGroups r es ix).lanes = s.lanes := leaveGroups_frame s r es ix .lanes (by decide)
@[simp] theorem leaveGroups_responses : (s.leaveGroups r es ix).responses = s.responses := leaveGroups_frame s r es ix .responses (by decide)
@[simp] theorem leaveGroups_notices : (s.leaveGroups r es ix).notices = s.notices := leaveGroups_frame s r es ix .notices (by decide)
@[simp] theorem leaveGroups_wire : (s.leaveGroups r es ix).wire = s.wire := leaveGroups_frame s r es ix .wire (by decide)
@[simp] theorem leaveGroups_draws : (s.leaveGroups r es ix).draws = s.draws := leaveGroups_frame s r es ix .draws (by decide)
@[simp] theorem leaveGroups_pending : (s.leaveGroups r es ix).pending = s.pending := leaveGroups_frame s r es ix .pending (by decide)
@[simp] theorem leaveGroups_inReset : (s.leaveGroups r es ix).inReset = s.inReset := leaveGroups_frame s r es ix .inReset (by decide)
end leaveGroups

section joinGroups
variable (s : State) (r : RadioIx) (es : List Subscription) (ix : Nat)
@[simp] theorem joinGroups_stations : (s.joinGroups r es ix).stations = s.stations := joinGroups_frame s r es ix .stations (by decide)
@[simp] theorem joinGroups_addressMap : (s.joinGroups r es ix).addressMap = s.addressMap := joinGroups_frame s r es ix .addressMap (by decide)
@[simp] theorem joinGroups_stationCount : (s.joinGroups r es ix).stationCount = s.stationCount := joinGroups_frame s r es ix .stationCount (by decide)
@[simp] theorem joinGroups_holdFree : (s.joinGroups r es ix).holdFree = s.holdFree := joinGroups_frame s r es ix .holdFree (by decide)
@[simp] theorem joinGroups_links : (s.joinGroups r es ix).links = s.links := joinGroups_frame s r es ix .links (by decide)
@[simp] theorem joinGroups_passes : (s.joinGroups r es ix).passes = s.passes := joinGroups_frame s r es ix .passes (by decide)
@[simp] theorem joinGroups_passMap : (s.joinGroups r es ix).passMap = s.passMap := joinGroups_frame s r es ix .passMap (by decide)
@[simp] theorem joinGroups_expirySweep : (s.joinGroups r es ix).expirySweep = s.expirySweep := joinGroups_frame s r es ix .expirySweep (by decide)
@[simp] theorem joinGroups_seatMap : (s.joinGroups r es ix).seatMap = s.seatMap := joinGroups_frame s r es ix .seatMap (by decide)
@[simp] theorem joinGroups_zoneSweep : (s.joinGroups r es ix).zoneSweep = s.zoneSweep := joinGroups_frame s r es ix .zoneSweep (by decide)
@[simp] theorem joinGroups_channels : (s.joinGroups r es ix).channels = s.channels := joinGroups_frame s r es ix .channels (by decide)
@[simp] theorem joinGroups_offers : (s.joinGroups r es ix).offers = s.offers := joinGroups_frame s r es ix .offers (by decide)
@[simp] theorem joinGroups_credit : (s.joinGroups r es ix).credit = s.credit := joinGroups_frame s r es ix .credit (by decide)
@[simp] theorem joinGroups_refillsDue : (s.joinGroups r es ix).refillsDue = s.refillsDue := joinGroups_frame s r es ix .refillsDue (by decide)
@[simp] theorem joinGroups_sectorTime : (s.joinGroups r es ix).sectorTime = s.sectorTime := joinGroups_frame s r es ix .sectorTime (by decide)
@[simp] theorem joinGroups_settings : (s.joinGroups r es ix).settings = s.settings := joinGroups_frame s r es ix .settings (by decide)
@[simp] theorem joinGroups_periodInForce : (s.joinGroups r es ix).periodInForce = s.periodInForce := joinGroups_frame s r es ix .periodInForce (by decide)
@[simp] theorem joinGroups_nextExpiry : (s.joinGroups r es ix).nextExpiry = s.nextExpiry := joinGroups_frame s r es ix .nextExpiry (by decide)
@[simp] theorem joinGroups_samplePosition : (s.joinGroups r es ix).samplePosition = s.samplePosition := joinGroups_frame s r es ix .samplePosition (by decide)
@[simp] theorem joinGroups_samplesDue : (s.joinGroups r es ix).samplesDue = s.samplesDue := joinGroups_frame s r es ix .samplesDue (by decide)
@[simp] theorem joinGroups_phase : (s.joinGroups r es ix).phase = s.phase := joinGroups_frame s r es ix .phase (by decide)
@[simp] theorem joinGroups_lanes : (s.joinGroups r es ix).lanes = s.lanes := joinGroups_frame s r es ix .lanes (by decide)
@[simp] theorem joinGroups_responses : (s.joinGroups r es ix).responses = s.responses := joinGroups_frame s r es ix .responses (by decide)
@[simp] theorem joinGroups_notices : (s.joinGroups r es ix).notices = s.notices := joinGroups_frame s r es ix .notices (by decide)
@[simp] theorem joinGroups_wire : (s.joinGroups r es ix).wire = s.wire := joinGroups_frame s r es ix .wire (by decide)
@[simp] theorem joinGroups_draws : (s.joinGroups r es ix).draws = s.draws := joinGroups_frame s r es ix .draws (by decide)
@[simp] theorem joinGroups_pending : (s.joinGroups r es ix).pending = s.pending := joinGroups_frame s r es ix .pending (by decide)
@[simp] theorem joinGroups_inReset : (s.joinGroups r es ix).inReset = s.inReset := joinGroups_frame s r es ix .inReset (by decide)
end joinGroups

section lowerCounts
variable (s : State) (p : Place)
@[simp] theorem lowerCounts_stations : (s.lowerCounts p).stations = s.stations := lowerCounts_frame s p .stations (by decide)
@[simp] theorem lowerCounts_addressMap : (s.lowerCounts p).addressMap = s.addressMap := lowerCounts_frame s p .addressMap (by decide)
@[simp] theorem lowerCounts_holdFree : (s.lowerCounts p).holdFree = s.holdFree := lowerCounts_frame s p .holdFree (by decide)
@[simp] theorem lowerCounts_links : (s.lowerCounts p).links = s.links := lowerCounts_frame s p .links (by decide)
@[simp] theorem lowerCounts_passes : (s.lowerCounts p).passes = s.passes := lowerCounts_frame s p .passes (by decide)
@[simp] theorem lowerCounts_passMap : (s.lowerCounts p).passMap = s.passMap := lowerCounts_frame s p .passMap (by decide)
@[simp] theorem lowerCounts_expirySweep : (s.lowerCounts p).expirySweep = s.expirySweep := lowerCounts_frame s p .expirySweep (by decide)
@[simp] theorem lowerCounts_seatMap : (s.lowerCounts p).seatMap = s.seatMap := lowerCounts_frame s p .seatMap (by decide)
@[simp] theorem lowerCounts_zoneSweep : (s.lowerCounts p).zoneSweep = s.zoneSweep := lowerCounts_frame s p .zoneSweep (by decide)
@[simp] theorem lowerCounts_channels : (s.lowerCounts p).channels = s.channels := lowerCounts_frame s p .channels (by decide)
@[simp] theorem lowerCounts_groups : (s.lowerCounts p).groups = s.groups := lowerCounts_frame s p .groups (by decide)
@[simp] theorem lowerCounts_offers : (s.lowerCounts p).offers = s.offers := lowerCounts_frame s p .offers (by decide)
@[simp] theorem lowerCounts_credit : (s.lowerCounts p).credit = s.credit := lowerCounts_frame s p .credit (by decide)
@[simp] theorem lowerCounts_refillsDue : (s.lowerCounts p).refillsDue = s.refillsDue := lowerCounts_frame s p .refillsDue (by decide)
@[simp] theorem lowerCounts_sectorTime : (s.lowerCounts p).sectorTime = s.sectorTime := lowerCounts_frame s p .sectorTime (by decide)
@[simp] theorem lowerCounts_settings : (s.lowerCounts p).settings = s.settings := lowerCounts_frame s p .settings (by decide)
@[simp] theorem lowerCounts_periodInForce : (s.lowerCounts p).periodInForce = s.periodInForce := lowerCounts_frame s p .periodInForce (by decide)
@[simp] theorem lowerCounts_nextExpiry : (s.lowerCounts p).nextExpiry = s.nextExpiry := lowerCounts_frame s p .nextExpiry (by decide)
@[simp] theorem lowerCounts_samplePosition : (s.lowerCounts p).samplePosition = s.samplePosition := lowerCounts_frame s p .samplePosition (by decide)
@[simp] theorem lowerCounts_samplesDue : (s.lowerCounts p).samplesDue = s.samplesDue := lowerCounts_frame s p .samplesDue (by decide)
@[simp] theorem lowerCounts_phase : (s.lowerCounts p).phase = s.phase := lowerCounts_frame s p .phase (by decide)
@[simp] theorem lowerCounts_lanes : (s.lowerCounts p).lanes = s.lanes := lowerCounts_frame s p .lanes (by decide)
@[simp] theorem lowerCounts_responses : (s.lowerCounts p).responses = s.responses := lowerCounts_frame s p .responses (by decide)
@[simp] theorem lowerCounts_notices : (s.lowerCounts p).notices = s.notices := lowerCounts_frame s p .notices (by decide)
@[simp] theorem lowerCounts_counters : (s.lowerCounts p).counters = s.counters := lowerCounts_frame s p .counters (by decide)
@[simp] theorem lowerCounts_wire : (s.lowerCounts p).wire = s.wire := lowerCounts_frame s p .wire (by decide)
@[simp] theorem lowerCounts_draws : (s.lowerCounts p).draws = s.draws := lowerCounts_frame s p .draws (by decide)
@[simp] theorem lowerCounts_pending : (s.lowerCounts p).pending = s.pending := lowerCounts_frame s p .pending (by decide)
@[simp] theorem lowerCounts_inReset : (s.lowerCounts p).inReset = s.inReset := lowerCounts_frame s p .inReset (by decide)
end lowerCounts

section discardGroups
variable (s : State) (r : RadioIx)
@[simp] theorem discardGroups_stations : (s.discardGroups r).stations = s.stations := discardGroups_frame s r .stations (by decide)
@[simp] theorem discardGroups_addressMap : (s.discardGroups r).addressMap = s.addressMap := discardGroups_frame s r .addressMap (by decide)
@[simp] theorem discardGroups_stationCount : (s.discardGroups r).stationCount = s.stationCount := discardGroups_frame s r .stationCount (by decide)
@[simp] theorem discardGroups_holdFree : (s.discardGroups r).holdFree = s.holdFree := discardGroups_frame s r .holdFree (by decide)
@[simp] theorem discardGroups_links : (s.discardGroups r).links = s.links := discardGroups_frame s r .links (by decide)
@[simp] theorem discardGroups_passes : (s.discardGroups r).passes = s.passes := discardGroups_frame s r .passes (by decide)
@[simp] theorem discardGroups_passMap : (s.discardGroups r).passMap = s.passMap := discardGroups_frame s r .passMap (by decide)
@[simp] theorem discardGroups_expirySweep : (s.discardGroups r).expirySweep = s.expirySweep := discardGroups_frame s r .expirySweep (by decide)
@[simp] theorem discardGroups_seatMap : (s.discardGroups r).seatMap = s.seatMap := discardGroups_frame s r .seatMap (by decide)
@[simp] theorem discardGroups_zoneSweep : (s.discardGroups r).zoneSweep = s.zoneSweep := discardGroups_frame s r .zoneSweep (by decide)
@[simp] theorem discardGroups_channels : (s.discardGroups r).channels = s.channels := discardGroups_frame s r .channels (by decide)
@[simp] theorem discardGroups_credit : (s.discardGroups r).credit = s.credit := discardGroups_frame s r .credit (by decide)
@[simp] theorem discardGroups_refillsDue : (s.discardGroups r).refillsDue = s.refillsDue := discardGroups_frame s r .refillsDue (by decide)
@[simp] theorem discardGroups_sectorTime : (s.discardGroups r).sectorTime = s.sectorTime := discardGroups_frame s r .sectorTime (by decide)
@[simp] theorem discardGroups_settings : (s.discardGroups r).settings = s.settings := discardGroups_frame s r .settings (by decide)
@[simp] theorem discardGroups_periodInForce : (s.discardGroups r).periodInForce = s.periodInForce := discardGroups_frame s r .periodInForce (by decide)
@[simp] theorem discardGroups_nextExpiry : (s.discardGroups r).nextExpiry = s.nextExpiry := discardGroups_frame s r .nextExpiry (by decide)
@[simp] theorem discardGroups_samplePosition : (s.discardGroups r).samplePosition = s.samplePosition := discardGroups_frame s r .samplePosition (by decide)
@[simp] theorem discardGroups_samplesDue : (s.discardGroups r).samplesDue = s.samplesDue := discardGroups_frame s r .samplesDue (by decide)
@[simp] theorem discardGroups_phase : (s.discardGroups r).phase = s.phase := discardGroups_frame s r .phase (by decide)
@[simp] theorem discardGroups_lanes : (s.discardGroups r).lanes = s.lanes := discardGroups_frame s r .lanes (by decide)
@[simp] theorem discardGroups_responses : (s.discardGroups r).responses = s.responses := discardGroups_frame s r .responses (by decide)
@[simp] theorem discardGroups_notices : (s.discardGroups r).notices = s.notices := discardGroups_frame s r .notices (by decide)
@[simp] theorem discardGroups_wire : (s.discardGroups r).wire = s.wire := discardGroups_frame s r .wire (by decide)
@[simp] theorem discardGroups_draws : (s.discardGroups r).draws = s.draws := discardGroups_frame s r .draws (by decide)
@[simp] theorem discardGroups_pending : (s.discardGroups r).pending = s.pending := discardGroups_frame s r .pending (by decide)
@[simp] theorem discardGroups_inReset : (s.discardGroups r).inReset = s.inReset := discardGroups_frame s r .inReset (by decide)
end discardGroups

end Sys2Proof.Machine
end

