-- ==== Sys2Proof/Laws/Table.lean ====
section
/-! SUPPORT. What a sparse table answers after each of its updates, and that every update keeps its canonical form. -/

namespace Sys2Proof.Machine

variable {α β : Type}

/-! ### Reading after a write -/

@[simp] theorem Table.find_nil (k : Nat) : Table.find ([] : Table α) k = none := rfl

@[simp] theorem Table.find_cons (t : Table α) (e : Nat × α) (k : Nat) :
    Table.find (e :: t) k = if e.1 = k then some e.2 else Table.find t k := rfl

theorem Table.find_put_same (t : Table α) (k : Nat) (v : α) : (Table.put t k v).find k = some v := by
  induction t with
  | nil => simp [Table.put]
  | cons e t ih =>
    obtain ⟨k', v'⟩ := e
    simp only [Table.put]
    split
    · simp
    · split
      · simp
      · rename_i h1 h2
        simpa [Ne.symm h2] using ih

theorem Table.find_put_other (t : Table α) {k j : Nat} (v : α) (h : j ≠ k) : (Table.put t k v).find j = t.find j := by
  induction t with
  | nil => simp [Table.put, Ne.symm h]
  | cons e t ih =>
    obtain ⟨k', v'⟩ := e
    simp only [Table.put]
    split
    · simp [Ne.symm h]
    · split
      · rename_i h1 h2
        subst h2
        simp [Ne.symm h]
      · simp [ih]

/-- A read after a write gives the value written, and a write leaves every other key alone. -/
@[simp] theorem Table.find_put (t : Table α) (k j : Nat) (v : α) :
    (Table.put t k v).find j = if j = k then some v else t.find j := by
  split
  · rename_i h; subst h; exact Table.find_put_same t _ v
  · rename_i h; exact Table.find_put_other t v h

@[simp] theorem Table.find_drop (t : Table α) (k j : Nat) :
    (Table.drop t k).find j = if j = k then none else t.find j := by
  induction t with
  | nil => simp [Table.drop]
  | cons e t ih =>
    obtain ⟨k', v'⟩ := e
    simp only [Table.drop, List.filter_cons] at ih ⊢
    by_cases hk : k' = k
    · subst hk
      simp only [bne_self_eq_false, Bool.false_eq_true, ↓reduceIte, Table.find_cons]
      rw [ih]
      split
      · rfl
      · rename_i h; simp [Ne.symm h]
    · have hk' : (k' != k) = true := by simpa using hk
      simp only [hk', ↓reduceIte, Table.find_cons]
      rw [ih]
      by_cases hj : k' = j
      · subst hj; simp [hk]
      · simp [hj]

/-- Entries rewritten without their keys: a read gives the rewritten entry. -/
theorem Table.find_map (t : Table α) (f : α → β) (k : Nat) :
    Table.find (t.map fun e => (e.1, f e.2)) k = (t.find k).map f := by
  induction t with
  | nil => rfl
  | cons e t ih =>
    simp only [List.map_cons, Table.find_cons]
    split
    · rfl
    · exact ih

/-! ### The canonical form -/

/-- A table is in canonical form exactly when its keys strictly rise. -/
theorem Table.wf_iff (t : Table α) : t.wf = true ↔ (t.map Prod.fst).Pairwise (· < ·) := by
  induction t with
  | nil => simp [Table.wf]
  | cons e t ih =>
    cases t with
    | nil => simp [Table.wf]
    | cons e' t =>
      obtain ⟨k, v⟩ := e
      obtain ⟨k', v'⟩ := e'
      simp only [Table.wf, Bool.and_eq_true, decide_eq_true_eq, ih, List.map_cons, List.pairwise_cons, List.mem_cons,
        forall_eq_or_imp]
      constructor
      · rintro ⟨h, h1, h2⟩
        exact ⟨⟨h, fun a ha => lt_trans h (h1 a ha)⟩, h1, h2⟩
      · rintro ⟨⟨h, _⟩, h1, h2⟩
        exact ⟨h, h1, h2⟩

theorem Table.wf_cons (k : Nat) (v : α) (t : Table α) :
    Table.wf ((k, v) :: t) = true ↔ (∀ e ∈ t, k < e.1) ∧ t.wf = true := by
  rw [Table.wf_iff, Table.wf_iff]
  simp

/-- The entries of a table after a write. -/
theorem Table.mem_put {t : Table α} {k : Nat} {v : α} {e : Nat × α} (h : e ∈ Table.put t k v) : e = (k, v) ∨ e ∈ t := by
  induction t with
  | nil => exact .inl (by simpa [Table.put] using h)
  | cons x t ih =>
    obtain ⟨k', v'⟩ := x
    simp only [Table.put] at h
    split at h
    · simpa using h
    · split at h
      · rename_i h2
        rcases List.mem_cons.mp h with h | h
        · exact .inl h
        · exact .inr (List.mem_cons_of_mem _ h)
      · rcases List.mem_cons.mp h with h | h
        · exact .inr (h ▸ List.mem_cons_self)
        · rcases ih h with h | h
          · exact .inl h
          · exact .inr (List.mem_cons_of_mem _ h)

theorem Table.mem_drop {t : Table α} {k : Nat} {e : Nat × α} : e ∈ Table.drop t k ↔ e ∈ t ∧ e.1 ≠ k := by
  simp [Table.drop]

/-- A write keeps the canonical form. -/
theorem Table.wf_put {t : Table α} (k : Nat) (v : α) (h : t.wf = true) : (Table.put t k v).wf = true := by
  induction t with
  | nil => rfl
  | cons e t ih =>
    obtain ⟨k', v'⟩ := e
    obtain ⟨hlt, hwf⟩ := (Table.wf_cons k' v' t).mp h
    simp only [Table.put]
    split
    · rename_i hk
      refine (Table.wf_cons _ _ _).mpr ⟨?_, h⟩
      intro x hx
      rcases List.mem_cons.mp hx with rfl | hx
      · exact hk
      · exact lt_trans hk (hlt x hx)
    · split
      · rename_i hk
        subst hk
        exact (Table.wf_cons _ _ _).mpr ⟨hlt, hwf⟩
      · rename_i h1 h2
        refine (Table.wf_cons _ _ _).mpr ⟨?_, ih hwf⟩
        intro x hx
        rcases Table.mem_put hx with rfl | hx
        · exact lt_of_le_of_ne (not_lt.mp h1) (Ne.symm h2)
        · exact hlt x hx

theorem Table.wf_filter {t : Table α} (p : Nat × α → Bool) (h : t.wf = true) : Table.wf (t.filter p) = true := by
  rw [Table.wf_iff] at h ⊢
  exact h.sublist (List.filter_sublist.map _)

/-- The removal of an entry keeps the canonical form. -/
theorem Table.wf_drop {t : Table α} (k : Nat) (h : t.wf = true) : (Table.drop t k).wf = true := Table.wf_filter _ h

/-- Entries rewritten without their keys keep the canonical form. -/
theorem Table.wf_map {t : Table α} (f : α → β) (h : t.wf = true) : Table.wf (t.map fun e => (e.1, f e.2)) = true := by
  rw [Table.wf_iff] at h ⊢
  simpa [Function.comp_def] using h

/-- What a read finds is an entry of the table. -/
theorem Table.mem_of_find {t : Table α} {k : Nat} {v : α} (h : t.find k = some v) : (k, v) ∈ t := by
  induction t with
  | nil => simp at h
  | cons e t ih =>
    obtain ⟨k', v'⟩ := e
    simp only [Table.find_cons] at h
    split at h
    · rename_i hk
      subst hk
      cases h
      exact List.mem_cons_self
    · exact List.mem_cons_of_mem _ (ih h)

/-- In canonical form every entry is what a read of its key finds. -/
theorem Table.find_of_mem {t : Table α} {k : Nat} {v : α} (hw : t.wf = true) (h : (k, v) ∈ t) : t.find k = some v := by
  induction t with
  | nil => simp at h
  | cons e t ih =>
    obtain ⟨k', v'⟩ := e
    obtain ⟨hlt, hwf⟩ := (Table.wf_cons k' v' t).mp hw
    rcases List.mem_cons.mp h with h | h
    · cases h; simp
    · have := hlt _ h
      simp [Nat.ne_of_lt this, ih hwf h]

/-- Tables in canonical form that answer every read alike are the same table. -/
theorem Table.ext_of_find {t u : Table α} (ht : t.wf = true) (hu : u.wf = true) (h : ∀ k, t.find k = u.find k) : t = u := by
  have mem : ∀ e, e ∈ t ↔ e ∈ u := fun e =>
    ⟨fun he => Table.mem_of_find ((h e.1).symm.trans (Table.find_of_mem ht he)),
      fun he => Table.mem_of_find ((h e.1).trans (Table.find_of_mem hu he))⟩
  rw [Table.wf_iff, List.pairwise_map] at ht hu
  refine List.Perm.eq_of_pairwise (le := fun a b : Nat × α => a.1 < b.1) ?_ ht hu ?_
  · intro a b _ _ h1 h2
    omega
  · refine (List.perm_ext_iff_of_nodup ?_ ?_).mpr mem
    · exact ht.imp fun {a b} h e => by subst e; exact lt_irrefl _ h
    · exact hu.imp fun {a b} h e => by subst e; exact lt_irrefl _ h

/-! ### The lowest free key -/

theorem Table.lowestFreeFrom_spec {t : Table α} {fuel i k : Nat} (h : Table.lowestFreeFrom t fuel i = some k) :
    i ≤ k ∧ k < i + fuel ∧ t.find k = none ∧ ∀ j, i ≤ j → j < k → (t.find j).isSome = true := by
  induction fuel generalizing i with
  | zero => simp [Table.lowestFreeFrom] at h
  | succ fuel ih =>
    simp only [Table.lowestFreeFrom] at h
    split at h
    · rename_i hn
      cases h
      exact ⟨le_rfl, by omega, by simpa using hn, fun j h1 h2 => absurd h1 (by omega)⟩
    · rename_i hn
      obtain ⟨h1, h2, h3, h4⟩ := ih h
      refine ⟨by omega, by omega, h3, fun j hj1 hj2 => ?_⟩
      by_cases hj : j = i
      · subst hj
        cases hf : Table.find t j <;> simp_all
      · exact h4 j (by omega) hj2

/-- The lowest free key is below the size, is free, and every lower key is taken (R6, R76). -/
theorem Table.lowestFree_spec {t : Table α} {size k : Nat} (h : t.lowestFree size = some k) :
    k < size ∧ t.find k = none ∧ ∀ j < k, (t.find j).isSome = true := by
  obtain ⟨_, h2, h3, h4⟩ := Table.lowestFreeFrom_spec h
  exact ⟨by omega, h3, fun j hj => h4 j (Nat.zero_le _) hj⟩

/-! ### Counters (R164) -/

/-- What a counter reads after an amount is added: its sum, held at the highest value. -/
theorem tally_find (t : Table Nat) (k n : Nat) :
    ((tally t k n).find k).getD 0 = min ((t.find k).getD 0 + n) Config.counterMax := by
  unfold tally
  split
  · rename_i h; simp [h]
  · simp

/-- Every other counter reads as before. -/
theorem tally_find_other (t : Table Nat) {k j : Nat} (n : Nat) (h : j ≠ k) : (tally t k n).find j = t.find j := by
  unfold tally
  split <;> simp [h]

theorem tally_wf {t : Table Nat} (k n : Nat) (h : t.wf = true) : (tally t k n).wf = true := by
  unfold tally
  split
  · exact Table.wf_drop _ h
  · exact Table.wf_put _ _ h

end Sys2Proof.Machine
end

