-- ==== Sys2Proof/Laws/Counters.lean ====
section
/-! SUPPORT. Counters (R164): each counter has its own key, so a count changes one counter; and which counters the line evaluation
and a control message can change. -/

namespace Sys2Proof.Machine

theorem StationCounter.ctorIdx_lt (c : StationCounter) : c.ctorIdx < 35 := by cases c <;> decide
theorem StationCounter.ctorIdx_inj {c d : StationCounter} (h : c.ctorIdx = d.ctorIdx) : c = d := by
  rw [← StationCounter.ofNat_ctorIdx c, h, StationCounter.ofNat_ctorIdx]
theorem LinkCounter.ctorIdx_lt (c : LinkCounter) : c.ctorIdx < 17 := by cases c <;> decide
theorem LinkCounter.ctorIdx_inj {c d : LinkCounter} (h : c.ctorIdx = d.ctorIdx) : c = d := by
  rw [← LinkCounter.ofNat_ctorIdx c, h, LinkCounter.ofNat_ctorIdx]
theorem PassCounter.ctorIdx_lt (c : PassCounter) : c.ctorIdx < 14 := by cases c <;> decide
theorem PassCounter.ctorIdx_inj {c d : PassCounter} (h : c.ctorIdx = d.ctorIdx) : c = d := by
  rw [← PassCounter.ofNat_ctorIdx c, h, PassCounter.ofNat_ctorIdx]
theorem AdmissionCounter.ctorIdx_lt (c : AdmissionCounter) : c.ctorIdx < 18 := by cases c <;> decide
theorem AdmissionCounter.ctorIdx_inj {c d : AdmissionCounter} (h : c.ctorIdx = d.ctorIdx) : c = d := by
  rw [← AdmissionCounter.ofNat_ctorIdx c, h, AdmissionCounter.ofNat_ctorIdx]
theorem ReplayCounter.ctorIdx_lt (c : ReplayCounter) : c.ctorIdx < 16 := by cases c <;> decide
theorem ReplayCounter.ctorIdx_inj {c d : ReplayCounter} (h : c.ctorIdx = d.ctorIdx) : c = d := by
  rw [← ReplayCounter.ofNat_ctorIdx c, h, ReplayCounter.ofNat_ctorIdx]
theorem ChannelCounter.ctorIdx_lt (c : ChannelCounter) : c.ctorIdx < 4 := by cases c <;> decide
theorem ChannelCounter.ctorIdx_inj {c d : ChannelCounter} (h : c.ctorIdx = d.ctorIdx) : c = d := by
  rw [← ChannelCounter.ofNat_ctorIdx c, h, ChannelCounter.ofNat_ctorIdx]
theorem AirtimeCounter.ctorIdx_lt (c : AirtimeCounter) : c.ctorIdx < 10 := by cases c <;> decide
theorem AirtimeCounter.ctorIdx_inj {c d : AirtimeCounter} (h : c.ctorIdx = d.ctorIdx) : c = d := by
  rw [← AirtimeCounter.ofNat_ctorIdx c, h, AirtimeCounter.ofNat_ctorIdx]
theorem SectorCounter.ctorIdx_lt (c : SectorCounter) : c.ctorIdx < 4 := by cases c <;> decide
theorem SectorCounter.ctorIdx_inj {c d : SectorCounter} (h : c.ctorIdx = d.ctorIdx) : c = d := by
  rw [← SectorCounter.ofNat_ctorIdx c, h, SectorCounter.ofNat_ctorIdx]
theorem LaneCounter.ctorIdx_lt (c : LaneCounter) : c.ctorIdx < 9 := by cases c <;> decide
theorem LaneCounter.ctorIdx_inj {c d : LaneCounter} (h : c.ctorIdx = d.ctorIdx) : c = d := by
  rw [← LaneCounter.ofNat_ctorIdx c, h, LaneCounter.ofNat_ctorIdx]
theorem TrunkCounter.ctorIdx_lt (c : TrunkCounter) : c.ctorIdx < 2 := by cases c <;> decide
theorem TrunkCounter.ctorIdx_inj {c d : TrunkCounter} (h : c.ctorIdx = d.ctorIdx) : c = d := by
  rw [← TrunkCounter.ofNat_ctorIdx c, h, TrunkCounter.ofNat_ctorIdx]
/-- The range of keys of each block's counters. -/
def Counter.inBlock (k : Nat) : Counter → Prop
  | .station _ => 0 ≤ k ∧ k < 64
  | .link _ _ => 4096 ≤ k ∧ k < 8192
  | .pass _ => 64 ≤ k ∧ k < 128
  | .admission _ => 128 ≤ k ∧ k < 192
  | .replay _ => 192 ≤ k ∧ k < 256
  | .channel _ _ => 256 ≤ k ∧ k < 1280
  | .airtime _ _ => 8192 ≤ k ∧ k < 12288
  | .sector _ => 1280 ≤ k ∧ k < 1344
  | .lane _ _ => 1344 ≤ k ∧ k < 1600
  | .trunk _ => 1600 ≤ k ∧ k < 4096
theorem Counter.key_inBlock (c : Counter) : c.inBlock c.key := by
  cases c with
  | station c => have := c.ctorIdx_lt; simp only [Counter.inBlock, Counter.key]; omega
  | link r c => have := c.ctorIdx_lt; have := r.isLt; simp only [Counter.inBlock, Counter.key]; omega
  | pass c => have := c.ctorIdx_lt; simp only [Counter.inBlock, Counter.key]; omega
  | admission c => have := c.ctorIdx_lt; simp only [Counter.inBlock, Counter.key]; omega
  | replay c => have := c.ctorIdx_lt; simp only [Counter.inBlock, Counter.key]; omega
  | channel r c => have := c.ctorIdx_lt; have := r.isLt; simp only [Counter.inBlock, Counter.key]; omega
  | airtime r c => have := c.ctorIdx_lt; have := r.isLt; simp only [Counter.inBlock, Counter.key]; omega
  | sector c => have := c.ctorIdx_lt; simp only [Counter.inBlock, Counter.key]; omega
  | lane r c => have := c.ctorIdx_lt; have := r.isLt; simp only [Counter.inBlock, Counter.key]; omega
  | trunk c => have := c.ctorIdx_lt; simp only [Counter.inBlock, Counter.key]; omega
/-- Two counters never share a key. -/
theorem Counter.key_inj {c d : Counter} (h : c.key = d.key) : c = d := by
  have hc := c.key_inBlock
  have hd := d.key_inBlock
  rw [← h] at hd
  cases c <;> cases d <;> simp only [Counter.inBlock] at hc hd <;> first | omega | skip
  · rename_i x y
    simp only [Counter.key] at h
    rw [StationCounter.ctorIdx_inj (c := x) (d := y) (by omega)]
  · rename_i r x q y
    have hx := x.ctorIdx_lt; have hy := y.ctorIdx_lt
    simp only [Counter.key] at h
    rw [LinkCounter.ctorIdx_inj (c := x) (d := y) (by omega), show r = q from Fin.ext (by omega)]
  · rename_i x y
    simp only [Counter.key] at h
    rw [PassCounter.ctorIdx_inj (c := x) (d := y) (by omega)]
  · rename_i x y
    simp only [Counter.key] at h
    rw [AdmissionCounter.ctorIdx_inj (c := x) (d := y) (by omega)]
  · rename_i x y
    simp only [Counter.key] at h
    rw [ReplayCounter.ctorIdx_inj (c := x) (d := y) (by omega)]
  · rename_i r x q y
    have hx := x.ctorIdx_lt; have hy := y.ctorIdx_lt
    simp only [Counter.key] at h
    rw [ChannelCounter.ctorIdx_inj (c := x) (d := y) (by omega), show r = q from Fin.ext (by omega)]
  · rename_i r x q y
    have hx := x.ctorIdx_lt; have hy := y.ctorIdx_lt
    simp only [Counter.key] at h
    rw [AirtimeCounter.ctorIdx_inj (c := x) (d := y) (by omega), show r = q from Fin.ext (by omega)]
  · rename_i x y
    simp only [Counter.key] at h
    rw [SectorCounter.ctorIdx_inj (c := x) (d := y) (by omega)]
  · rename_i r x q y
    have hx := x.ctorIdx_lt; have hy := y.ctorIdx_lt
    simp only [Counter.key] at h
    rw [LaneCounter.ctorIdx_inj (c := x) (d := y) (by omega), show r = q from Fin.ext (by omega)]
  · rename_i x y
    simp only [Counter.key] at h
    rw [TrunkCounter.ctorIdx_inj (c := x) (d := y) (by omega)]

/-- A count changes the counter it names and no other. -/
@[simp] theorem addTo_counter (s : State) (c d : Counter) (n : Nat) :
    (s.addTo c n).counter d = if d = c then min (s.counter d + n) Config.counterMax else s.counter d := by
  split
  · rename_i h; subst h; exact tally_find s.counters d.key n
  · rename_i h
    simp [State.counter, State.addTo, tally_find_other _ n (fun hk => h (Counter.key_inj hk))]

@[simp] theorem count_counter (s : State) (c d : Counter) :
    (s.count c).counter d = if d = c then min (s.counter d + 1) Config.counterMax else s.counter d := addTo_counter s c d 1

/-- The line evaluation counts notices raised and nothing else. -/
theorem settle_counter {before : Vector Notice 4} (s : State) {c : Counter} (h : ∀ l, c ≠ .lane l .noticesRaised) :
    (s.settle before).counter c = s.counter c := by
  suffices ∀ (ls : List LaneIx) (s : State), (ls.foldl (State.evaluateLine before) s).counter c = s.counter c from this _ _
  intro ls
  induction ls with
  | nil => intro s; rfl
  | cons a ls ih =>
    intro s
    rw [List.foldl_cons, ih]
    unfold State.evaluateLine
    split
    · rfl
    · split
      · rfl
      · unfold State.driveLine
        dsimp only
        split
        · rfl
        · split
          · split
            · show ((_ : State).count _).counter c = _
              rw [count_counter, if_neg (h a)]
              rfl
            · rfl
          · rfl

/-- A control message counts what it sends, injects or suppresses on its own link and nothing else. -/
theorem send_counter (s : State) {r : RadioIx} (m : ControlOut) {c : Counter} (h1 : c ≠ .link r .messagesSent)
    (h2 : c ≠ .link r .faultInjections) (h3 : c ≠ .link r .suppressedMessages) : (s.send r m).counter c = s.counter c := by
  unfold State.send
  dsimp only
  split
  · split
    · rw [count_counter, if_neg h1]; rfl
    · split
      · rw [count_counter, if_neg h1, count_counter, if_neg h2]
        unfold State.inject
        split <;> rfl
      · rw [count_counter, if_neg h1]; rfl
  · rw [count_counter, if_neg h3]
end Sys2Proof.Machine
end

