-- ==== Sys2Proof/Laws/Ops.lean ====
section
/-! SUPPORT. For each shared operation, once, what it answers: a counter after a count, the line evaluation, one event, a service, a
response, a control message, a received message. -/

namespace Sys2Proof.Machine

/-! ### Counters and sources -/

theorem addTo_counted (s : State) (c : Counter) (n : Nat) : Counted s (s.addTo c n) c n := tally_find s.counters c.key n

theorem count_counted (s : State) (c : Counter) : Counted s (s.count c) c 1 := addTo_counted s c 1

theorem note_noticed (s : State) (src : Source) : Noticed (s.note src) src := by
  intro l
  simp only [State.note_notices, Fin.getElem_fin, Vector.getElem_map, Notice.raise, Vector.getElem_set_self]
  cases src <;> simp [Source.place]

/-! ### The line evaluation (R168) -/

@[simp] theorem driveLine_notices (s : State) (lane : LaneIx) (up : Bool) :
    (s.driveLine lane up).notices = s.notices.set lane { s.notices[lane] with lineUp := up } := by
  unfold State.driveLine
  dsimp only
  split
  · rfl
  · split
    · split <;> rfl
    · rfl

/-- A master whose notice state the event left as it was is not evaluated. -/
theorem evaluateLine_same {before : Vector Notice 4} {s : State} {lane : LaneIx} (h : s.notices[lane] = before[lane]) :
    State.evaluateLine before s lane = s := by
  simp [State.evaluateLine, h]

/-- An event that changes no master's notice state changes nothing at its line evaluation. -/
theorem settle_same {before : Vector Notice 4} {s : State} (h : s.notices = before) : s.settle before = s := by
  subst h
  unfold State.settle
  suffices ∀ l : List LaneIx, l.foldl (State.evaluateLine s.notices) s = s from this _
  intro l
  induction l with
  | nil => rfl
  | cons a l ih => simp only [List.foldl_cons, evaluateLine_same]; exact ih

/-- The line evaluation of one master writes nothing of any master's notice state but a line. -/
theorem evaluateLine_notice (before : Vector Notice 4) (s : State) (lane l : LaneIx) :
    (State.evaluateLine before s lane).notices[l] =
      if l = lane ∧ s.notices[l] ≠ before[l] then { s.notices[l] with lineUp := s.notices[l].anyEligible } else s.notices[l] := by
  unfold State.evaluateLine
  by_cases hl : l = lane
  · subst hl
    by_cases h1 : s.notices[l] = before[l]
    · simp [h1]
    · by_cases h2 : s.notices[l].anyEligible = s.notices[l].lineUp
      · rw [if_neg h1, if_pos h2, if_pos ⟨rfl, h1⟩, h2]
      · rw [if_neg h1, if_neg h2, if_pos ⟨rfl, h1⟩, driveLine_notices]
        exact Vector.getElem_set_self l.isLt
  · have hv : lane.val ≠ l.val := fun h => hl (Fin.ext h.symm)
    simp only [hl, false_and, if_false]
    split
    · rfl
    · split
      · rfl
      · simp only [driveLine_notices]
        exact Vector.getElem_set_ne lane.isLt l.isLt hv

/-- After the line evaluation of an event, a master's notice state is as the event left it, but for the line: up exactly while a group
is eligible, where the event changed that master's state. -/
theorem settle_notice (before : Vector Notice 4) (s : State) (l : LaneIx) :
    (s.settle before).notices[l] =
      if s.notices[l] = before[l] then s.notices[l] else { s.notices[l] with lineUp := s.notices[l].anyEligible } := by
  unfold State.settle
  suffices ∀ (ls : List LaneIx) (s : State), ls.Nodup →
      (ls.foldl (State.evaluateLine before) s).notices[l] =
        if l ∈ ls ∧ s.notices[l] ≠ before[l] then { s.notices[l] with lineUp := s.notices[l].anyEligible }
        else s.notices[l] by
    rw [this _ s (List.nodup_finRange 4)]
    by_cases h : s.notices[l] = before[l] <;> simp [h]
  intro ls
  induction ls with
  | nil => intro s _; simp
  | cons a ls ih =>
    intro s hn
    rw [List.nodup_cons] at hn
    rw [List.foldl_cons, ih _ hn.2, evaluateLine_notice]
    by_cases ha : l = a
    · subst ha
      simp [hn.1]
    · simp [ha]

/-- The status copies stand through the line evaluation. -/
theorem settle_status (before : Vector Notice 4) (s : State) (l : LaneIx) :
    (s.settle before).notices[l].status = s.notices[l].status := by
  rw [settle_notice]
  split <;> rfl

theorem settle_noticed {before : Vector Notice 4} {s : State} {src : Source} (h : Noticed s src) :
    Noticed (s.settle before) src := fun l => by rw [settle_status]; exact h l

/-! ### One event, one service -/

/-- An event answers the state after its effect and its line evaluation, where the device is not held in reset. -/
theorem event_next {s : State} (effect : State → State) (hr : s.inReset = false) :
    event s effect = .next ((effect s).settle s.notices) := by
  simp [event, hr]

/-- An event whose effect sets no source and touches no notice state answers its effect. -/
theorem event_quiet {s : State} {effect : State → State} (hr : s.inReset = false) (h : (effect s).notices = s.notices) :
    event s effect = .next (effect s) := by
  rw [event_next effect hr, settle_same h]

/-- What arrives while the device is held in reset is lost (R152). -/
theorem event_lost {s : State} (effect : State → State) (hr : s.inReset = true) : event s effect = .next s := by
  simp [event, hr]

/-- An event changes at most what its effect and the line evaluation change. -/
theorem event_frame {fs : List Field} {s t : State} {effect : State → State} (h : ChangesOnly fs s (effect s))
    (sub : noticeFields ⊆ fs) (ht : event s effect = .next t) : ChangesOnly fs s t := by
  simp only [event, Host.Outcome.next.injEq] at ht
  rw [← ht]
  exact .ite (.refl _ _) (h.step (settle_frame _ _) sub)

/-- A request that stands ready is handed to its owner, and its response sent (R156, R157). -/
theorem serve_ready {k : RequestKind} {lane : LaneIx} {q : Request} {s s0 : State}
    (owner : List Byte → State → Reply × State) (h : Ready k lane q s s0) :
    serve lane k owner s =
      .next (answered s lane q (owner q.params s0).1.answer (owner q.params s0).1.block (owner q.params s0).2) := by
  obtain ⟨h0, h1, h2, h3⟩ := h
  rw [serve, event_next _ h0]
  simp only [State.service, h1, h2, h3, if_true]
  rfl

/-- The state that a service's owner sees differs from the state before in its lane's queue alone. -/
theorem ready_frame {k : RequestKind} {lane : LaneIx} {q : Request} {s s0 : State} (h : Ready k lane q s s0) :
    ChangesOnly [.lanes] s s0 := by
  obtain ⟨-, h1, -, -⟩ := h
  unfold State.head at h1
  split at h1
  · simp at h1
  · split at h1
    · simp only [Option.some.injEq, Prod.mk.injEq] at h1
      rw [← h1.2]
      exact setLane_frame s _ _
    · simp at h1

/-- What follows the owner of a request reaches the response, counters, the lines and the wires alone. -/
theorem answered_frame (s : State) (lane : LaneIx) (q : Request) (a : Answer) (block : List Byte) (owned : State) :
    ChangesOnly serviceFields owned (answered s lane q a block owned) :=
  ((respond_frame owned _ _).le (gs := serviceFields)).step (settle_frame _ _)

/-! ### Control messages -/

/-- A message to an UP link without a fault arm is sent whole with the link's transmit sequence, which moves on (R36). -/
theorem send_up {s : State} {r : RadioIx} (m : ControlOut) (hu : s.links[r].state = .up) (ha : s.links[r].arm = none) :
    s.send r m =
      ((s.emit (.control r (m.bytes s.links[r].txSequence))).setLink r
        { s.links[r] with txSequence := s.links[r].txSequence + 1 }).count (.link r .messagesSent) := by
  unfold State.send
  dsimp only
  rw [if_pos hu]
  split
  · rfl
  · rename_i a h
    exact absurd (ha.symm.trans h) (by simp)

/-- A message to a link that is not UP is suppressed and counted (R36). -/
theorem send_down {s : State} {r : RadioIx} (m : ControlOut) (hu : s.links[r].state ≠ .up) :
    s.send r m = s.count (.link r .suppressedMessages) := by
  unfold State.send
  exact if_neg hu

/-- A message that arrives on an UP link passes to its owner after the sequence check (R33, R35). -/
theorem receive_up {s : State} {r : RadioIx} {sequence : Byte} (owner : State → State) (hu : s.links[r].state = .up) :
    s.receive r sequence owner = owner ((s.checkSequence r sequence).count (.link r .messagesReceived)) := by
  unfold State.receive
  rw [hu]

/-- A message that carries the expected sequence moves the expectation on and nothing else (R33). -/
theorem checkSequence_expected {s : State} {r : RadioIx} {sequence : Byte} (h : s.links[r].rxSequence = sequence) :
    s.checkSequence r sequence = s.setLink r { s.links[r] with rxSequence := sequence + 1 } := by
  unfold State.checkSequence
  exact if_pos h

end Sys2Proof.Machine
end

