-- ==== Sys2Proof/Laws/PerInstr.lean ====
section
/-! SUPPORT. Statements made for every command, one lemma for each constructor. -/

namespace Sys2Proof.Laws.MessageLength

open Sys2Proof.Machine

/-- The bytes that a radio head sends for a command have the kind and the length that section 11.3 and R177 give its message: 7 bytes
and the payload length of its kind. -/
def Statement (i : Instr) : Prop :=
  ∀ r bytes, messageBytes i = some (r, bytes) →
    ∃ p, payloadLength (bytes.headD 0#8) = some p ∧ bytes.length = 7 + p ∧ (bytes.getD 4 0#8).toNat = p

/-- A message of one of the nine kinds has the length of its payload and 7. -/
theorem of_payload {r : RadioIx} {kind sequence : Byte} {station : Half} {payload : List Byte} {p : Nat} {i : Instr}
    (hm : messageBytes i = some (r, headMessage kind sequence station payload)) (hk : payloadLength kind = some p)
    (hp : payload.length = p) (h8 : p < 9) : Statement i := by
  intro r' bytes h
  rw [hm] at h
  obtain ⟨rfl, rfl⟩ := Prod.mk.inj (Option.some.inj h)
  refine ⟨p, hk, ?_, ?_⟩
  · simp only [headMessage, withCrc, be16, List.length_append, List.length_cons, List.length_nil, hp]
    omega
  · show (byteOf payload.length).toNat = p
    simp only [byteOf, BitVec.toNat_ofNat, hp]
    omega

/-- A command that is no message of a radio head has no bytes. -/
theorem of_none {i : Instr} (h : messageBytes i = none) : Statement i := by
  intro r bytes hb
  rw [h] at hb
  cases hb

theorem powerOnReset (event : ResetEvent) :
    Statement (.powerOnReset event) := of_none rfl
theorem carrierAppear (radio : RadioIx) :
    Statement (.carrierAppear radio) := of_none rfl
theorem carrierLoss (radio : RadioIx) :
    Statement (.carrierLoss radio) := of_none rfl
theorem sampleExpiry (radio : RadioIx) :
    Statement (.sampleExpiry radio) := of_none rfl
theorem budgetPeriodExpiry : Statement .budgetPeriodExpiry := of_none rfl
theorem refill (radio : RadioIx) :
    Statement (.refill radio) := of_none rfl
theorem handoffDeadlineExpiry (station : StationIx) :
    Statement (.handoffDeadlineExpiry station) := of_none rfl
theorem guardDeadlineExpiry (station : StationIx) :
    Statement (.guardDeadlineExpiry station) := of_none rfl
theorem orphanDeadlineExpiry (station : StationIx) :
    Statement (.orphanDeadlineExpiry station) := of_none rfl
theorem join (radio : RadioIx) (sequence : Byte) (device : Address) (rate : Byte) :
    Statement (.join radio sequence device rate) := of_payload rfl rfl rfl (by decide)
theorem roam (radio : RadioIx) (sequence : Byte) (device : Address) (rate : Byte) (flags : Byte) :
    Statement (.roam radio sequence device rate flags) := of_payload rfl rfl rfl (by decide)
theorem leave (radio : RadioIx) (sequence : Byte) (station : Half) :
    Statement (.leave radio sequence station) := of_payload rfl rfl rfl (by decide)
theorem rate (radio : RadioIx) (sequence : Byte) (station : Half) (rate : Byte) :
    Statement (.rate radio sequence station rate) := of_payload rfl rfl rfl (by decide)
theorem claim (radio : RadioIx) (sequence : Byte) (station : Half) (pass : Word) (code : Half) :
    Statement (.claim radio sequence station pass code) := of_payload rfl rfl rfl (by decide)
theorem subscribe (radio : RadioIx) (sequence : Byte) (station : Half) (channel : Byte) :
    Statement (.subscribe radio sequence station channel) := of_payload rfl rfl rfl (by decide)
theorem unsubscribe (radio : RadioIx) (sequence : Byte) (station : Half) (channel : Byte) :
    Statement (.unsubscribe radio sequence station channel) := of_payload rfl rfl rfl (by decide)
theorem released (radio : RadioIx) (sequence : Byte) (station : Half) (device : Address) (undelivered : Half) :
    Statement (.released radio sequence station device undelivered) := of_payload rfl rfl rfl (by decide)
theorem keepalive (radio : RadioIx) (sequence : Byte) (flags : Byte) :
    Statement (.keepalive radio sequence flags) := of_payload rfl rfl rfl (by decide)
theorem corruptControlMessage (radio : RadioIx) (bytes : List Byte) :
    Statement (.corruptControlMessage radio bytes) := of_none rfl
theorem malformedControlMessage (radio : RadioIx) (bytes : List Byte) :
    Statement (.malformedControlMessage radio bytes) := of_none rfl
theorem downlinkFanFrame (frame : FanFrame) :
    Statement (.downlinkFanFrame frame) := of_none rfl
theorem uplinkFanFrame (radio : RadioIx) (frame : FanFrame) :
    Statement (.uplinkFanFrame radio frame) := of_none rfl
theorem transmitComplete (radio : RadioIx) :
    Statement (.transmitComplete radio) := of_none rfl
theorem replayPacket (frameCheck : Bool) (body : List Byte) :
    Statement (.replayPacket frameCheck body) := of_none rfl
theorem groupDecision (radio : RadioIx) (channel : ChannelIx) (which : Nat) :
    Statement (.groupDecision radio channel which) := of_none rfl
theorem expirySweepVisit : Statement .expirySweepVisit := of_none rfl
theorem zoneSweepVisit : Statement .zoneSweepVisit := of_none rfl
theorem spiWriteRequest (bytes : List Byte) :
    Statement (.spiWriteRequest bytes) := of_none rfl
theorem spiReadResponse (clocked : Nat) :
    Statement (.spiReadResponse clocked) := of_none rfl
theorem spiOtherCommand (command : Byte) (bytes : List Byte) :
    Statement (.spiOtherCommand command bytes) := of_none rfl
theorem trunkControlFrame (frameCheck : Bool) (source : Address) (body : List Byte) :
    Statement (.trunkControlFrame frameCheck source body) := of_none rfl
theorem unknownRequestKind (lane : LaneIx) :
    Statement (.unknownRequestKind lane) := of_none rfl
theorem radioProfileSet (lane : LaneIx) :
    Statement (.radioProfileSet lane) := of_none rfl
theorem seatMapWrite (lane : LaneIx) :
    Statement (.seatMapWrite lane) := of_none rfl
theorem linkRestart (lane : LaneIx) :
    Statement (.linkRestart lane) := of_none rfl
theorem linkFaultArm (lane : LaneIx) :
    Statement (.linkFaultArm lane) := of_none rfl
theorem stationEject (lane : LaneIx) :
    Statement (.stationEject lane) := of_none rfl
theorem phaseSet (lane : LaneIx) :
    Statement (.phaseSet lane) := of_none rfl
theorem sectorSet (lane : LaneIx) :
    Statement (.sectorSet lane) := of_none rfl
theorem matchClear (lane : LaneIx) :
    Statement (.matchClear lane) := of_none rfl
theorem countersClear (lane : LaneIx) :
    Statement (.countersClear lane) := of_none rfl
theorem passLoad (lane : LaneIx) :
    Statement (.passLoad lane) := of_none rfl
theorem passAmend (lane : LaneIx) :
    Statement (.passAmend lane) := of_none rfl
theorem passRevoke (lane : LaneIx) :
    Statement (.passRevoke lane) := of_none rfl
theorem passRemove (lane : LaneIx) :
    Statement (.passRemove lane) := of_none rfl
theorem passUnlock (lane : LaneIx) :
    Statement (.passUnlock lane) := of_none rfl
theorem channelOpen (lane : LaneIx) :
    Statement (.channelOpen lane) := of_none rfl
theorem channelClose (lane : LaneIx) :
    Statement (.channelClose lane) := of_none rfl
theorem noticeLevelsSet (lane : LaneIx) :
    Statement (.noticeLevelsSet lane) := of_none rfl
theorem noticeMaskSet (lane : LaneIx) :
    Statement (.noticeMaskSet lane) := of_none rfl
theorem noticeAccept (lane : LaneIx) :
    Statement (.noticeAccept lane) := of_none rfl
theorem noticeReturn (lane : LaneIx) :
    Statement (.noticeReturn lane) := of_none rfl
theorem noticeClear (lane : LaneIx) :
    Statement (.noticeClear lane) := of_none rfl
theorem stationRead (lane : LaneIx) :
    Statement (.stationRead lane) := of_none rfl
theorem passRead (lane : LaneIx) :
    Statement (.passRead lane) := of_none rfl
theorem radioRead (lane : LaneIx) :
    Statement (.radioRead lane) := of_none rfl
theorem groupRead (lane : LaneIx) :
    Statement (.groupRead lane) := of_none rfl
theorem seatMapRead (lane : LaneIx) :
    Statement (.seatMapRead lane) := of_none rfl
theorem countersRead (lane : LaneIx) :
    Statement (.countersRead lane) := of_none rfl
theorem sectorRead (lane : LaneIx) :
    Statement (.sectorRead lane) := of_none rfl
theorem rightsSet (lane : LaneIx) :
    Statement (.rightsSet lane) := of_none rfl
theorem sectorTimeTick : Statement .sectorTimeTick := of_none rfl

end Sys2Proof.Laws.MessageLength
end

