-- ==== Sys2Proof/Tests/Slice0.lean ====
section
/-! SUPPORT. Tests on small states, with the expected values of the manual's worked sequences and tables, and for each statement that
has hypotheses a theorem `witness_<Statement>` that shows concrete states and operands that meet them, clause by clause. -/

namespace Sys2Proof.Tests

-- The proofs are checked one after another, so that they share one thread's stack.
set_option Elab.async false

open Sys2Proof.Machine

/-! ### Helpers -/

/-- A link that is UP, with the default profile. -/
def upLink : SeatLink := { SeatLink.powerOn true with state := .up, awaitingFirstUp := false }

/-- The device with every link UP and nothing else changed since reset. -/
def up : State := { State.reset with links := Vector.replicate 64 upLink }

/-- A GUEST with a place. -/
def guest (device : Address) (place : Place) : Station :=
  { device := device, place := place, rate := 4, tier := .guest, binding := none, subs := [] }

/-- The device at 60,000 ms with these stations, on links that are all UP. -/
def sector (stations : Table Station) : State :=
  { up with
    stations := stations, addressMap := stations.map fun e => (e.2.device.toNat, e.1), sectorTime := 60000,
    stationCount := Vector.ofFn fun r : RadioIx => (stations.filter fun e => e.2.isOn r).length,
    holdFree := 2048 - (stations.map fun e => e.2.held.length).sum }

/-- A frame for device 0xA1. -/
def frame : FanFrame := { destination := 0xA1#48, source := 0xE1#48, payload := [0x08#8, 0#8] }

/-- Device 0xA1: on radio 20; on radio 20 with prior radio 21; roaming from 20 to 21; in a return on 20; lost. -/
def here : Station := guest 0xA1#48 (.associated 20 none)
def came : Station := guest 0xA1#48 (.associated 20 (some { radio := 21, deadline := 61120 }))
def roaming : Station := guest 0xA1#48 (.handoff 20 21 60000 none [frame])
def returning : Station := guest 0xA1#48 (.handoff 20 20 60000 none [frame])
def lost : Station := guest 0xA1#48 (.orphan 20 60000)

/-- A pass of slot 0 for channel 7, from FIRST_HALF to HALFTIME, over blocks 200 to 203. -/
def pass : Pass :=
  { number := 5001, code := 0xBEEF#16, tier := .club, home := 200, width := 4, mask := 0x0080#16, validFrom := .firstHalf,
    validUntil := .halftime, state := .active, bound := [], mismatches := 0 }

/-- A state with one pass, in slot 0, and a phase. -/
def withPass (p : Pass) (phase : Phase) (s : State) : State :=
  { s with passes := [(0, p)], passMap := [(p.number.toNat, 0)], phase := phase }

/-- Device 0xA1 bound to the pass. -/
def member : Station :=
  { here with tier := .club, binding := some { slot := 0, tier := .club, mask := 0x0080#16, zone := [30, 31] } }

/-- A LIVE channel. -/
def live (openAll seatLocked : Bool) (expected : Option Half) : Channel :=
  { state := .live, openAll := openAll, seatLocked := seatLocked, expected := expected }

/-- Device 0xA1 with an entry for each of these channels. -/
def subscribed (cs : List ChannelIx) : Station :=
  { here with subs := cs.map fun c => { channel := c, awaitingKey := true, paused := false } }

/-- A state with channel 4 as given. -/
def channel4 (ch : Channel) (s : State) : State := s.setChannel 4 ch

/-- Device 0xA1 in the group of radio 20 and channel 4, which is OPEN. -/
def grouped (d : Delivery) : State :=
  { channel4 (live true false (some 503#16)) (sector [(0, subscribed [4])]) with
    groups := [(324, { members := [0], delivery := d })] }

/-- What a command leaves. -/
def after (i : Instr) (s : State) : State := match exec i s with | .next t => t | _ => s

/-- A message with sequence number 0 as its owner sees it. -/
def got (r : RadioIx) (s : State) : State :=
  (s.setLink r { s.links[r] with rxSequence := 1#8 }).count (.link r .messagesReceived)

theorem arrives (r : RadioIx) (s : State) (hu : s.links[r].state = .up) (hq : s.links[r].rxSequence = 0#8)
    (hi : s.inReset = false := by rfl) :
    Arrives r 0#8 s (got r s) := ⟨hi, hu, hq, rfl⟩

/-- A request of a kind. -/
def request (k : RequestKind) (params : List Byte) : Request := { kind := k.code, tag := 7#8, params := params }

/-- The request waits alone on lane 0. -/
def asked (k : RequestKind) (params : List Byte) (s : State) : State :=
  s.setLane 0 { s.lanes[(0 : LaneIx)] with queue := [request k params] }

/-- The request is taken off lane 0. -/
def heard (k : RequestKind) (params : List Byte) (s : State) : State :=
  (asked k params s).setLane 0 { (asked k params s).lanes[(0 : LaneIx)] with queue := [] }

theorem ready (k : RequestKind) (params : List Byte) (s : State) (hr : s.responses = [])
    (hl : s.lanes[(0 : LaneIx)].rights = 0b111111#6) (hi : s.inReset = false := by rfl) :
    Ready k 0 (request k params) (asked k params s) (heard k params s) := by
  refine ⟨by simpa [asked, State.setLane] using hi, ?_, rfl, ?_⟩
  · simp [State.head, State.canServe, heard, asked, State.setLane, hr, Config.responseList]
  · have h : (heard k params s).lanes[(0 : LaneIx)].rights = 0b111111#6 := by simpa [heard, asked, State.setLane] using hl
    rw [h]
    cases k <;> decide

/-- What serving a request on lane 0 leaves. -/
def served (k : RequestKind) (params : List Byte) (s : State) : State := after (k.command 0) (asked k params s)

/-- The oldest response on lane 0's list. -/
def answer (s : State) : Option (Answer × List Byte) := s.responses.head?.map fun r => (r.answer, r.block)

/-- A table that has an entry under each key has no lowest free one. -/
theorem full_table {α : Type} (v : α) (n : Nat) : Table.lowestFree ((List.range n).map fun k => (k, v)) n = none := by
  cases h : Table.lowestFree ((List.range n).map fun k => (k, v)) n with
  | none => rfl
  | some k =>
    have hs := Table.lowestFree_spec h
    have hw : Table.wf ((List.range n).map fun k => (k, v)) = true := by
      rw [Table.wf_iff]
      simpa [Function.comp_def] using List.pairwise_lt_range
    have hf := Table.find_of_mem (k := k) (v := v) hw (by simp; omega)
    simp_all

/-! ### Well-formed commands -/

/-- R32: a message with a correct CRC is no corrupt one. -/
theorem test_corrupt_needs_a_wrong_crc :
    (Instr.corruptControlMessage 0 (withCrc [9#8, 0#8, 0xFF#8, 0xFF#8, 1#8, 0#8])).wellFormed = false := by decide +kernel

/-- R34: a message of a known kind and length is no malformed one, and neither is one with a wrong CRC. -/
theorem test_malformed_needs_a_wrong_shape :
    (Instr.malformedControlMessage 0 (withCrc [9#8, 0#8, 0xFF#8, 0xFF#8, 1#8, 0#8])).wellFormed = false ∧
      (Instr.malformedControlMessage 0 []).wellFormed = false := by decide +kernel

/-- R176: commands 0x01 and 0x02 are no other commands. -/
theorem test_other_spi_command : (Instr.spiOtherCommand 1#8 []).wellFormed = false ∧
    (Instr.spiOtherCommand 2#8 []).wellFormed = false ∧ (Instr.spiOtherCommand 3#8 []).wellFormed = true := by decide +kernel

/-- R177: the CRC's parameters are those of the CRC-16 whose check value over "123456789" is 0x29B1. -/
theorem test_crc : crc16 [0x31#8, 0x32#8, 0x33#8, 0x34#8, 0x35#8, 0x36#8, 0x37#8, 0x38#8, 0x39#8] = 0x29B1#16 := by
  decide +kernel

/-! ### The whole machine -/

/-- The device held in reset, with a response and a raised line. -/
def held : State :=
  { up with inReset := true, responses := [{ kind := 0x56#8, tag := 7#8, answer := .done, block := [] }],
            notices := up.notices.map fun n => { n with lineUp := true } }

theorem witness_PowerOnResetStartsEveryBlock : held.inReset = true ∧ ∀ e, Instr.sectorTimeTick ≠ .powerOnReset e :=
  ⟨rfl, by simp⟩

/-- R152: a device held in reset has its pins low and takes nothing until it leaves reset. -/
theorem test_held_in_reset : held.readyPin = false ∧ held.noticePin = false ∧ after (.spiReadResponse 8) held = held ∧
    (after (.powerOnReset .held) up).inReset = true ∧ (after (.powerOnReset (.left 0#64)) held).inReset = false ∧
    (after (.powerOnReset (.left 0#64)) held).responses = [] := by decide +kernel

/-- The states that the witnesses below name are those of a device that is not held in reset, as `s.inReset = false` asks. -/
theorem witness_NotHeldInReset : up.inReset = false ∧ State.reset.inReset = false ∧ (∀ carrier, (State.powerOn carrier).inReset = false) ∧
    (∀ stations, (sector stations).inReset = false) ∧ (∀ p phase s, (withPass p phase s).inReset = s.inReset) ∧
    (∀ r l (s : State), (s.setLink r l).inReset = s.inReset) ∧ ∀ d, (grouped d).inReset = false :=
  ⟨rfl, rfl, fun _ => rfl, fun _ => rfl, fun _ _ _ => rfl, fun _ _ _ => rfl, fun _ => rfl⟩

theorem witness_StepTakesTheFrontCommand : ({ up with pending := [.sectorTimeTick] }).pending = [.sectorTimeTick] ∧
    up.pending = [] := ⟨rfl, rfl⟩

theorem witness_EveryCommandKeepsToItsFootprint : exec .sectorTimeTick up = .next (after .sectorTimeTick up) := rfl

/-- A device with a station in a handoff from radio 20 to 21 that holds a frame, a bound station on radio 31 whose subscription has a
group, an ORPHAN, and a station in a return on radio 40. -/
def stadium : State :=
  withPass { pass with bound := [1] } .firstHalf
    { sector [(0, roaming), (1, { member with device := 0xB2#48, place := .associated 31 none,
                                              subs := [{ channel := 7, awaitingKey := false, paused := false }] }),
        (2, { lost with device := 0xC3#48 }), (3, guest 0xD4#48 (.handoff 40 40 60000 none []))] with
      channels := up.channels.set 7 (live false true none), seatMap := [(200, 30), (201, 31)],
      groups := [(503, { members := [1], delivery := .inStep })], pending := [.carrierLoss 31] }

theorem stadium_inv : stadium.Inv where
  canonical := by decide +kernel
  keys := by decide +kernel
  addresses := by decide +kernel
  counts := by decide +kernel
  bindings := by decide +kernel
  entitlements := by decide +kernel
  subscriptions := by decide +kernel
  groups := by decide +kernel
  profiles := by decide +kernel
  credits := by decide +kernel
  holds := by decide +kernel
  nests := by decide +kernel
  config := by decide +kernel
  zones := by decide +kernel
  passMap := by decide +kernel
  passes := by decide +kernel
  overdue := by decide +kernel
  sweeps := by decide +kernel
  closed := by decide +kernel
  queues := by decide +kernel
  lines := by decide +kernel
  settings := by decide +kernel
  counters := by decide +kernel
  links := by decide +kernel

/-- The hypotheses of every statement that a step keeps an invariant: those of TablesCanonicalKept to LinksSoundKept, the laws that
NoticeLawsKept, RightsKeptAndPhaseForward and RangesKept name being among those of `Inv`, but for RangesKept's two timers. -/
theorem witness_Invariants : stadium.Inv ∧ step stadium = .next (after (.carrierLoss 31) { stadium with pending := [] }) ∧
    { stadium with samplePosition := 99 }.samplePosition < 100 ∧ stadium.settings.InRange ∧
    1 ≤ { stadium with periodInForce := 1 }.periodInForce ∧ { stadium with periodInForce := 100 }.periodInForce ≤ 100 :=
  ⟨stadium_inv, rfl, by decide +kernel⟩

theorem witness_RightsKeptAndPhaseForward : (∀ l, Instr.sectorTimeTick ≠ .rightsSet l) ∧ (∀ l, Instr.sectorTimeTick ≠ .matchClear l) ∧
    (∀ c, Instr.sectorTimeTick ≠ .powerOnReset c) ∧ exec .sectorTimeTick up = .next (after .sectorTimeTick up) := by
  simp [after]; rfl

theorem witness_EveryExitFromUpClearsTheRadio : stadium.Inv ∧ (∀ r c, Instr.carrierLoss r ≠ .powerOnReset c) ∧
    (∀ r, exec (.carrierLoss r) stadium = .next (after (.carrierLoss r) stadium)) ∧
    (∀ r ∈ [(31 : RadioIx), 20, 21, 40], stadium.links[r].state = .up ∧ (after (.carrierLoss r) stadium).links[r].state ≠ .up) ∧
    (∃ e ∈ stadium.stations, e.2.place = .associated 31 none) ∧
    (∃ e ∈ stadium.stations, e.2.place = .handoff 20 21 60000 none [frame]) ∧
    (∃ e ∈ stadium.stations, e.2.place = .handoff 40 40 60000 none []) ∧ ∃ e ∈ stadium.stations, e.2.isOn 31 = false := by
  refine ⟨stadium_inv, by simp, fun _ => rfl, by decide +kernel, by decide +kernel⟩

/-- Section 1.10: an exit orphans the station, and its deadline is the orphan hold of 30,000 ms away. -/
theorem test_exit_orphans : ((after (.carrierLoss 31) stadium).stations.find 1).map Station.place = some (.orphan 31 90000) ∧
    (after (.carrierLoss 31) stadium).stationCount[(31 : RadioIx)] = 0 ∧ (after (.carrierLoss 31) stadium).groups = [] := by
  decide +kernel

/-- R60 to R62: the exit of its old radio's link forces a handoff, that of its target's abandons it, and that of the link of a return
orphans the station. -/
theorem test_exit_handoffs :
    ((after (.carrierLoss 20) stadium).stations.find 0).map Station.place =
      some (.associated 21 (some { radio := 20, deadline := 62000 })) ∧
    ((after (.carrierLoss 21) stadium).stations.find 0).map Station.place = some (.associated 20 none) ∧
    ((after (.carrierLoss 40) stadium).stations.find 3).map Station.place = some (.orphan 40 90000) := by decide +kernel

/-! ### Messages -/

theorem witness_HeadMessagesArriveAsTheirCommands : messageBytes (.leave 5 1#8 7#16) = some (5, headMessage 3#8 1#8 7#16 []) := rfl

/-- Section 11.3: a RATE for station 300, written out, with class 4. -/
theorem test_rate_arrives : arrival 5 (withCrc [4#8, 0x21#8, 0x01#8, 0x2C#8, 1#8, 4#8]) = .rate 5 0x21#8 300#16 4#8 := by
  decide +kernel

/-- A link with an arm. -/
def armed (k : FaultKind) (position count : Nat) : State :=
  up.setLink 9 { upLink with txSequence := 17#8, arm := some { kind := k, position := position, count := count } }

theorem witness_MessagesAreNumberedAndInjected :
    State.reset.links[(9 : RadioIx)].state ≠ .up ∧
    (up.links[(9 : RadioIx)].state = .up ∧ up.links[(9 : RadioIx)].arm = none) ∧
    ∀ k : FaultKind,
      ((armed k 8 6).links[(9 : RadioIx)].state = .up ∧
        (armed k 8 6).links[(9 : RadioIx)].arm = some { kind := k, position := 8, count := 6 } ∧ 6 + 1 ≠ 8) ∧
      ((armed k 1 0).links[(9 : RadioIx)].state = .up ∧
        (armed k 1 0).links[(9 : RadioIx)].arm = some { kind := k, position := 1, count := 0 } ∧ 0 + 1 = 1) :=
  ⟨by decide +kernel, by decide +kernel, fun _ => ⟨⟨rfl, rfl, by decide +kernel⟩, rfl, rfl, rfl⟩⟩

/-- Section 2.11: an injected DROP_MESSAGE consumes sequence 17, sends nothing, and removes the arm. -/
theorem test_dropped_message : ((armed .dropMessage 1 0).send 9 (.release 40 0xA1#48)).links[(9 : RadioIx)].txSequence = 18#8 ∧
    ((armed .dropMessage 1 0).send 9 (.release 40 0xA1#48)).links[(9 : RadioIx)].arm = none ∧
    ((armed .dropMessage 1 0).send 9 (.release 40 0xA1#48)).wire = [] := by decide +kernel

/-- A strict radio 20 with a handoff that awaits RELEASED from it. -/
def strictly : State := { stadium with links := stadium.links.set 20 { upLink with profile := { upLink.profile with strict := true } } }

theorem witness_KeepalivesAndBadMessages :
    (up.links[(5 : RadioIx)].state ≠ .absent ∧ up.links[(5 : RadioIx)].rxSequence ≠ 1#8 ∧
      up.links[(5 : RadioIx)].rxSequence = 0#8 ∧ up.links[(5 : RadioIx)].alertSeen = false ∧ (1#8).getLsbD 0 = true ∧
      (0#8).getLsbD 0 = false) ∧
    (crcFails [] = true ∧ up.links[(5 : RadioIx)].profile.strict = false) ∧
    (crcFails (withCrc [0x0A#8, 0#8, 0#8, 0#8, 0#8]) = false ∧ shapeFails (withCrc [0x0A#8, 0#8, 0#8, 0#8, 0#8]) = true) ∧
    (strictly.links[(20 : RadioIx)].state ≠ .absent ∧ strictly.links[(20 : RadioIx)].profile.strict = true ∧
      strictly.links[(20 : RadioIx)].arm = none) ∧
    ((0, roaming) ∈ strictly.stations ∧ roaming.place = .handoff 20 21 60000 none [frame] ∧ (21 : RadioIx) ≠ 20 ∧
      (3, guest 0xD4#48 (.handoff 40 40 60000 none [])) ∈ strictly.stations) ∧
    exec (.corruptControlMessage 20 []) strictly = .next (after (.corruptControlMessage 20 []) strictly) :=
  ⟨by decide +kernel, by decide +kernel, by decide +kernel, by decide +kernel, by decide +kernel, rfl⟩

theorem witness_KeepalivesAndBadMessages_strict_inv : strictly.Inv :=
  { stadium_inv with
    counts := by decide +kernel
    profiles := by decide +kernel
    credits := by decide +kernel
    queues := by decide +kernel
    links := by decide +kernel }

/-- Section 2.11: a KEEPALIVE with a wrong CRC forces the handoff at once, with guard deadline 2,000 ms away. -/
theorem test_strict_force : ((after (.corruptControlMessage 20 []) strictly).stations.find 0).map Station.place =
    some (.associated 21 (some { radio := 20, deadline := 62000 })) := by decide +kernel

/-- R33: a KEEPALIVE with another number than the one expected is taken on, and the expectation follows it. -/
theorem test_keepalive_gap : (after (.keepalive 5 1#8 0#8) up).links[(5 : RadioIx)].rxSequence = 2#8 ∧
    (after (.keepalive 5 1#8 0#8) up).links[(5 : RadioIx)].keepaliveSeen = true ∧
    (after (.keepalive 5 1#8 0#8) up).counter (.link 5 .sequenceGaps) = 1 := by decide +kernel

/-- R34: a malformed message moves the sequence expectation on. -/
theorem test_malformed : (after (.malformedControlMessage 5 (withCrc [0x0A#8, 0#8, 0#8, 0#8, 0#8])) up).links[(5 : RadioIx)].rxSequence =
    1#8 := by decide +kernel

theorem witness_StraysAndIgnoredMessages_arrives (stations : Table Station) (r : RadioIx) :
    Arrives r 0#8 (sector stations) (got r (sector stations)) :=
  arrives _ _ (by simp [sector, up, upLink]) (by simp [sector, up, upLink, SeatLink.powerOn])

theorem witness_StraysAndIgnoredMessages_strict : Arrives 20 0#8 strictly (got 20 strictly) ∧
    strictly.links[(20 : RadioIx)].profile.strict = true ∧ strictly.links[(20 : RadioIx)].arm = none ∧
    (got 20 strictly).stations.find 0 = some roaming :=
  ⟨arrives _ _ rfl rfl, by decide +kernel⟩

theorem witness_StraysAndIgnoredMessages :
    (∀ i ∈ [Instr.join 5 1#8 0xA1#48 0#8, .roam 5 1#8 0xA1#48 0#8 0#8, .leave 5 1#8 0#16, .rate 5 1#8 0#16 0#8,
        .claim 5 1#8 0#16 5001 0#16, .subscribe 5 1#8 0#16 4#8, .unsubscribe 5 1#8 0#16 4#8, .released 5 1#8 0#16 0xA1#48 0#16],
      gatedMessage i = some (5, 1#8)) ∧
    (∀ s ∈ [up.setLink 5 { upLink with rxSequence := 1#8 }, up], s.inReset = false ∧ s.links[(5 : RadioIx)].state = .up) ∧
    (∀ s ∈ [State.powerOn 32#64, up.setLink 5 { upLink with state := .down }], s.inReset = false ∧
      (s.links[(5 : RadioIx)].state = .detected ∨ s.links[(5 : RadioIx)].state = .down) ∧ s.links[(5 : RadioIx)].rxSequence ≠ 1#8) ∧
    ((up.setLink 5 { upLink with state := .down, rxSequence := 1#8 }).links[(5 : RadioIx)].rxSequence = 1#8 ∧
      up.links[(5 : RadioIx)].rxSequence ≠ 1#8) ∧
    ((got 20 (sector [(0, lost)])).screened 20 0#16 = none ∧ (got 20 (sector [(0, lost)])).screened 20 0x1000#16 = none ∧
      (got 20 (sector [(0, lost)])).screened 20 4095#16 = none) ∧
    (4096 ≤ (0x1000#16).toNat ∧ (4095#16).toNat < 4096 ∧ (got 20 (sector [(0, lost)])).stations.find 4095 = none) ∧
    (∀ st ∈ [lost, here, roaming, returning], ∀ r ∈ [(20 : RadioIx), 21], (got r (sector [(0, st)])).stations.find 0 = some st) ∧
    (lost.place = .orphan 20 60000 ∧ here.place = .associated 20 none ∧ roaming.place = .handoff 20 21 60000 none [frame] ∧
      returning.place = .handoff 20 20 60000 none [frame] ∧ (20 : RadioIx) ≠ 21) ∧
    0xB2#48 ≠ roaming.device ∧ (sector [(0, roaming)]).links[(20 : RadioIx)].profile.strict = false := by
  decide +kernel

/-- R33: a JOIN with another number than the one expected is counted as a gap and taken on all the same. -/
theorem test_join_gap : (after (.join 5 1#8 0xB2#48 4#8) up).counter (.link 5 .sequenceGaps) = 1 ∧
    (after (.join 5 1#8 0xB2#48 4#8) up).links[(5 : RadioIx)].rxSequence = 2#8 ∧
    ((after (.join 5 1#8 0xB2#48 4#8) up).stations.find 0).map Station.place = some (.associated 5 none) := by decide +kernel

/-- R37, R38: a RELEASED with another address is a response error, which on a strict radio forces the handoff; R50: one for a station
that awaits none is late. -/
theorem test_response_error :
    (after (.released 20 0#8 0#16 0xB2#48 0#16) (sector [(0, roaming)])).counter (.link 20 .responseErrors) = 1 ∧
    (after (.released 20 0#8 0#16 0xB2#48 0#16) (sector [(0, roaming)])).stations.find 0 = some roaming ∧
    ((after (.released 20 0#8 0#16 0xB2#48 0#16) strictly).stations.find 0).map Station.current = some 21 ∧
    (after (.released 20 0#8 0#16 0xA1#48 0#16) (sector [(0, here)])).counter (.station .lateReleases) = 1 := by decide +kernel

theorem witness_RateClassIsClampedFirst :
    (11 < (12#8).toNat ∧ (11#8).toNat ≤ 11) ∧
    (Arrives 20 0#8 (sector [(0, here)]) (got 20 (sector [(0, here)])) ∧
      (got 20 (sector [(0, here)])).screened 20 0#16 = some (0, here)) ∧
    (Arrives 5 0#8 up (got 5 up) ∧ (got 5 up).mapped 0xA1#48 = none ∧ (got 5 up).radioFull 5 = false ∧
      (got 5 up).stations.lowestFree 4096 = some 0 ∧ up.links[(5 : RadioIx)].arm = none) ∧
    (grouped .inStep).recipients 4 .key [0] = [{ station := 0, device := 0xA1#48, rate := 4 }] :=
  ⟨by decide +kernel, ⟨arrives _ _ rfl rfl, by decide +kernel⟩, ⟨arrives _ _ rfl rfl, by decide +kernel⟩, by decide +kernel⟩

/-- R12: a RATE replaces the class; one above 11 becomes 11. -/
theorem test_rate : ((after (.rate 20 0#8 0#16 14#8) (sector [(0, here)])).stations.find 0).map Station.rate = some 11 := by decide +kernel

/-! ### Seat links and timers -/

theorem witness_CarrierDrivesTheLink :
    (State.reset.links[(5 : RadioIx)].state = .absent ∧ State.reset.links[(5 : RadioIx)].profile.detect = .onCarrier) ∧
    (State.reset.setLink 5
      { SeatLink.powerOn false with
        profile := { Profile.default with detect := .onUp } }).links[(5 : RadioIx)].profile.detect = .onUp ∧
    (State.powerOn 1#64).links[(0 : RadioIx)].state = .detected ∧
    (up.setLink 5 { upLink with state := .down }).links[(5 : RadioIx)].state = .down ∧ up.links[(5 : RadioIx)].state = .up := by
  decide +kernel

/-- R25: carrier takes the link to DETECTED; its loss takes it back. -/
theorem test_carrier : (after (.carrierAppear 5) State.reset).links[(5 : RadioIx)].state = .detected ∧
    (after (.carrierLoss 0) (State.powerOn 1#64)).links[(0 : RadioIx)].state = .absent := by decide +kernel

/-- Radio 9's link as given, with a sample due. -/
def sampling (l : SeatLink) : State := { up.setLink 9 l with samplesDue := Vector.replicate 64 1 }

/-- A DETECTED link after two good samples, with a keepalive seen. -/
def rising : SeatLink := { SeatLink.powerOn true with sample := .good, filter := 2, keepaliveSeen := true }

/-- An UP link after two misses. -/
def falling : SeatLink := { upLink with sample := .miss, filter := 2 }

theorem witness_SamplesFilterTheLink :
    (sampling upLink).samplesDue[(9 : RadioIx)] ≠ 0 ∧
    (sampling (SeatLink.powerOn false)).links[(9 : RadioIx)].state = .absent ∧
    ((sampling upLink).links[(9 : RadioIx)].state = .up ∧ ¬(SampleKind.miss = .miss ∧ 1 = 3)) ∧
    ((sampling (SeatLink.powerOn true)).links[(9 : RadioIx)].state = .detected ∧ ¬(SampleKind.miss = .good ∧ 1 = 3)) ∧
    ((sampling rising).links[(9 : RadioIx)].state = .detected ∧
      (if (sampling rising).links[(9 : RadioIx)].keepaliveSeen then SampleKind.good else .miss) = .good ∧
      (if (sampling rising).links[(9 : RadioIx)].sample = .good then min ((sampling rising).links[(9 : RadioIx)].filter + 1) 3
        else 1) = 3 ∧ (sampling rising).links[(9 : RadioIx)].awaitingFirstUp = true) ∧
    (sampling { rising with state := .down, profile := { rising.profile with detect := .onUp } }).links[(9 : RadioIx)].profile.detect =
      .onUp ∧
    ((sampling falling).links[(9 : RadioIx)].state = .up ∧
      (if (sampling falling).links[(9 : RadioIx)].keepaliveSeen then SampleKind.good else .miss) = .miss ∧
      (if (sampling falling).links[(9 : RadioIx)].sample = .miss then min ((sampling falling).links[(9 : RadioIx)].filter + 1) 3
        else 1) = 3) := by decide +kernel

/-- Section 2.11: the third GOOD sample takes the link UP, with kind NONE and count 0; R28: the third MISS takes it DOWN. -/
theorem test_samples : (after (.sampleExpiry 9) (sampling rising)).links[(9 : RadioIx)].state = .up ∧
    (after (.sampleExpiry 9) (sampling rising)).links[(9 : RadioIx)].filter = 0 ∧
    (after (.sampleExpiry 9) (sampling falling)).links[(9 : RadioIx)].state = .down := by decide +kernel

/-- The device at a time of section 8.9. -/
def clock (now next : Word) (period : Nat) : State :=
  { up with sectorTime := now, nextExpiry := next, settings := { Settings.default with budgetPeriod := period } }

theorem witness_TimersCountAndRefill :
    ({ up with samplePosition := 98 }).samplePosition < 99 ∧ ({ up with samplePosition := 99 }).samplePosition = 99 ∧
    passed (clock 10 10 4).nextExpiry (clock 10 10 4).sectorTime = true ∧
    passed (clock 9 10 4).nextExpiry (clock 9 10 4).sectorTime = false ∧
    ({ up with refillsDue := Vector.replicate 64 1 }).refillsDue[(17 : RadioIx)] ≠ 0 ∧ up.refillsDue[(17 : RadioIx)] = 0 := by
  decide +kernel

/-- Section 8.9: at 1,003,010 ms the expiry reloads with the setting of 4. -/
theorem test_budget_reload : (after .budgetPeriodExpiry (clock 1003010 1003010 4)).nextExpiry = 1003014 ∧
    (after .budgetPeriodExpiry (clock 1003010 1003010 4)).periodInForce = 4 := by decide +kernel

/-- Section 7.6: a credit of −872 and a refill of 3,000 make 2,128; 5,900 and 2,000 make 6,000, and 1,900 overflow. -/
theorem test_refill :
    (after (.refill 17) { up with refillsDue := Vector.replicate 64 1, credit := Vector.replicate 64 (-872) }).credit[(17 : RadioIx)] =
      2128 ∧
    (after (.refill 17) { (up.setLink 17 { upLink with profile := { upLink.profile with refill := 2000 } }) with
      refillsDue := Vector.replicate 64 1, credit := Vector.replicate 64 5900 }).counter (.airtime 17 .refillOverflow) = 1900 := by
  decide +kernel

/-- R144: sector time wraps. -/
theorem test_tick_wraps : (after .sectorTimeTick { up with sectorTime := 0xFFFFFFFF#32 }).sectorTime = 0 := by decide +kernel

/-! ### Stations -/

/-- A radio that has as many stations as its limit allows: the limit of radio r lowered to `n`. -/
def limited (r : RadioIx) (n : Nat) (s : State) : State :=
  s.setLink r { upLink with profile := { upLink.profile with stationLimit := n } }

/-- Every station context in use. -/
def crowded : State := { up with stations := (List.range 4096).map fun k => (k, here) }

theorem got_stations (r : RadioIx) (s : State) : (got r s).stations = s.stations := rfl

theorem crowded_is_full : Table.lowestFree (got 5 crowded).stations 4096 = none := by
  rw [got_stations, crowded, full_table]

/-- The states serve a JOIN and a ROAM alike: of the ROAM, `base` is the state with the message counted. -/
theorem witness_JoinAllocatesOrRestores :
    (∀ s ∈ [up, limited 20 1 (sector [(0, here)]), crowded, sector [(0, lost)], limited 6 0 (sector [(0, lost)]), sector [(0, here)],
      sector [(0, roaming)]], ∀ r ∈ [(5 : RadioIx), 6, 20, 21], Arrives r 0#8 s (got r s)) ∧
    Table.lowestFree (got 5 crowded).stations 4096 = none ∧ (got 5 crowded).mapped 0xB2#48 = none ∧
    (got 5 crowded).radioFull 5 = false ∧
    ((got 5 up).mapped 0xB2#48 = none ∧ (got 5 up).radioFull 5 = false ∧ (got 5 up).stations.lowestFree 4096 = some 0) ∧
    ((got 20 (limited 20 1 (sector [(0, here)]))).mapped 0xB2#48 = none ∧
      (got 20 (limited 20 1 (sector [(0, here)]))).radioFull 20 = true) ∧
    ((got 6 (sector [(0, lost)])).mapped 0xA1#48 = some (0, lost) ∧ (got 6 (sector [(0, lost)])).radioFull 6 = false) ∧
    ((got 6 (limited 6 0 (sector [(0, lost)]))).mapped 0xA1#48 = some (0, lost) ∧
      (got 6 (limited 6 0 (sector [(0, lost)]))).radioFull 6 = true) ∧
    ((got 20 (sector [(0, here)])).mapped 0xA1#48 = some (0, here) ∧ (got 21 (sector [(0, here)])).mapped 0xA1#48 = some (0, here) ∧
      (20 : RadioIx) ≠ 21) ∧
    (got 21 (sector [(0, roaming)])).mapped 0xA1#48 = some (0, roaming) ∧ lost.place = .orphan 20 60000 ∧
    here.place = .associated 20 none ∧ roaming.place = .handoff 20 21 60000 none [frame] := by
  refine ⟨fun s hs r hr => ?_, crowded_is_full, by decide +kernel⟩
  simp only [List.mem_cons, List.not_mem_nil, or_false] at hs hr
  rcases hr with rfl | rfl | rfl | rfl
  all_goals rcases hs with rfl | rfl | rfl | rfl | rfl | rfl | rfl
  all_goals exact arrives _ _ rfl rfl

/-- R46: a ROAM restores an ORPHAN station; R7: a JOIN for a station on another radio begins a handoff. -/
theorem test_restore_and_join_elsewhere :
    ((after (.roam 6 0#8 0xA1#48 4#8 0#8) (sector [(0, lost)])).stations.find 0).map Station.place = some (.associated 6 none) ∧
    ((after (.join 21 0#8 0xA1#48 4#8) (sector [(0, here)])).stations.find 0).map Station.place =
      some (.handoff 20 21 60040 none []) := by decide +kernel

/-- Section 1.10: with station 0 on radio 20, a JOIN takes context 1, and its class 14 is clamped to 11; the count becomes 2. -/
theorem test_join : ((after (.join 20 0#8 0xB2#48 14#8) (sector [(0, here)])).stations.find 1).map Station.rate = some 11 ∧
    (after (.join 20 0#8 0xB2#48 14#8) (sector [(0, here)])).stationCount[(20 : RadioIx)] = 2 := by decide +kernel

/-- Section 1.10: a JOIN on a radio whose count equals its limit gets REFUSE, which names no station, with RADIO_FULL. -/
theorem test_join_refused : (after (.join 20 0#8 0xB2#48 4#8) (limited 20 1 (sector [(0, here)]))).wire =
    [.control 20 (withCrc [0x82#8, 0#8, 0xFF#8, 0xFF#8, 7#8, 0#8, 0#8, 0#8, 0#8, 0#8, 0xB2#8, 1#8])] := by decide +kernel

theorem witness_RoamBeginsOrSupersedesAHandoff :
    ((Arrives 21 0#8 (sector [(0, came)]) (got 21 (sector [(0, came)])) ∧
        (got 21 (sector [(0, came)])).mapped 0xA1#48 = some (0, came) ∧ (20 : RadioIx) ≠ 21) ∧
      (got 21 (sector [(0, came)])).radioFull 21 = false ∧
      (got 21 (sector [(0, came)])).guarded 21 came.prior ((1#8).getLsbD 0) = false ∧
      (got 21 (sector [(0, came)])).guarded 21 came.prior ((0#8).getLsbD 0) = true ∧
      (Arrives 21 0#8 (limited 21 0 (sector [(0, came)])) (got 21 (limited 21 0 (sector [(0, came)]))) ∧
        (got 21 (limited 21 0 (sector [(0, came)]))).mapped 0xA1#48 = some (0, came) ∧
        (got 21 (limited 21 0 (sector [(0, came)]))).radioFull 21 = true)) ∧
    (∀ m ∈ [(20 : RadioIx), 21, 22], Arrives m 0#8 (sector [(0, roaming)]) (got m (sector [(0, roaming)])) ∧
      (got m (sector [(0, roaming)])).mapped 0xA1#48 = some (0, roaming) ∧
      (got m (sector [(0, roaming)])).radioFull m = false) ∧
    (∀ st ∈ [roaming, returning], Arrives 22 0#8 (limited 22 0 (sector [(0, st)])) (got 22 (limited 22 0 (sector [(0, st)]))) ∧
      (got 22 (limited 22 0 (sector [(0, st)]))).mapped 0xA1#48 = some (0, st) ∧
      (got 22 (limited 22 0 (sector [(0, st)]))).radioFull 22 = true) ∧
    came.place = .associated 20 (some { radio := 21, deadline := 61120 }) ∧
    Arrives 21 0#8 (sector [(0, returning)]) (got 21 (sector [(0, returning)])) ∧
    (got 21 (sector [(0, returning)])).mapped 0xA1#48 = some (0, returning) ∧
    (got 21 (sector [(0, returning)])).radioFull 21 = false := by
  refine ⟨⟨⟨arrives _ _ rfl rfl, by decide +kernel⟩, by decide +kernel, by decide +kernel, by decide +kernel,
    arrives _ _ rfl rfl, by decide +kernel⟩, fun m hm => ?_, fun st hst => ?_, rfl, arrives _ _ rfl rfl, by decide +kernel⟩
  · simp only [List.mem_cons, List.not_mem_nil, or_false] at hm
    rcases hm with rfl | rfl | rfl <;> exact ⟨arrives _ _ rfl rfl, by decide +kernel⟩
  · simp only [List.mem_cons, List.not_mem_nil, or_false] at hst
    rcases hst with rfl | rfl <;> exact ⟨arrives _ _ rfl rfl, by decide +kernel⟩

/-- Section 3.10: at 60,000 ms a ROAM begins a handoff with deadline 60,040; a ROAM from the prior radio, whose guard deadline is
1,120 ms ahead, gets DEFER with 1,120. -/
theorem test_roam : ((after (.roam 21 0#8 0xA1#48 4#8 0#8) (sector [(0, here)])).stations.find 0).map Station.place =
      some (.handoff 20 21 60040 none []) ∧
    (after (.roam 21 0#8 0xA1#48 4#8 0#8) (sector [(0, came)])).wire =
      [.control 21 (withCrc [0x83#8, 0#8, 0#8, 0#8, 8#8, 0#8, 0#8, 0#8, 0#8, 0#8, 0xA1#8, 0x04#8, 0x60#8])] := by decide +kernel

/-- R56: a ROAM from a full third radio, 22, gets REFUSE with RADIO_FULL there, and the handoff stands. -/
theorem test_roam_from_a_full_third_radio :
    (after (.roam 22 0#8 0xA1#48 4#8 0#8) (limited 22 0 (sector [(0, roaming)]))).stations = [(0, roaming)] ∧
    (after (.roam 22 0#8 0xA1#48 4#8 0#8) (limited 22 0 (sector [(0, roaming)]))).wire =
      [.control 22 (withCrc [0x82#8, 0#8, 0#8, 0#8, 7#8, 0#8, 0#8, 0#8, 0#8, 0#8, 0xA1#8, 1#8])] := by decide +kernel

/-- R57: a ROAM from the old radio makes the handoff a return, with a new deadline, and the target loses its count. -/
theorem test_return : ((after (.roam 20 0#8 0xA1#48 4#8 0#8) (sector [(0, roaming)])).stations.find 0).map Station.place =
      some (.handoff 20 20 60040 none [frame]) ∧
    (after (.roam 20 0#8 0xA1#48 4#8 0#8) (sector [(0, roaming)])).stationCount[(21 : RadioIx)] = 0 := by decide +kernel

theorem witness_LeaveFreesOrEndsAHandoff :
    (∀ st ∈ [here, { member with place := .associated 20 none }],
      Arrives 20 0#8 (sector [(0, st)]) (got 20 (sector [(0, st)])) ∧
      (got 20 (sector [(0, st)])).screened 20 0#16 = some (0, st) ∧ st.place = .associated 20 none) ∧
    (Arrives 21 0#8 (sector [(0, roaming)]) (got 21 (sector [(0, roaming)])) ∧
      (got 21 (sector [(0, roaming)])).screened 21 0#16 = some (0, roaming) ∧
      roaming.place = .handoff 20 21 60000 none [frame] ∧ (20 : RadioIx) ≠ 21) ∧
    Arrives 20 0#8 (sector [(0, returning)]) (got 20 (sector [(0, returning)])) ∧
    (got 20 (sector [(0, returning)])).screened 20 0#16 = some (0, returning) ∧
    returning.place = .handoff 20 20 60000 none [frame] ∧ (grouped .inStep).GroupLaw ∧ (sector [(0, roaming)]).GroupLaw ∧
    Arrives 20 0#8 (grouped .inStep) (got 20 (grouped .inStep)) ∧
    (got 20 (grouped .inStep)).screened 20 0#16 = some (0, subscribed [4]) ∧ (subscribed [4]).place = .associated 20 none := by
  refine ⟨fun st hst => ?_, ⟨arrives _ _ rfl rfl, by decide +kernel⟩, arrives _ _ rfl rfl, by decide +kernel, by decide +kernel,
    by decide +kernel, by decide +kernel, arrives _ _ rfl rfl, by decide +kernel⟩
  simp only [List.mem_cons, List.not_mem_nil, or_false] at hst
  rcases hst with rfl | rfl <;> exact ⟨arrives _ _ rfl rfl, by decide +kernel⟩

/-- R13: a LEAVE frees the station and its address. -/
theorem test_leave : (after (.leave 20 0#8 0#16) (sector [(0, here)])).stations = [] ∧
    (after (.leave 20 0#8 0#16) (sector [(0, here)])).addressMap = [] ∧
    (after (.leave 20 0#8 0#16) (sector [(0, here)])).stationCount[(20 : RadioIx)] = 0 ∧
    (after (.leave 20 0#8 0#16) (grouped .inStep)).groups = [] := by decide +kernel

theorem witness_ReleaseCompletesTheHandoff :
    Arrives 20 0#8 (sector [(0, roaming)]) (got 20 (sector [(0, roaming)])) ∧
    (got 20 (sector [(0, roaming)])).screened 20 0#16 = some (0, roaming) ∧
    roaming.place = .handoff 20 21 60000 none [frame] ∧ (21 : RadioIx) ≠ 20 :=
  ⟨arrives _ _ rfl rfl, by decide +kernel⟩

/-- Section 3.10: a RELEASED with 2 undelivered frames completes the handoff with a guard deadline 2,000 ms away. -/
theorem test_released : ((after (.released 20 0#8 0#16 0xA1#48 2#16) (sector [(0, roaming)])).stations.find 0).map Station.place =
      some (.associated 21 (some { radio := 20, deadline := 62000 })) ∧
    (after (.released 20 0#8 0#16 0xA1#48 2#16) (sector [(0, roaming)])).counter (.station .undeliveredFrames) = 2 ∧
    (after (.released 20 0#8 0#16 0xA1#48 2#16) (sector [(0, roaming)])).holdFree = 2048 := by decide +kernel

theorem witness_DeadlinesExpireWhenPassed :
    (∀ st ∈ [roaming, returning], (sector [(0, st)]).stations.find 0 = some st ∧ passed 60000 (sector [(0, st)]).sectorTime = true ∧
      passed 60000 { sector [(0, st)] with sectorTime := 59999 }.sectorTime = false) ∧
    (roaming.place = .handoff 20 21 60000 none [frame] ∧ returning.place = .handoff 20 20 60000 none [frame]) ∧
    ((sector [(0, came)]).stations.find 0 = some came ∧ came.prior = some { radio := 21, deadline := 61120 } ∧
      passed 61120 60000 = false ∧ passed 61120 61120 = true) ∧
    (sector [(0, lost)]).stations.find 0 = some lost ∧ lost.place = .orphan 20 60000 := by decide +kernel

/-- R57: the deadline of a return leaves the station on its radio. -/
theorem test_handoff_deadline : ((after (.handoffDeadlineExpiry 0) (sector [(0, returning)])).stations.find 0).map Station.place =
    some (.associated 20 none) := by decide +kernel

/-- R54: the guard deadline removes the prior pair. -/
theorem test_guard_deadline :
    ((after (.guardDeadlineExpiry 0) { sector [(0, came)] with sectorTime := 61120 }).stations.find 0) = some here := by
  decide +kernel

/-- R16: the orphan deadline frees the station. -/
theorem test_orphan_deadline : (after (.orphanDeadlineExpiry 0) (sector [(0, lost)])).stations = [] := by decide +kernel

/-- Device 0xA1 in HANDOFF with as many frames as a GUEST may hold. -/
def laden : Station := guest 0xA1#48 (.handoff 20 21 60000 none (List.replicate 8 frame))

theorem witness_FanFramesFollowTheStation :
    (sector []).mapped frame.destination = none ∧
    ((sector [(0, here)]).mapped frame.destination = some (0, here) ∧ here.place = .associated 20 none) ∧
    ((sector [(0, roaming)]).mapped frame.destination = some (0, roaming) ∧ [frame].length < roaming.tier.holdDepth ∧
      (sector [(0, roaming)]).holdFree ≠ 0 ∧ { sector [(0, roaming)] with holdFree := 0 }.holdFree = 0) ∧
    ((sector [(0, laden)]).mapped frame.destination = some (0, laden) ∧
      ¬ (List.replicate 8 frame).length < laden.tier.holdDepth) ∧
    ((sector [(0, lost)]).mapped frame.destination = some (0, lost) ∧ lost.place = .orphan 20 60000) ∧
    ((sector [(0, here)]).mapped 0xA1#48 = some (0, here) ∧ (sector [(0, here)]).mapped 0xE1#48 = none) ∧
    (up.setLink 20 { upLink with queue := [.fan frame] }).links[(20 : RadioIx)].queue = [.fan frame] := by decide +kernel

/-- Section 3.10: a downlink frame for a station in HANDOFF is held in a buffer of the pool. -/
theorem test_downlink_held : (after (.downlinkFanFrame frame) (sector [(0, roaming)])).holdFree = 2046 ∧
    ((after (.downlinkFanFrame frame) (sector [(0, roaming)])).stations.find 0).map Station.held = some [frame, frame] := by
  decide +kernel

/-- R21: an uplink frame from a radio that its station is not on is dropped. -/
theorem test_uplink : (after (.uplinkFanFrame 20 { frame with source := 0xA1#48 }) (sector [(0, here)])).wire =
      [.uplink { frame with source := 0xA1#48 }] ∧
    (after (.uplinkFanFrame 21 { frame with source := 0xA1#48 }) (sector [(0, here)])).wire = [] := by decide +kernel

/-- R20: the oldest entry leaves the transmit queue. -/
theorem test_transmit : (after (.transmitComplete 20) (up.setLink 20 { upLink with queue := [.fan frame] })).wire =
    [.radioFrame 20 (.fan frame)] := by decide +kernel

/-! ### Claims and sweeps -/

/-- Device 0xA1 on radio 20, and the pass in slot 0. -/
def claiming (p : Pass) (phase : Phase) : State := withPass p phase (sector [(0, here)])

/-- Device 0xA1 bound to pass 5001 of slot 0, with pass 5002, which grants the same, in slot 1. -/
def rebinding : State :=
  { sector [(0, member)] with
    passes := [(0, { pass with bound := [0] }), (1, { pass with number := 5002 })], passMap := [(5001, 0), (5002, 1)],
    phase := .firstHalf }

theorem witness_ClaimBindsTheStation :
    (∀ s ∈ [claiming pass .firstHalf, rebinding], Arrives 20 0#8 s (got 20 s)) ∧
    (got 20 (claiming pass .firstHalf)).screened 20 0#16 = some (0, here) ∧ here.current = 20 ∧ here.binding = none ∧
    (got 20 (claiming pass .firstHalf)).passNumbered 5001 = some (0, pass) ∧ pass.state = .active ∧
    pass.begun (got 20 (claiming pass .firstHalf)).phase = true ∧ pass.ended (got 20 (claiming pass .firstHalf)).phase = false ∧
    0 ∉ pass.bound ∧ pass.bound.length < 2 ∧
    ((got 20 rebinding).screened 20 0#16 = some (0, member) ∧ member.current = 20 ∧
      pass.begun (got 20 rebinding).phase = true ∧ pass.ended (got 20 rebinding).phase = false) ∧
    ((got 20 rebinding).passNumbered 5002 = some (1, { pass with number := 5002 }) ∧
      member.binding = some { slot := 0, tier := .club, mask := 0x0080#16, zone := [30, 31] } ∧ 0 ≠ 1 ∧ rebinding.GroupLaw ∧
      rebinding.links[(20 : RadioIx)].arm = none) ∧
    (got 20 rebinding).passNumbered 5001 = some (0, { pass with bound := [0] }) ∧ 0 ∈ { pass with bound := [0] }.bound := by
  refine ⟨fun s hs => ?_, by decide +kernel⟩
  simp only [List.mem_cons, List.not_mem_nil, or_false] at hs
  rcases hs with rfl | rfl <;> exact arrives _ _ rfl rfl

/-- R96: a claim of another pass moves the station from one bound list to the other; R95: a claim of its own pass changes neither. -/
theorem test_rebind :
    (after (.claim 20 0#8 0#16 5002 0xBEEF#16) rebinding).passes.map (fun e => e.2.bound) = [[], [0]] ∧
    (after (.claim 20 0#8 0#16 5001 0xBEEF#16) rebinding).passes.map (fun e => e.2.bound) = [[0], []] := by decide +kernel

/-- A claim of pass 5001 as it stands, in a phase, arrives and passes the screen. -/
theorem witness_ClaimIsRefusedInOrder_arrives (p : Pass) (phase : Phase) (h : p.number = 5001) :
    Arrives 20 0#8 (claiming p phase) (got 20 (claiming p phase)) ∧
    (got 20 (claiming p phase)).screened 20 0#16 = some (0, here) ∧
    (got 20 (claiming p phase)).passNumbered 5001 = some (0, p) := by
  refine ⟨arrives _ _ rfl rfl, rfl, ?_⟩
  simp [State.passNumbered, got, claiming, withPass, State.count, State.addTo, State.setLink, h]

theorem witness_ClaimIsRefusedInOrder :
    (Arrives 21 0#8 (sector [(0, roaming)]) (got 21 (sector [(0, roaming)])) ∧
      (got 21 (sector [(0, roaming)])).screened 21 0#16 = some (0, roaming) ∧ roaming.current ≠ 21) ∧
    (Arrives 20 0#8 (sector [(0, here)]) (got 20 (sector [(0, here)])) ∧ here.current = 20 ∧
      (got 20 (sector [(0, here)])).passNumbered 5001 = none) ∧
    (∀ q ∈ [PassState.revoked, .expired, .locked, .active], { pass with state := q }.number = 5001 ∧
      { pass with state := q }.state = q) ∧
    (pass.begun .pregame = false ∧ pass.begun .firstHalf = true ∧ pass.ended .secondHalf = true ∧ pass.ended .halftime = false) ∧
    (0xBEEE#16 ≠ pass.code ∧ { pass with mismatches := 1 }.mismatches < 2 ∧ { pass with mismatches := 2 }.mismatches = 2) ∧
    0 ∉ { pass with bound := [1, 2] }.bound ∧ 2 ≤ { pass with bound := [1, 2] }.bound.length :=
  ⟨⟨arrives _ _ rfl rfl, by decide +kernel⟩, ⟨arrives _ _ rfl rfl, by decide +kernel⟩, by decide +kernel, by decide +kernel,
    by decide +kernel, by decide +kernel⟩

/-- R84: the third mismatch locks the pass; R95: a claim before its window begins leaves it as it is. -/
theorem test_claim_refused :
    (after (.claim 20 0#8 0#16 5001 0#16) (claiming { pass with mismatches := 2 } .halftime)).passes.find 0 =
      some { pass with mismatches := 3, state := .locked } ∧
    (after (.claim 20 0#8 0#16 5001 0#16) (claiming pass .pregame)).passes.find 0 = some pass := by decide +kernel

/-- Section 5.7: a claim gives the pass's tier, and the zone set of its blocks in the seat map. -/
theorem test_claim : ((after (.claim 20 0#8 0#16 5001 0xBEEF#16)
      { claiming pass .firstHalf with seatMap := [(200, 30), (201, 30), (202, 33), (203, 33)] }).stations.find 0).map
        (fun st => (st.tier, st.binding)) =
      some (.club, some { slot := 0, tier := .club, mask := 0x0080#16, zone := [30, 33] }) := by decide +kernel

/-- The expiry sweep at a slot, with a pass in slot 0. -/
def expiring (cursor : Nat) (p : Pass) (phase : Phase) : State :=
  { withPass p phase (sector [(0, member)]) with expirySweep := { running := true, cursor := cursor } }

/-- The zone sweep at a station, over the seat map of section 5.7. -/
def zoning (cursor : Nat) : State :=
  { withPass { pass with bound := [0] } .firstHalf (sector [(0, member)]) with
    zoneSweep := { running := true, cursor := cursor }, seatMap := [(200, 30), (201, 30), (202, 33), (203, 33)] }

/-- The expiry sweep at the last slot, whose pass is overdue. -/
def lastSlot : State :=
  { sector [(0, member)] with
    passes := [(8191, { pass with bound := [0] })], passMap := [(5001, 8191)], phase := .secondHalf,
    expirySweep := { running := true, cursor := 8191 } }

/-- The zone sweep at the last station, which is bound, over a seat map that its zone set follows. -/
def lastStation : State :=
  { withPass { pass with bound := [4095] } .firstHalf (sector [(4095, member)]) with
    zoneSweep := { running := true, cursor := 4095 }, seatMap := [(200, 30), (201, 31)] }

theorem witness_SweepsVisitInOrder :
    (up.expirySweep.running = false ∧ up.zoneSweep.running = false) ∧
    ((expiring 0 pass .halftime).expirySweep.running = true ∧ (expiring 0 pass .halftime).expirySweep.cursor < 8191 ∧
      ∀ p, (expiring 0 pass .halftime).passes.find (expiring 0 pass .halftime).expirySweep.cursor = some p →
        p.overdue (expiring 0 pass .halftime).phase = false) ∧
    ((expiring 8191 pass .halftime).expirySweep.cursor = 8191 ∧ (expiring 8191 pass .halftime).passes.find 8191 = none) ∧
    ((expiring 0 { pass with bound := [0] } .secondHalf).passes.find 0 = some { pass with bound := [0] } ∧
      { pass with bound := [0] }.overdue (expiring 0 { pass with bound := [0] } .secondHalf).phase = true) ∧
    ((zoning 0).zoneSweep.running = true ∧ (zoning 0).zoneSweep.cursor < 4095 ∧ (zoning 0).stations.find 0 = some member ∧
      member.binding = some { slot := 0, tier := .club, mask := 0x0080#16, zone := [30, 31] } ∧
      (zoning 0).passes.find 0 = some { pass with bound := [0] }) ∧
    ((zoning 4094).stations.find (zoning 4094).zoneSweep.cursor = none ∧ (zoning 4094).zoneSweep.cursor < 4095 ∧
      (zoning 4095).stations.find (zoning 4095).zoneSweep.cursor = none) ∧
    (lastSlot.expirySweep = { running := true, cursor := 8191 } ∧ lastSlot.passes.find 8191 = some { pass with bound := [0] } ∧
      { pass with bound := [0] }.overdue lastSlot.phase = true) ∧
    (lastStation.zoneSweep = { running := true, cursor := 4095 } ∧ lastStation.stations.find 4095 = some member ∧
      lastStation.passes.find 0 = some { pass with bound := [4095] } ∧ zoneOf lastStation.seatMap 200 4 = [30, 31] ∧
      zoneOf (zoning 0).seatMap 200 4 ≠ [30, 31]) ∧
    ({ sector [(0, here)] with zoneSweep := { running := true, cursor := 0 } }.stations.find 0 = some here ∧
      here.binding = none) := by
  refine ⟨by decide +kernel, ⟨by decide +kernel, by decide +kernel, fun p hp => ?_⟩, by decide +kernel, by decide +kernel,
    by decide +kernel, by decide +kernel, by decide +kernel, by decide +kernel, by decide +kernel⟩
  cases (Option.some.inj hp : pass = p)
  decide +kernel

/-- Section 4.10: a visit of a pass whose window has ended expires it, and its station becomes a GUEST. -/
theorem test_expiry_visit :
    ((after .expirySweepVisit (expiring 0 { pass with bound := [0] } .secondHalf)).passes.find 0).map Pass.state = some .expired ∧
    ((after .expirySweepVisit (expiring 0 { pass with bound := [0] } .secondHalf)).stations.find 0).map Station.tier = some .guest := by
  decide +kernel

/-- Section 5.7: the visit of a station of pass 5001 gives it the zone set 30, 33, and counts one change. -/
theorem test_zone_visit : ((after .zoneSweepVisit (zoning 0)).stations.find 0).bind Station.binding =
      some { slot := 0, tier := .club, mask := 0x0080#16, zone := [30, 33] } ∧
    (after .zoneSweepVisit (zoning 0)).counter (.admission .zoneChanges) = 1 ∧
    (after .zoneSweepVisit (zoning 0)).zoneSweep.cursor = 1 := by decide +kernel

/-- R89, R109: the visit of the last slot, or of the last station, completes its run. -/
theorem test_last_visits : (after .expirySweepVisit lastSlot).expirySweep = { running := false, cursor := 0 } ∧
    ((after .expirySweepVisit lastSlot).passes.find 8191).map Pass.state = some .expired ∧
    (after .zoneSweepVisit lastStation).zoneSweep = { running := false, cursor := 0 } := by decide +kernel

/-! ### Replay and airtime -/

theorem witness_SubscribeAndUnsubscribe :
    (∀ s ∈ [sector [(0, roaming)], grouped .inStep, sector [(0, here)], sector [(0, subscribed [0, 1, 2, 3])],
      channel4 (live true false none) (sector [(0, subscribed [0, 1, 2])])], ∀ r ∈ [(20 : RadioIx), 21], Arrives r 0#8 s (got r s)) ∧
    ((got 21 (sector [(0, roaming)])).screened 21 0#16 = some (0, roaming) ∧ roaming.current ≠ 21) ∧
    ((got 20 (grouped .inStep)).screened 20 0#16 = some (0, subscribed [4]) ∧ (subscribed [4]).current = 20 ∧
      ((subscribed [4]).entry 4).isSome = true ∧
      (grouped .inStep).group 20 4 = some { members := [0], delivery := .inStep } ∧ [0].erase 0 = [] ∧ [0, 1].erase 0 ≠ []) ∧
    ((got 20 (sector [(0, here)])).screened 20 0#16 = some (0, here) ∧ here.entry 4 = none ∧ here.subs.length < 4 ∧
      permitted (got 20 (sector [(0, here)])).channels here.binding 4 = false) ∧
    ((got 20 (sector [(0, subscribed [0, 1, 2, 3])])).screened 20 0#16 = some (0, subscribed [0, 1, 2, 3]) ∧
      (subscribed [0, 1, 2, 3]).entry 4 = none ∧ 4 ≤ (subscribed [0, 1, 2, 3]).subs.length ∧
      (subscribed [0, 1, 2, 3]).current = 20 ∧ here.current = 20 ∧ 16 ≤ (16#8).toNat ∧ 16 ≤ (255#8).toNat) ∧
    (got 20 (channel4 (live true false none) (sector [(0, subscribed [0, 1, 2])]))).screened 20 0#16 =
      some (0, subscribed [0, 1, 2]) ∧
    (subscribed [0, 1, 2]).entry 4 = none ∧ (subscribed [0, 1, 2]).subs.length < 4 ∧
    permitted (channel4 (live true false none) (sector [(0, subscribed [0, 1, 2])])).channels (subscribed [0, 1, 2]).binding 4 =
      true := by
  refine ⟨fun s hs r hr => ?_, by decide +kernel⟩
  simp only [List.mem_cons, List.not_mem_nil, or_false] at hs hr
  rcases hr with rfl | rfl
  all_goals rcases hs with rfl | rfl | rfl | rfl | rfl
  all_goals exact arrives _ _ rfl rfl

/-- Section 6.11: a subscriber is appended awaiting a key, and its group is created in SKIP_TO_KEY. -/
theorem test_subscribe :
    (after (.subscribe 20 0#8 0#16 4#8) (channel4 (live true false none) (sector [(0, here)]))).group 20 4 =
      some { members := [0], delivery := .skipToKey } ∧
    ((after (.subscribe 20 0#8 0#16 4#8) (channel4 (live true false none) (sector [(0, here)]))).stations.find 0).map Station.subs =
      some [{ channel := 4, awaitingKey := true, paused := false }] := by decide +kernel

/-- Section 6.11, R118 step 4: a SUBSCRIBE to channel 200, which does not exist, gets SUB_RESULT with DENIED. -/
theorem test_subscribe_beyond_the_channels : (after (.subscribe 20 0#8 0#16 200#8) (sector [(0, here)])).wire =
    [.control 20 (withCrc [0x87#8, 0#8, 0#8, 0#8, 2#8, 200#8, 2#8])] := by decide +kernel

/-- R119: an UNSUBSCRIBE removes the entry, and the group that is left empty is discarded. -/
theorem test_unsubscribe : (after (.unsubscribe 20 0#8 0#16 4#8) (grouped .inStep)).groups = [] ∧
    (after (.unsubscribe 20 0#8 0#16 4#8) (grouped .inStep)).stations.find 0 = some here := by decide +kernel

/-- The body of a replay packet on channel 4: class 0 KEY, 1 DELTA. -/
def packetBody (k : Byte) (sequence length : Nat) : List Byte :=
  [4#8, k] ++ be16 sequence ++ be16 length ++ List.replicate length 0#8

/-- The packet of that body. -/
def packet (cls : ReplayClass) (sequence : Half) (length : Nat) : Packet :=
  { channel := 4, cls := cls, sequence := sequence, contents := List.replicate length 0#8 }

theorem witness_IngressFollowsTheSequence :
    packetOf (packetBody 1#8 503 63) = none ∧
    (packetOf (packetBody 1#8 503 64) = some (packet .delta 503 64) ∧ packetOf (packetBody 0#8 503 64) = some (packet .key 503 64)) ∧
    (up.channels[(packet .delta 503 64).channel].state = .closed) ∧
    ((channel4 (live true false none) up).channels[(packet .delta 503 64).channel].state = .live ∧
      (channel4 (live true false none) up).channels[(4 : ChannelIx)].expected = none ∧
      (channel4 (live true false (some 503#16)) up).channels[(4 : ChannelIx)].expected = some 503#16) ∧
    ((packet .delta 504 64).sequence ≠ 503#16 ∧ ((packet .delta 504 64).sequence - 503#16).toNat < 32768 ∧
      ((packet .delta 33270 64).sequence - 503#16).toNat < 32768 ∧
      32768 ≤ ((packet .delta 33271 64).sequence - 503#16).toNat) := by decide +kernel

/-- Section 6.11: DELTA 505 where 503 is expected is a gap: the group takes SKIP_TO_KEY and 506 is expected; KEY 503 is offered. -/
theorem test_ingress :
    (after (.replayPacket true (packetBody 1#8 505 64)) (grouped .inStep)).group 20 4 =
      some { members := [0], delivery := .skipToKey } ∧
    (after (.replayPacket true (packetBody 1#8 505 64)) (grouped .inStep)).channels[(4 : ChannelIx)].expected = some 506#16 ∧
    (after (.replayPacket true (packetBody 0#8 503 64)) (grouped .inStep)).offers =
      [{ radio := 20, channel := 4, packet := packet .key 503 64 }] := by decide +kernel

/-- Section 7.1: the time on air of 1,000 bytes at each rate class of the table. -/
theorem test_airtime : [0, 3, 4, 7, 11].map (airtime 1000) = [1334, 334, 223, 84, 21] := by decide +kernel

theorem witness_TimeOnAirIsTheCeiling : 0 < 64 ∧ 64 ≤ 64 ∧ 64 ≤ 1500 ∧ 1500 ≤ 1500 ∧
    (grouped .inStep).recipients 4 .key [0] = [{ station := 0, device := 0xA1#48, rate := 4 }] := by decide +kernel

/-- A packet of 1,200 bytes offered to the group of radio 20 and channel 4, which costs 327 µs by UNICAST. -/
def deciding (cls : ReplayClass) (d : Delivery) (awaiting : Bool) (credit : Int) (l : SeatLink) : State :=
  { channel4 (live true false none)
      (sector [(0, { here with subs := [{ channel := 4, awaitingKey := awaiting, paused := false }] })]) with
    groups := [(324, { members := [0], delivery := d })], offers := [{ radio := 20, channel := 4, packet := packet cls 1 1200 }],
    credit := Vector.replicate 64 credit, links := Vector.replicate 64 l }

/-- The recipients of that packet. -/
def alone : List Recipient := [{ station := 0, device := 0xA1#48, rate := 4 }]

theorem witness_DecisionSendsOrDrops_due : ∀ cls d awaiting credit l,
    takeOffer (deciding cls d awaiting credit l).offers 20 4 0 = some (packet cls 1 1200, []) ∧
      (deciding cls d awaiting credit l).group 20 4 = some { members := [0], delivery := d } := fun _ _ _ _ _ => ⟨rfl, rfl⟩

theorem witness_DecisionSendsOrDrops :
    decisionCost 1200 100 alone = 327 ∧ (copies 4 (packet .key 1 1200) 100 alone).length = 1 ∧
    (deciding .delta .inStep true 0 upLink).recipients 4 .delta [0] = [] ∧
    (∀ cls ∈ [ReplayClass.key, .delta], (deciding cls .inStep false 0 upLink).recipients 4 cls [0] = alone) ∧ alone ≠ [] ∧
    64 - { upLink with queue := List.replicate 64 (.fan frame) }.queue.length < 1 ∧
    1 ≤ 64 - { upLink with queue := List.replicate 63 (.fan frame) }.queue.length ∧
    { upLink with profile := { upLink.profile with refill := 0 } }.profile.refill = 0 ∧
    ((326 : Int) < 327 ∧ (327 : Int) ≤ 327) ∧
    ((-1174 : Int) - 327 < -((upLink.profile.refill / 2 : Nat) : Int) ∧
      -((upLink.profile.refill / 2 : Nat) : Int) ≤ (-1173 : Int) - 327) := by decide +kernel

/-- Section 7.6: a KEY that finds its radio short of credit borrows, and a DELTA does not. -/
theorem test_decision :
    (after (.groupDecision 20 4 0) (deciding .key .skipToKey true 164 upLink)).credit[(20 : RadioIx)] = -163 ∧
    (after (.groupDecision 20 4 0) (deciding .key .skipToKey true 164 upLink)).groups =
      [(324, { members := [0], delivery := .inStep })] ∧
    (after (.groupDecision 20 4 0) (deciding .delta .inStep false 164 upLink)).credit[(20 : RadioIx)] = 164 ∧
    (after (.groupDecision 20 4 0) (deciding .delta .inStep false 164 upLink)).groups =
      [(324, { members := [0], delivery := .skipToKey })] := by decide +kernel

/-- The recipients of section 7.6, "The fan-out limit": n of class 11 and one of class 0. -/
def fans (n : Nat) : List Recipient :=
  List.replicate n { station := 1, device := 0xB2#48, rate := 11 } ++ [{ station := 0, device := 0xA1#48, rate := 0 }]

theorem witness_ModeWeighsUnicastAgainstMulticast :
    fans 7 ≠ [] ∧ ((fans 7).length ≤ 8 ∧ unicastTotal 200 (fans 7) ≤ multicastCost 200 (fans 7) + 1000) ∧ 8 < (fans 8).length ∧
    multicastCost 200 (fans 7) + 478 < unicastTotal 200 (fans 7) ∧
    unicastTotal 200 (fans 7) ≤ multicastCost 200 (fans 7) + 479 := by decide +kernel

/-- Section 7.6: 8 recipients by UNICAST at 782 µs; 9 by MULTICAST at 303 µs; one of class 7 and 1,200 bytes at biases 24 and 23. -/
theorem test_mode : decisionCost 200 1000 (fans 7) = 782 ∧ decisionCost 200 1000 (fans 8) = 303 ∧
    decisionCost 1200 24 [{ station := 0, device := 0#48, rate := 7 }] = 160 ∧
    decisionCost 1200 23 [{ station := 0, device := 0#48, rate := 7 }] = 136 := by decide +kernel

/-! ### The lanes -/

/-- A SECTOR_READ record, tag 7. -/
def record : List Byte := [0x56#8, 7#8, 0#8, 0#8]

/-- The device with this many requests on each lane. -/
def waiting (n : Nat) : State :=
  { up with lanes := up.lanes.map fun l => { l with queue := List.replicate n (request .sectorRead []) } }

/-- A response. -/
def response : Response := { kind := 0x56#8, tag := 7#8, answer := .denied, block := [0x10#8] }

theorem witness_RequestsArriveAndResponsesAreRead :
    requestOf [0x56#8, 7#8, 0#8] = none ∧ requestOf record = some (request .sectorRead []) ∧
    ((waiting 7).lanes[(0 : LaneIx)].queue.length < 8 ∧ 8 ≤ (waiting 8).lanes[(0 : LaneIx)].queue.length) ∧
    ((waiting 7).lanes[(3 : LaneIx)].queue.length < 8 ∧ 8 ≤ (waiting 8).lanes[(3 : LaneIx)].queue.length) ∧
    ({ up with responses := List.replicate 7 response }.responses.length < 8 ∧
      8 ≤ { up with responses := List.replicate 8 response }.responses.length) ∧
    (3 < (4#8).toNat ∧ (1#8 : Byte) ≠ 0#8 ∧ (3 : LaneIx) ≠ 0) ∧
    ({ up with responses := [response] }.responses = [response] ∧ up.responses = []) := by decide +kernel

/-- Section 9.6: the ninth request on lane 2 is answered QUEUE_FULL at once, in a frame to its master. -/
theorem test_queue_full : (after (.trunkControlFrame true 0xCC#48 ([2#8, 0#8] ++ record)) (waiting 8)).wire =
    [.trunkFrame 0xCC#48 [2#8, 1#8, 0x56#8, 7#8, 2#8, 0#8, 0#8]] := by decide +kernel

/-- R161, R176: a frame that names lane 0 or a lane above 3 is misaddressed though nothing follows the lane; one that names lane 2 and
ends there is a bad frame. -/
theorem test_misaddressed : [[0#8], [4#8], [2#8, 1#8], [2#8], []].map (fun body =>
      ((after (.trunkControlFrame true 0xCC#48 body) up).counter (.trunk .misaddressedFrames),
        (after (.trunkControlFrame true 0xCC#48 body) up).counter (.trunk .badFrames))) =
    [(1, 0), (1, 0), (1, 0), (0, 1), (0, 1)] := by decide +kernel

/-- R176: a write of a whole request queues it; a shorter one does not. -/
theorem test_spi_write : (after (.spiWriteRequest record) up).lanes[(0 : LaneIx)].queue = [request .sectorRead []] ∧
    (after (.spiWriteRequest [0x56#8, 7#8, 0#8]) up).counter (.lane 0 .shortWrites) = 1 := by decide +kernel

/-- R160, R176: a read clocks out the length and the oldest response; a read of an empty list gives length 0. -/
theorem test_spi_read : (after (.spiReadResponse 8) { up with responses := [response] }).wire =
      [.spi [0#8, 6#8, 0x56#8, 7#8, 1#8, 0#8, 1#8, 0x10#8]] ∧
    (after (.spiReadResponse 8) { up with responses := [response] }).responses = [] ∧
    (after (.spiReadResponse 8) up).wire = [.spi [0#8, 0#8]] := by decide +kernel

/-- R176: any other SPI command is ignored. -/
theorem test_spi_other : exec (.spiOtherCommand 3#8 [1#8]) up = .next up := rfl

theorem witness_ServiceChecksKindAndRights :
    (∃ q s0, (up.setLane 0 { up.lanes[(0 : LaneIx)] with queue := [{ kind := 0x19#8, tag := 7#8, params := [] }] }).head 0 =
      some (q, s0) ∧ knownKind q.kind = false) ∧
    (∃ q s0, (up.setLane 1 { up.lanes[(1 : LaneIx)] with queue := [request .passLoad []] }).head 1 = some (q, s0) ∧
      q.kind = RequestKind.passLoad.code ∧ RequestKind.passLoad.needs &&& ~~~s0.lanes[(1 : LaneIx)].rights ≠ 0#6) ∧ up.head 0 = none :=
  ⟨⟨_, _, rfl, by decide +kernel⟩, ⟨_, _, rfl, rfl, by decide +kernel⟩, by decide +kernel⟩

/-- R157, R158: an unknown kind is answered BAD_KIND; PASS_LOAD on lane 1 is DENIED, naming PASS. -/
theorem test_checks :
    answer (after (.unknownRequestKind 0)
      (up.setLane 0 { up.lanes[(0 : LaneIx)] with queue := [{ kind := 0x19#8, tag := 7#8, params := [] }] })) = some (.badKind, []) ∧
    (after (.passLoad 1) (up.setLane 1 { up.lanes[(1 : LaneIx)] with queue := [request .passLoad []] })).wire =
      [.trunkFrame 0xFFFFFFFFFFFF#48 [1#8, 1#8, 0x20#8, 7#8, 1#8, 0#8, 1#8, 0x02#8]] := by decide +kernel

theorem witness_AnswerReachesItsMaster : up.responses.length < 8 ∧ (1 : LaneIx) ≠ 0 := by decide +kernel

/-! ### Requests of the class RADIO -/

/-- The parameters of a RADIO_PROFILE_SET of radio 17. -/
def profileParams (limit : Byte) (refill cap bias : Nat) : List Byte :=
  [17#8, limit] ++ be16 refill ++ be16 cap ++ be16 bias ++ [0#8, 0#8]

theorem witness_ProfileSetClampsAndApplies :
    Ready .radioProfileSet 0 (request .radioProfileSet (profileParams 0#8 60000 100 2000))
      (asked .radioProfileSet (profileParams 0#8 60000 100 2000) up) (heard .radioProfileSet (profileParams 0#8 60000 100 2000) up) ∧
    (profileParams 0#8 60000 100 2000 =
      [BitVec.ofNat 8 (17 : RadioIx).val, 0#8] ++ be16 (60000#16).toNat ++ be16 (100#16).toNat ++ be16 (2000#16).toNat ++
        [BitVec.ofNat 8 DetectMode.onCarrier.ctorIdx, flagByte false]) ∧
    (∃ p : Profile, p.stationLimit = max 1 (min 255 (0#8).toNat) ∧
      p.refill = min (min (up.settings.budgetPeriod * 1000) 60000) (60000#16).toNat ∧
      p.cap = max p.refill (min 65535 (100#16).toNat) ∧ p.bias = min 1000 (2000#16).toNat ∧ p.detect = .onCarrier ∧
      p.strict = false ∧ p.stationLimit < { up with stationCount := Vector.replicate 64 2 }.stationCount[(17 : RadioIx)] ∧
      ¬ p.stationLimit < { up with stationCount := Vector.replicate 64 1 }.stationCount[(17 : RadioIx)]) :=
  ⟨ready _ _ _ rfl rfl, by decide +kernel,
    ⟨{ stationLimit := 1, refill := 10000, cap := 10000, bias := 1000, detect := .onCarrier, strict := false }, by decide +kernel⟩⟩

/-- Section 7.6: refill 1,000 and cap 4,000 clamp a credit of −744 to −500; R41: a limit below the count is refused CONFLICT. -/
theorem test_profile_set :
    (served .radioProfileSet (profileParams 96#8 1000 4000 100)
      { up with credit := Vector.replicate 64 (-744) }).credit[(17 : RadioIx)] = -500 ∧
    answer (served .radioProfileSet (profileParams 1#8 1000 4000 100) { up with stationCount := Vector.replicate 64 2 }) =
      some (.conflict, [2#8]) := by decide +kernel

theorem witness_FaultArmAndRestart :
    (Ready .linkFaultArm 0 (request .linkFaultArm [9#8, 2#8, 8#8]) (asked .linkFaultArm [9#8, 2#8, 8#8] up)
        (heard .linkFaultArm [9#8, 2#8, 8#8] up) ∧
      [9#8, 2#8, 8#8] = [BitVec.ofNat 8 (9 : RadioIx).val, BitVec.ofNat 8 FaultKind.dropMessage.ctorIdx, BitVec.ofNat 8 8]) ∧
    (Ready .linkFaultArm 0 (request .linkFaultArm [9#8, 3#8, 9#8]) (asked .linkFaultArm [9#8, 3#8, 9#8] up)
        (heard .linkFaultArm [9#8, 3#8, 9#8] up) ∧
      2 < (3#8).toNat ∧ (0#8).toNat = 0 ∧ 8 < (9#8).toNat) ∧
    Ready .linkRestart 0 (request .linkRestart [9#8]) (asked .linkRestart [9#8] up) (heard .linkRestart [9#8] up) ∧
    [9#8] = [BitVec.ofNat 8 (9 : RadioIx).val] ∧ up.links[(9 : RadioIx)].carrier = true ∧
    up.links[(9 : RadioIx)].profile.detect = .onCarrier :=
  ⟨⟨ready _ _ _ rfl rfl, by decide +kernel⟩, ⟨ready _ _ _ rfl rfl, by decide +kernel⟩, ready _ _ _ rfl rfl, by decide +kernel⟩

/-- R39: the request reports the arm that it replaces. -/
theorem test_fault_arm : answer (served .linkFaultArm [9#8, 2#8, 1#8] (armed .skipSequence 8 6)) = some (.done, [1#8, 1#8, 8#8]) := by
  decide +kernel

/-- R43: a restart of an UP link with carrier leaves it DETECTED, with its sequence numbers at 0. -/
theorem test_restart : answer (served .linkRestart [9#8] (armed .skipSequence 8 6)) = some (.done, [2#8, 1#8]) ∧
    (served .linkRestart [9#8] (armed .skipSequence 8 6)).links[(9 : RadioIx)].txSequence = 0 := by decide +kernel

theorem witness_EjectFreesTheStation :
    (∀ s ∈ [sector [(0, here)], sector [(0, roaming)], sector [(0, returning)], sector [(0, lost)], grouped .inStep], ∀ params,
      Ready .stationEject 0 (request .stationEject params) (asked .stationEject params s) (heard .stationEject params s)) ∧
    (∀ st ∈ [here, roaming, returning, lost], (heard .stationEject [] (sector [(0, st)])).stations.find 0 = some st) ∧
    (grouped .inStep).GroupLaw ∧ (heard .stationEject [] (sector [(0, here)])).stations.find 4095 = none ∧
    (∀ st ∈ (heard .stationEject [] (sector [(0, here)])).stations.find 0, st.device ≠ 0xB2#48) ∧
    4095 < 4096 ∧ 4096 ≤ 4096 ∧ 4096 ≤ 65535 ∧ 65535 < 65536 := by
  refine ⟨fun s hs params => ?_, by decide +kernel⟩
  simp only [List.mem_cons, List.not_mem_nil, or_false] at hs
  rcases hs with rfl | rfl | rfl | rfl | rfl <;> exact ready _ _ _ rfl rfl

/-- R18: an eject frees the station; one that names another address frees nothing. -/
theorem test_eject : (served .stationEject [0#8, 0#8, 0#8] (sector [(0, here)])).stations = [] ∧
    answer (served .stationEject ([0#8, 0#8, 1#8] ++ be48 0xB2#48) (sector [(0, here)])) = some (.notFound, []) := by decide +kernel

/-- R18: an eject that names the station's own address in a handoff sends DROP to radios 20 and 21, in that order. -/
theorem test_eject_drops : (served .stationEject ([0#8, 0#8, 1#8] ++ be48 0xA1#48) (sector [(0, roaming)])).wire =
    [.control 20 (ControlOut.bytes (.drop 0 0xA1#48) 0#8), .control 21 (ControlOut.bytes (.drop 0 0xA1#48) 0#8)] := by
  decide +kernel

/-- The map and the values of section 5.7. -/
def blocks : State := { up with seatMap := [(200, 30), (201, 30), (202, 31), (500, 40), (501, 41)] }

theorem witness_SeatMapWriteStartsTheSweep :
    (∀ params, Ready .seatMapWrite 0 (request .seatMapWrite params) (asked .seatMapWrite params blocks)
      (heard .seatMapWrite params blocks)) ∧
    (1008 + (List.replicate 16 33#8).length ≤ 1024 ∧ 1 ≤ [33#8].length) ∧ [33#8, 64#8].mapM entryOf = none ∧
    [63#8, 0xFF#8].mapM entryOf = some [some 63, none] ∧ (zoning 4095).zoneSweep.running = true :=
  ⟨fun _ => ready _ _ _ rfl rfl, by decide +kernel⟩

/-- Section 5.7: the first write reports 2 entries changed and no run abandoned; the second abandons the run at cursor 2,100. -/
theorem test_seat_map_write :
    answer (served .seatMapWrite [0#8, 202#8, 2#8, 33#8, 33#8] blocks) = some (.done, [2#8, 0#8]) ∧
    answer (served .seatMapWrite [1#8, 0xF4#8, 1#8, 0xFF#8]
      { blocks with zoneSweep := { running := true, cursor := 2100 } }) = some (.done, [1#8, 1#8, 0x08#8, 0x34#8]) := by
  decide +kernel

theorem witness_SectorSetAppliesOneSetting :
    (∀ params, Ready .sectorSet 0 (request .sectorSet params) (asked .sectorSet params up) (heard .sectorSet params up)) ∧
    up.settings.budgetPeriod = max 1 (min 100 (10#16).toNat) ∧ up.settings.budgetPeriod ≠ max 1 (min 100 (0#16).toNat) ∧
    (up.links[(17 : RadioIx)].profile.refill ≤ 3 * 1000 ∧ 2 * 1000 < up.links[(17 : RadioIx)].profile.refill) ∧ 3 < (4#8).toNat :=
  ⟨fun _ => ready _ _ _ rfl rfl, by decide +kernel⟩

/-- Section 8.9: a budget period of 250 is clamped to 100; section 7.6: one of 2 clamps a refill of 3,000 to 2,000. -/
theorem test_sector_set : answer (served .sectorSet [3#8, 0#8, 250#8] up) = some (.done, [3#8, 0#8, 10#8, 0#8, 100#8, 1#8, 0#8]) ∧
    (served .sectorSet [3#8, 0#8, 2#8] up).links[(17 : RadioIx)].profile.refill = 2000 := by decide +kernel

/-- The phase of section 8.9. -/
def second : State := { up with phase := .secondHalf }

theorem witness_PhaseSetAdvances :
    (∀ params, Ready .phaseSet 0 (request .phaseSet params) (asked .phaseSet params second) (heard .phaseSet params second)) ∧
    6 < (7#8).toNat ∧ (2#8).toNat < second.phase.value ∧ (3#8).toNat = second.phase.value ∧
    (Phase.closed.value = (6#8).toNat ∧ second.phase.value < Phase.closed.value) ∧ second.expirySweep.running = false ∧
    (expiring 3000 pass .halftime).expirySweep.running = true :=
  ⟨fun _ => ready _ _ _ rfl rfl, by decide +kernel⟩

/-- Section 8.9: HALFTIME is refused ORDER in SECOND_HALF; POSTGAME starts a run at slot 0. -/
theorem test_phase_set : answer (served .phaseSet [2#8] second) = some (.order, []) ∧
    (served .phaseSet [5#8] second).phase = .postgame ∧
    (served .phaseSet [5#8] second).expirySweep = { running := true, cursor := 0 } := by decide +kernel

theorem witness_MatchClearEmptiesTheTables :
    Ready .matchClear 0 (request .matchClear []) (asked .matchClear [] stadium) (heard .matchClear [] stadium) :=
  ready _ _ _ rfl rfl

/-- Section 8.9: a clear frees every station and slot, stops the sweep at cursor 3,000, and returns the phase to PREGAME. -/
theorem test_match_clear : (served .matchClear [] (expiring 3000 pass .postgame)).stations = [] ∧
    (served .matchClear [] (expiring 3000 pass .postgame)).passes = [] ∧
    (served .matchClear [] (expiring 3000 pass .postgame)).expirySweep = { running := false, cursor := 0 } ∧
    (served .matchClear [] (expiring 3000 pass .postgame)).phase = .pregame := by decide +kernel

/-! ### Requests of the classes PASS and REPLAY -/

/-- The parameters of a PASS_LOAD of pass 5001, SUITE, from block `home`, for a width and a window. -/
def loadParams (home : Nat) (w f u : Byte) : List Byte :=
  be32 5001 ++ be16 0xBEEF ++ [3#8] ++ be16 home ++ [w] ++ be16 0x80 ++ [f, u]

/-- Every slot of the pass table taken. -/
def sold : State := { up with passes := (List.range 8192).map fun k => (k, pass) }

theorem heard_passes (k : RequestKind) (params : List Byte) (s : State) : (heard k params s).passes = s.passes := rfl

theorem witness_PassLoadFillsTheLowestSlot :
    (∀ s ∈ [up, sold, second, claiming pass .halftime], ∀ params,
      Ready .passLoad 0 (request .passLoad params) (asked .passLoad params s) (heard .passLoad params s)) ∧
    (1 ≤ (3#8).toNat ∧ (3#8).toNat ≤ 3 ∧ 1 ≤ (16#8).toNat ∧ (16#8).toNat ≤ 16 ∧ 1008 + (16#8).toNat ≤ 1024 ∧ (6#8).toNat ≤ 6 ∧
      (6#8).toNat ≤ (6#8).toNat) ∧ ¬ 1009 + (16#8).toNat ≤ 1024 ∧
    (heard .passLoad [] (claiming pass .halftime)).passMap.find 5001 = some 0 ∧
    ((heard .passLoad [] sold).passMap.find 5001 = none ∧ (heard .passLoad [] sold).passes.lowestFree 8192 = none) ∧
    (heard .passLoad [] up).passMap.find 5001 = none ∧ (heard .passLoad [] up).passes.lowestFree 8192 = some 0 ∧
    (6#8).toNat < Phase.closed.value + 1 ∧ (2#8).toNat < second.phase.value := by
  refine ⟨fun s hs params => ?_, by decide +kernel, by decide +kernel, by decide +kernel,
    ⟨rfl, by rw [heard_passes, sold, full_table]⟩, by decide +kernel⟩
  simp only [List.mem_cons, List.not_mem_nil, or_false] at hs
  rcases hs with rfl | rfl | rfl | rfl <;> exact ready _ _ _ rfl rfl

/-- R75, R76: the load takes slot 0, EXPIRED where its window has ended; block 1,009 with width 16 ends past 1,023, field 3. -/
theorem test_pass_load : answer (served .passLoad (loadParams 1008 16#8 0#8 6#8) up) = some (.done, [0#8, 0#8, 0#8]) ∧
    answer (served .passLoad (loadParams 1008 16#8 0#8 2#8) second) = some (.done, [0#8, 0#8, 3#8]) ∧
    answer (served .passLoad (loadParams 1009 16#8 0#8 6#8) up) = some (.badArg, [3#8]) := by decide +kernel

/-- The amend of section 4.10: tier GENERAL and window PREGAME to HALFTIME. -/
def amendParams : List Byte := be32 5001 ++ [0#8, 1#8, 1#8, 0#8, 0#8, 1#8, 0#8, 2#8]

/-- The change it makes. -/
def amend : Amendment := { code := none, tier := some .general, zone := none, mask := none, window := some (.pregame, .halftime) }

theorem witness_PassAmendReloadsOrExpires :
    Ready .passAmend 0 (request .passAmend amendParams) (asked .passAmend amendParams stadium) (heard .passAmend amendParams stadium) ∧
    amendmentOf amendParams = some (5001, amend) ∧
    (heard .passAmend amendParams stadium).passNumbered 5001 = some (0, { pass with bound := [1] }) ∧
    { pass with state := .revoked }.inForce = false ∧ pass.inForce = true ∧ amendExpires pass (amend.apply pass) .firstHalf = false ∧
    amendExpires pass (amend.apply pass) .secondHalf = true ∧ stadium.Canonical ∧ stadium.BindingLaw :=
  ⟨ready _ _ _ rfl rfl, by decide +kernel, by decide +kernel, by decide +kernel, by decide +kernel, by decide +kernel,
    by decide +kernel, stadium_inv.canonical, stadium_inv.bindings⟩

/-- Section 4.10: the pass stays ACTIVE and its station is reloaded as GENERAL. -/
theorem test_pass_amend : answer (served .passAmend amendParams stadium) = some (.done, [0#8, 1#8, 0#8]) ∧
    ((served .passAmend amendParams stadium).stations.find 1).map Station.tier = some .general := by decide +kernel

theorem witness_PassRevokeRemoveUnlock :
    (∀ k s, s ∈ [up, stadium, claiming { pass with state := .locked } .halftime] → k ∈ [.passRevoke, .passRemove, .passUnlock] →
      Ready k 0 (request k (be32 5001)) (asked k (be32 5001) s) (heard k (be32 5001) s)) ∧
    (heard .passRevoke (be32 5001) up).passNumbered 5001 = none ∧
    (heard .passRevoke (be32 5001) stadium).passNumbered 5001 = some (0, { pass with bound := [1] }) ∧
    (pass.inForce = true ∧ { pass with bound := [1] }.bound ≠ [] ∧ pass.state ≠ .locked) ∧
    (heard .passUnlock (be32 5001) (claiming { pass with state := .locked } .halftime)).passNumbered 5001 =
      some (0, { pass with state := .locked }) := by
  refine ⟨fun k s hs _ => ?_, by decide +kernel⟩
  simp only [List.mem_cons, List.not_mem_nil, or_false] at hs
  rcases hs with rfl | rfl | rfl <;> exact ready _ _ _ rfl rfl

/-- R81, R82, R85: a revoke unbinds the station, a removal empties the slot, an unlock makes a LOCKED pass ACTIVE again. -/
theorem test_pass_requests :
    ((served .passRevoke (be32 5001) stadium).stations.find 1).map Station.tier = some .guest ∧
    (served .passRemove (be32 5001) stadium).passes = [] ∧
    (served .passUnlock (be32 5001) (claiming { pass with state := .locked, mismatches := 3 } .halftime)).passes.find 0 =
      some pass := by decide +kernel

theorem witness_ChannelsOpenAndClose :
    (∀ s ∈ [up, grouped .inStep], ∀ k ∈ [RequestKind.channelOpen, .channelClose], ∀ params,
      Ready k 0 (request k params) (asked k params s) (heard k params s)) ∧
    (heard .channelOpen [4#8, 1#8, 0#8] up).channels[(4 : ChannelIx)].state = .closed ∧
    ((heard .channelOpen [4#8, 0#8, 0#8] (grouped .inStep)).channels[(4 : ChannelIx)].state = .live ∧
      (grouped .inStep).Canonical ∧ (grouped .inStep).CountersInRange ∧ (grouped .inStep).GroupLaw ∧
      (grouped .inStep).channels[(4 : ChannelIx)].openAll = true) ∧
    ((heard .channelClose [4#8] up).channels[(4 : ChannelIx)].state = .closed ∧
      (heard .channelClose [4#8] (grouped .inStep)).channels[(4 : ChannelIx)].state = .live) ∧
    (16 ≤ (16#8).toNat ∧ 16 ≤ (255#8).toNat) ∧
    [4#8, 0#8, 0#8] = [BitVec.ofNat 8 (4 : ChannelIx).val, flagByte false, flagByte false] := by
  refine ⟨fun s hs k _ params => ?_, by decide +kernel⟩
  simp only [List.mem_cons, List.not_mem_nil, or_false] at hs
  rcases hs with rfl | rfl <;> exact ready _ _ _ rfl rfl

/-- Section 6.11: the channel's change to members-only removes the GUEST's entry, and reports it; a close discards the group. -/
theorem test_channels :
    answer (served .channelOpen [4#8, 0#8, 0#8] (grouped .inStep)) =
      some (.done, [1#8, 1#8, 0#8, 0#8, 0#8, 0#8, 1#8]) ∧
    (served .channelOpen [4#8, 0#8, 0#8] (grouped .inStep)).stations.find 0 = some here ∧
    (served .channelClose [4#8] (grouped .inStep)).groups = [] ∧
    answer (served .channelClose [4#8] (grouped .inStep)) = some (.done, [0#8, 1#8, 1#8]) ∧
    answer (served .channelClose [4#8] up) = some (.done, [0#8]) := by decide +kernel

/-! ### Notices, reads and rights -/

/-- The levels, enables and status of section 10.4, on lane 0: LINK at 3, ROAM at 5, SWEEP at 2. -/
def noticed (mask : Level) (saved : List Level) : State :=
  { up with
    notices := up.notices.set 0
      { Notice.powerOn with
        status := #v[2#4, 0#4, 1#4, 0#4, 0#4, 1#4, 0#4, 0#4], enables := #v[2#4, 0#4, 1#4, 0#4, 0#4, 3#4, 0#4, 0#4],
        levels := #v[3, 0, 5, 0, 0, 2, 0, 0], mask := mask, saved := saved } }

theorem witness_NoticeRequestsActOnTheirLane :
    (∀ k mask saved params, Ready k 0 (request k params) (asked k params (noticed mask saved))
      (heard k params (noticed mask saved))) ∧
    (0b0111#4 &&& ~~~groupSources 4 = 0#4 ∧ [4#8, 7#8, 7#8] = [BitVec.ofNat 8 (4 : NoticeGroup).val, BitVec.ofNat 8 (7 : Level).val,
      (0b0111#4).zeroExtend 8]) ∧
    (∀ g : NoticeGroup, (Vector.ofFn groupSources)[g] &&& ~~~groupSources g = 0#4) ∧
    (noticed 5 [2, 0]).notices[(0 : LaneIx)].anyEligible = false ∧
    ((noticed 2 [0]).notices[(0 : LaneIx)].eligible 2 = true ∧ ∀ h : NoticeGroup, (noticed 2 [0]).notices[(0 : LaneIx)].eligible h = true →
      (noticed 2 [0]).notices[(0 : LaneIx)].levels[h] < (noticed 2 [0]).notices[(0 : LaneIx)].levels[(2 : NoticeGroup)] ∨
        ((noticed 2 [0]).notices[(0 : LaneIx)].levels[h] = (noticed 2 [0]).notices[(0 : LaneIx)].levels[(2 : NoticeGroup)] ∧ 2 ≤ h)) ∧
    (noticed 0 []).notices[(0 : LaneIx)].saved = [] ∧ (noticed 5 [2, 0]).notices[(0 : LaneIx)].saved = [2, 0] :=
  ⟨fun _ _ _ _ => ready _ _ _ rfl rfl, by decide +kernel⟩

/-- Section 10.4: the second ACCEPT chooses group 2 at level 5 over mask 2, and the stack is 2, 0; a RETURN pops 2. -/
theorem test_accept_and_return :
    answer (served .noticeAccept [] (noticed 2 [0])) = some (.done, [2#8, 5#8, 1#8, 2#8, 2#8]) ∧
    (served .noticeAccept [] (noticed 2 [0])).notices[(0 : LaneIx)].saved = [2, 0] ∧
    (served .noticeReturn [] (noticed 5 [2, 0])).notices[(0 : LaneIx)].mask = 2 ∧
    (served .noticeReturn [] (noticed 5 [2, 0])).noticePin = true := by decide +kernel

/-- Section 10.4: a clear of "handoff forced" leaves group 2 not pending, on its own lane alone. -/
theorem test_notice_clear :
    (served .noticeClear [0#8, 0#8, 1#8, 0#8, 0#8, 0#8, 0#8, 0#8] (noticed 5 [2, 0])).notices[(0 : LaneIx)].pending 2 = false ∧
    (served .noticeClear [0#8, 0#8, 1#8, 0#8, 0#8, 0#8, 0#8, 0#8] (noticed 5 [2, 0])).notices[(0 : LaneIx)].pending 5 = true := by
  decide +kernel

/-- Section 10.4: group 5 raised to level 6 while the mask is 5 becomes eligible at once. -/
theorem test_levels_set : (served .noticeLevelsSet [5#8, 6#8, 3#8] (noticed 5 [2, 0])).noticePin = true ∧
    answer (served .noticeLevelsSet [4#8, 6#8, 8#8] up) = some (.badArg, []) := by decide +kernel

theorem witness_MaskSetOnlyOutsideANest :
    (∀ mask saved params, Ready .noticeMaskSet 0 (request .noticeMaskSet params) (asked .noticeMaskSet params (noticed mask saved))
      (heard .noticeMaskSet params (noticed mask saved))) ∧
    7 < (8#8).toNat ∧ (7#8).toNat ≤ 7 ∧ (7 : Level).val = (7#8).toNat ∧ (noticed 5 [2, 0]).notices[(0 : LaneIx)].saved ≠ [] ∧
    (noticed 0 []).notices[(0 : LaneIx)].saved = [] :=
  ⟨fun _ _ _ => ready _ _ _ rfl rfl, by decide +kernel⟩

/-- Section 10.4: in a nest of depth 2 a NOTICE_MASK_SET is refused CONFLICT with the depth; outside one it reports the old mask. -/
theorem test_mask_set : answer (served .noticeMaskSet [7#8] (noticed 5 [2, 0])) = some (.conflict, [2#8, 5#8]) ∧
    answer (served .noticeMaskSet [7#8] (noticed 0 [])) = some (.done, [0#8, 7#8]) := by decide +kernel

theorem witness_ReadsReportAndChangeNothing :
    (∀ s ∈ [up, grouped .inStep], ∀ k params, Ready k 0 (request k params) (asked k params s) (heard k params s)) ∧
    (4095 < 4096 ∧ 8191 < 8192 ∧ [63#8] = [BitVec.ofNat 8 (63 : RadioIx).val]) ∧
    (8192 < 65536 ∧ 65535 < 65536 ∧ 64 ≤ (64#8).toNat ∧ 16 ≤ (16#8).toNat ∧ [[1#8, 64#8], [9#8], []].map scopeOf = [none, none, none]) ∧
    (∀ k params, Ready k 0 (request k params) (asked k params (claiming pass .halftime)) (heard k params (claiming pass .halftime))) ∧
    ((claiming pass .halftime).lookup 0xA1#48 = some 0 ∧ (claiming pass .halftime).lookup 0xB2#48 = none ∧
      (claiming pass .halftime).passMap.find (5001#32).toNat = some 0 ∧ (claiming pass .halftime).passMap.find (5002#32).toNat = none ∧
      [4#8, 0#8] = [BitVec.ofNat 8 (4 : ChannelIx).val, 0#8]) ∧
    ((heard .groupRead [4#8, 1#8, 20#8] up).group 20 4 = none ∧
      (heard .groupRead [4#8, 1#8, 20#8] (grouped .inStep)).group 20 4 = some { members := [0], delivery := .inStep }) ∧
    [[0#8], [1#8, 63#8], [2#8], [3#8], [4#8, 0#8], [4#8, 1#8, 15#8], [5#8, 63#8], [6#8], [7#8]].map scopeOf =
      [some .station, some (.link 63), some .pass, some .admission, some (.replay none), some (.replay (some 15)),
        some (.airtime 63), some .sector, some .lanes] := by
  refine ⟨fun s hs k params => ?_, by decide +kernel, by decide +kernel, fun _ _ => ready _ _ _ rfl rfl, by decide +kernel⟩
  simp only [List.mem_cons, List.not_mem_nil, or_false] at hs
  rcases hs with rfl | rfl <;> exact ready _ _ _ rfl rfl

/-- Section 11.5: a FREE context returns offsets 0 to 3 only; a free slot its number and the occupancy byte. -/
theorem test_reads_of_nothing : answer (served .stationRead [0#8, 0x0F#8, 0xFF#8] up) = some (.done, [0#8, 0#8, 0x0F#8, 0xFF#8]) ∧
    answer (served .passRead [0#8, 0x1F#8, 0xFF#8] up) = some (.done, [0x1F#8, 0xFF#8, 0#8]) ∧
    answer (served .radioRead [64#8] up) = some (.badArg, []) := by decide +kernel

/-- R22, R91, R127: reads by address and by pass number find their subjects, or NOT_FOUND; a GROUP_READ without a radio lists the
radios that have a group. -/
theorem test_reads_by_name :
    answer (served .stationRead (1#8 :: be48 0xB2#48) (sector [(0, here)])) = some (.notFound, []) ∧
    (answer (served .stationRead (1#8 :: be48 0xA1#48) (sector [(0, here)]))).map Prod.fst = some .done ∧
    answer (served .passRead [0#8, 0x20#8, 0#8] up) = some (.badArg, []) ∧
    answer (served .passRead (1#8 :: be32 5002) (claiming pass .halftime)) = some (.notFound, []) ∧
    (answer (served .passRead (1#8 :: be32 5001) (claiming pass .halftime))).map (fun x => x.2.take 3) = some [0#8, 0#8, 1#8] ∧
    answer (served .groupRead [4#8, 0#8] (grouped .inStep)) = some (.done, [1#8, 1#8, 0x01#8, 0xF7#8, 0#8, 1#8, 20#8]) := by
  decide +kernel

/-- Section 11.5: the group of radio 20 and channel 4: its channel's record, its state, and its member with class and flags. -/
theorem test_group_read : answer (served .groupRead [4#8, 1#8, 20#8] (grouped .inStep)) =
    some (.done, [1#8, 1#8, 0x01#8, 0xF7#8, 0#8, 1#8, 1#8, 0#8, 0#8, 4#8, 1#8]) := by decide +kernel

/-- R153: after power-on the version is 0x5A01, the phase PREGAME, and the settings 40, 2,000, 30 and 10. -/
theorem test_sector_read : answer (served .sectorRead [] up) =
    some (.done, [0x5A#8, 0x01#8, 0#8, 0#8, 0#8, 0#8, 0#8, 0#8, 40#8, 7#8, 0xD0#8, 0#8, 30#8, 0#8, 10#8, 0#8, 10#8,
      0#8, 0#8, 0#8, 10#8, 0#8, 0#8, 0#8, 0#8, 0#8, 0#8]) := by decide +kernel

/-- R164: a read of the sector counters, in the order of section 8.8; a clear returns them and sets them to 0. -/
theorem test_counters : answer (served .countersRead [6#8] (up.count (.sector .orderRefusals))) =
      some (.done, be32 0 ++ be32 0 ++ be32 1 ++ be32 0) ∧
    answer (served .countersClear [6#8] (up.count (.sector .orderRefusals))) = some (.done, be32 0 ++ be32 0 ++ be32 1 ++ be32 0) ∧
    (served .countersClear [6#8] (up.count (.sector .orderRefusals))).counter (.sector .orderRefusals) = 0 := by decide +kernel

theorem witness_SeatMapReadReturnsTheEntries :
    (∀ params, Ready .seatMapRead 0 (request .seatMapRead params) (asked .seatMapRead params blocks)
      (heard .seatMapRead params blocks)) ∧
    (0#8).toNat = 0 ∧ 16 < (17#8).toNat ∧ 1024 < (1009#16).toNat + (16#8).toNat ∧ (1008#16).toNat + (16#8).toNat ≤ 1024 ∧
    1 ≤ (1#8).toNat ∧ (16#8).toNat ≤ 16 :=
  ⟨fun _ => ready _ _ _ rfl rfl, by decide +kernel⟩

/-- Section 5.7: blocks 202 and 203 read 31 and UNMAPPED. -/
theorem test_seat_map_read : answer (served .seatMapRead [0#8, 202#8, 2#8] blocks) = some (.done, [2#8, 31#8, 0xFF#8]) := by
  decide +kernel

theorem witness_RightsSetKeepsConfigOnBoard :
    (∀ params, Ready .rightsSet 0 (request .rightsSet params) (asked .rightsSet params up) (heard .rightsSet params up)) ∧
    64 ≤ (64#8).toNat ∧ (63#6).toNat = (63#8).toNat ∧ (16#6).toNat = (16#8).toNat :=
  ⟨fun _ => ready _ _ _ rfl rfl, by decide +kernel⟩

/-- Section 9.6: lane 0 named with INSPECT alone keeps CONFIG, and the block says so; lane 2 takes INSPECT and NOTICE. -/
theorem test_rights_set : answer (served .rightsSet [0#8, 0x10#8] up) = some (.done, [0x3F#8, 0x30#8, 1#8]) ∧
    answer (served .rightsSet [2#8, 0x18#8] up) = some (.done, [0x1A#8, 0x18#8, 0#8]) := by decide +kernel

/-- R152: after power-on reset the links with carrier are DETECTED and the rest ABSENT; carrier alone sets no notice source. -/
theorem test_power_on : (after (.powerOnReset (.left 2#64)) stadium).links[(1 : RadioIx)].state = .detected ∧
    (after (.powerOnReset (.left 2#64)) stadium).links[(0 : RadioIx)].state = .absent ∧
    (after (.powerOnReset (.left 2#64)) stadium).stations = [] := by decide +kernel

end Sys2Proof.Tests
end

section
/-! PROOFS. SEAT_MAP_READ: the checks of R104 and the reply of its owner (R105). -/

namespace Sys2Proof.Machine

/-- The checks of R104 as bounds on the first block and the count. -/
theorem blocksOk_iff (first count : Nat) : blocksOk first count = true ↔ 1 ≤ count ∧ count ≤ 16 ∧ first + count ≤ 1024 := by
  simp only [blocksOk, Bool.and_eq_true, decide_eq_true_eq, and_assoc]
  rfl

/-- On a first block and a count, SEAT_MAP_READ's owner makes the checks of R104 and replies with what the seat map then holds. -/
theorem ownSeatMapRead_be16 (first : Half) (n : Byte) (s : State) :
    ownSeatMapRead (be16 first.toNat ++ [n]) s =
      if blocksOk first.toNat n.toNat = true then
        (Reply.done (n :: (List.range n.toNat).map fun i => entryByte (s.seatMap.find (first.toNat + i))), s)
      else (Reply.badArg, s) := by
  conv_rhs => rw [← unsigned_be16 first.isLt]
  rfl

/-- SEAT_MAP_READ of blocks that fail the checks of R104 is refused. -/
theorem ownSeatMapRead_refused {first : Half} {n : Byte} (h : n.toNat = 0 ∨ 16 < n.toNat ∨ 1024 < first.toNat + n.toNat)
    (s : State) : ownSeatMapRead (be16 first.toNat ++ [n]) s = (Reply.badArg, s) := by
  have checksFail : ¬ blocksOk first.toNat n.toNat = true := by
    rw [blocksOk_iff]
    omega
  rw [ownSeatMapRead_be16, if_neg checksFail]

/-- SEAT_MAP_READ of blocks that pass the checks of R104 is answered with their count and their entries. -/
theorem ownSeatMapRead_done {first : Half} {n : Byte} (hpos : 1 ≤ n.toNat) (hcount : n.toNat ≤ 16)
    (hlast : first.toNat + n.toNat ≤ 1024) (s : State) :
    ownSeatMapRead (be16 first.toNat ++ [n]) s =
      (Reply.done (n :: (List.range n.toNat).map fun i => entryByte (s.seatMap.find (first.toNat + i))), s) := by
  rw [ownSeatMapRead_be16, if_pos ((blocksOk_iff _ _).mpr ⟨hpos, hcount, hlast⟩)]

/-- A SEAT_MAP_READ that stands ready is answered as its owner replies (R156, R157). -/
theorem exec_seatMapRead_ready {lane : LaneIx} {q : Request} {s s0 : State} (h : Ready .seatMapRead lane q s s0) :
    exec (.seatMapRead lane) s =
      .next (answered s lane q (ownSeatMapRead q.params s0).1.answer (ownSeatMapRead q.params s0).1.block
        (ownSeatMapRead q.params s0).2) :=
  serve_ready ownSeatMapRead h

/-- Settles O50: the owner's two replies, each carried to its master by the service of a request that stands ready. -/
theorem seatMapReadReturnsTheEntries : Obligations.SeatMapReadReturnsTheEntries := by
  refine ⟨rfl, fun lane q s s0 first n hready hparams => ?_⟩
  rw [exec_seatMapRead_ready hready, hparams]
  constructor
  · intro hbad
    rw [ownSeatMapRead_refused hbad]
    rfl
  · intro hpos hcount hlast
    rw [ownSeatMapRead_done hpos hcount hlast]
    rfl

end Sys2Proof.Machine
end

section
/-! PROOFS. The time on air and its bounds, and what a recipient set holds (R128, R129). -/

namespace Sys2Proof.Machine

/-! ### The time on air (R128) -/

/-- Every rate of R128's table lies between those of its first and last class. -/
theorem rateOf_bounds (r : RateClass) : 6 ≤ rateOf r ∧ rateOf r ≤ 384 := by decide +revert

theorem rateOf_pos (r : RateClass) : 0 < rateOf r := by
  have := rateOf_bounds r
  omega

/-- The time on air is the ceiling of 8 L over the rate: the least time in which the rate carries 8 L. -/
theorem airtime_le_iff {length time : Nat} {r : RateClass} : airtime length r ≤ time ↔ 8 * length ≤ rateOf r * time :=
  ceilDiv_le_iff_le_mul (rateOf_pos r)

theorem lt_airtime_iff {length time : Nat} {r : RateClass} : time < airtime length r ↔ rateOf r * time < 8 * length := by
  rw [← not_le, airtime_le_iff, not_le]

theorem airtime_suffices (length : Nat) (r : RateClass) : 8 * length ≤ rateOf r * airtime length r :=
  airtime_le_iff.mp le_rfl

theorem airtime_minimal {length : Nat} (hpos : 0 < length) (r : RateClass) :
    rateOf r * (airtime length r - 1) < 8 * length := by
  have hair : 0 < airtime length r := lt_airtime_iff.mpr (by omega)
  exact lt_airtime_iff.mp (by omega)

/-- The shortest packet takes more than 1 µs even at the highest rate. -/
theorem two_le_airtime {length : Nat} (h : 64 ≤ length) (r : RateClass) : 2 ≤ airtime length r := by
  have hrate := (rateOf_bounds r).2
  have hone : rateOf r * 1 < 8 * length := by omega
  exact lt_airtime_iff.mpr hone

/-- The longest packet takes 2,000 µs at the lowest rate. -/
theorem airtime_le_2000 {length : Nat} (h : length ≤ 1500) (r : RateClass) : airtime length r ≤ 2000 := by
  have hrate := (rateOf_bounds r).1
  exact airtime_le_iff.mpr (by omega)

/-! ### The recipient set (R129) -/

/-- A recipient is a member that receives the packet, with the device address and the rate that the station table holds for it. -/
theorem mem_recipients_iff {s : State} {c : ChannelIx} {cls : ReplayClass} {members : List Nat} {m : Recipient} :
    m ∈ s.recipients c cls members ↔ m.station ∈ members ∧ ∃ st, s.stations.find m.station = some st ∧
      receives cls st c = true ∧ m.device = st.device ∧ m.rate = st.rate := by
  rw [State.recipients, List.mem_filterMap]
  constructor
  · rintro ⟨ix, hix, hm⟩
    split at hm
    · cases hm
    next st hfind =>
      obtain ⟨hreceives, ⟨⟩⟩ := Option.ite_none_right_eq_some.mp hm
      exact ⟨hix, st, hfind, hreceives, rfl, rfl⟩
  · rintro ⟨hmember, st, hfind, hreceives, hdevice, hrate⟩
    refine ⟨m.station, hmember, ?_⟩
    rw [hfind]
    simp only [hreceives, if_true, ← hdevice, ← hrate]

/-- Settles O40: the time on air by the law of its ceiling and the bounds of the rate table, a recipient's rate by what the
recipient set holds. -/
theorem timeOnAirIsTheCeiling : Obligations.TimeOnAirIsTheCeiling := by
  refine ⟨by decide, fun L r => ⟨airtime_suffices L r, fun hpos => airtime_minimal hpos r⟩,
    fun L r hmin hmax => ⟨two_le_airtime hmin r, airtime_le_2000 hmax r⟩, by decide, fun s c cls members m hm => ?_⟩
  obtain ⟨hmember, st, hfind, -, hdevice, hrate⟩ := mem_recipients_iff.mp hm
  exact ⟨hmember, st, hfind, hrate, hdevice⟩

end Sys2Proof.Machine
end

section
/-! PROOFS. What every effect of a command leaves in order, whatever it does: what is on the wires stays, counters move only by counts
and clears, queues stay within their bounds, rights stand, and the notice state is written in its status copies alone. -/

namespace Sys2Proof.Machine

/- The whole text is elaborated in one process: its proofs in turn, so that their threads' stacks stay within its memory. -/
set_option Elab.async false

/-! ### Counters -/

/-- A table of counters that counts and clears lead to. -/
inductive Tallied : Table Nat → Table Nat → Prop
  | refl (t) : Tallied t t
  | tally {t u} (k n : Nat) : Tallied t u → Tallied t (tally u k n)
  | drop {t u} (k : Nat) : Tallied t u → Tallied t (u.drop k)

theorem Tallied.trans {t u v : Table Nat} (h : Tallied t u) (k : Tallied u v) : Tallied t v := by
  induction k with
  | refl => exact h
  | tally k n _ ih => exact .tally k n ih
  | drop k _ ih => exact .drop k ih

theorem Tallied.wf {t u : Table Nat} (h : Tallied t u) (hw : t.wf = true) : u.wf = true := by
  induction h with
  | refl => exact hw
  | tally k n _ ih => exact tally_wf k n ih
  | drop k _ ih => exact Table.wf_drop k ih

/-- Counts and clears keep every listed counter between 1 and the highest value (R164). -/
theorem Tallied.inRange {t u : Table Nat} (h : Tallied t u) (hr : ∀ e ∈ t, 1 ≤ e.2 ∧ e.2 ≤ Config.counterMax) :
    ∀ e ∈ u, 1 ≤ e.2 ∧ e.2 ≤ Config.counterMax := by
  induction h with
  | refl => exact hr
  | @tally u k n _ ih =>
    intro e he
    unfold Sys2Proof.Machine.tally at he
    split at he
    · exact ih e (Table.mem_drop.mp he).1
    next hne =>
      rcases Table.mem_put he with rfl | he
      · exact ⟨Nat.one_le_iff_ne_zero.mpr hne, min_le_right _ _⟩
      · exact ih e he
  | drop k _ ih => exact fun e he => ih e (Table.mem_drop.mp he).1

/-! ### What lasts through an event -/

/-- What a whole event, with its line evaluation, leaves in order. -/
structure Lasting (s t : State) : Prop where
  wire : s.wire <+: t.wire
  counters : Tallied s.counters t.counters
  laneQueues : ∀ l : LaneIx, s.lanes[l].queue.length ≤ Config.laneQueue → t.lanes[l].queue.length ≤ Config.laneQueue
  responses : s.responses.length ≤ Config.responseList → t.responses.length ≤ Config.responseList
  queues : ∀ r : RadioIx, s.links[r].queue.length ≤ Config.transmitQueue → t.links[r].queue.length ≤ Config.transmitQueue

/-- A master's notice state differs from an earlier one in its status copy alone, where sources may have been set (R166). -/
def Notice.Raised (m n : Notice) : Prop :=
  n = { m with status := n.status } ∧ ∀ (g : NoticeGroup) (i : Nat), m.status[g].getLsbD i = true → n.status[g].getLsbD i = true

theorem Notice.Raised.refl (n : Notice) : n.Raised n := ⟨rfl, fun _ _ h => h⟩

theorem Notice.Raised.trans {l m n : Notice} (h : l.Raised m) (k : m.Raised n) : l.Raised n :=
  ⟨by rw [k.1, h.1], fun g i hi => k.2 g i (h.2 g i hi)⟩

theorem Notice.raised_raise (src : Source) (n : Notice) : n.Raised (n.raise src) := by
  refine ⟨rfl, fun g i h => ?_⟩
  simp only [Notice.raise, Fin.getElem_fin, Vector.getElem_set] at h ⊢
  split
  next hg =>
    have : n.status[src.place.1.val] = n.status[g.val] := by congr 1
    rw [this, BitVec.getLsbD_or, h, Bool.true_or]
  next => exact h

/-- What the effect of an event leaves in order, before the line evaluation: what lasts, and every notice state but for sources set. -/
structure Calm (s t : State) : Prop extends Lasting s t where
  notices : ∀ l : LaneIx, s.notices[l].Raised t.notices[l]
  rights : ∀ l : LaneIx, t.lanes[l].rights = s.lanes[l].rights
  armed : ∀ l : LaneIx, t.lanes[l].armed = s.lanes[l].armed

/-- As `Calm`, where the effect writes no radio profile. -/
structure Steady (s t : State) : Prop extends Calm s t where
  profiles : ∀ r : RadioIx, t.links[r].profile = s.links[r].profile

variable {s t u : State}

theorem Lasting.refl (s : State) : Lasting s s := ⟨⟨[], by simp⟩, .refl _, fun _ h => h, fun h => h, fun _ h => h⟩

theorem Lasting.trans (h : Lasting s t) (k : Lasting t u) : Lasting s u :=
  ⟨h.wire.trans k.wire, h.counters.trans k.counters,
    fun l x => k.laneQueues l (h.laneQueues l x), fun x => k.responses (h.responses x), fun r x => k.queues r (h.queues r x)⟩

theorem Calm.refl (s : State) : Calm s s := ⟨.refl s, fun _ => .refl _, fun _ => rfl, fun _ => rfl⟩

theorem Calm.trans (h : Calm s t) (k : Calm t u) : Calm s u :=
  ⟨h.toLasting.trans k.toLasting, fun l => (h.notices l).trans (k.notices l), fun l => (k.rights l).trans (h.rights l),
    fun l => (k.armed l).trans (h.armed l)⟩

theorem Steady.refl (s : State) : Steady s s := ⟨.refl s, fun _ => rfl⟩

theorem Steady.trans (h : Steady s t) (k : Steady t u) : Steady s u :=
  ⟨h.toCalm.trans k.toCalm, fun r => (k.profiles r).trans (h.profiles r)⟩

/-- A source that was set stays set through what is steady. -/
theorem Steady.noticed (h : Steady s t) {src : Source} (k : Noticed s src) : Noticed t src :=
  fun l => (h.notices l).2 _ _ (k l)

theorem Calm.foldl {α : Type} (f : State → α → State) (h : ∀ s a, Calm s (f s a)) (l : List α) (s : State) : Calm s (l.foldl f s) := by
  induction l generalizing s with
  | nil => exact .refl s
  | cons a l ih => exact (h s a).trans (ih _)

theorem Steady.foldl {α : Type} (f : State → α → State) (h : ∀ s a, Steady s (f s a)) (l : List α) (s : State) :
    Steady s (l.foldl f s) := by
  induction l generalizing s with
  | nil => exact .refl s
  | cons a l ih => exact (h s a).trans (ih _)

theorem Steady.ite {p : Prop} [Decidable p] (h : p → Steady s t) (k : ¬p → Steady s u) : Steady s (if p then t else u) := by
  split
  next hp => exact h hp
  next hp => exact k hp

/-- The fields that `Steady` speaks of. -/
def steadyFields : List Field := [.wire, .counters, .notices, .lanes, .responses, .links]

/-- States that agree in the fields that `Steady` speaks of. -/
theorem Steady.same (hw : t.wire = s.wire) (hc : t.counters = s.counters) (hn : t.notices = s.notices) (hl : t.lanes = s.lanes)
    (hr : t.responses = s.responses) (hk : t.links = s.links) : Steady s t := by
  refine ⟨⟨⟨?_, ?_, ?_, ?_, ?_⟩, ?_, ?_, ?_⟩, ?_⟩
  · rw [hw]
  · rw [hc]; exact .refl _
  · simp [hl]
  · simp [hr]
  · simp [hk]
  · intro l; rw [hn]; exact .refl _
  · simp [hl]
  · simp [hl]
  · simp [hk]

/-- A change of none of the fields that `Steady` speaks of is steady. -/
theorem ChangesOnly.steady {fs : List Field} (h : ChangesOnly fs s t) (hd : ∀ f ∈ steadyFields, f ∉ fs := by decide) :
    Steady s t :=
  .same (h .wire (hd _ (by decide))) (h .counters (hd _ (by decide))) (h .notices (hd _ (by decide)))
    (h .lanes (hd _ (by decide))) (h .responses (hd _ (by decide))) (h .links (hd _ (by decide)))

/-! ### Single updates -/

theorem addTo_steady (s : State) (c : Counter) (n : Nat) : Steady s (s.addTo c n) :=
  ⟨⟨⟨⟨[], by simp⟩, .tally _ _ (.refl _), fun _ h => h, fun h => h, fun _ h => h⟩, fun _ => .refl _, fun _ => rfl, fun _ => rfl⟩,
    fun _ => rfl⟩

theorem count_steady (s : State) (c : Counter) : Steady s (s.count c) := addTo_steady s c 1

theorem zero_steady (s : State) (cs : List Counter) : Steady s (s.zero cs) := by
  refine ⟨⟨⟨⟨[], by simp⟩, ?_, fun _ h => h, fun h => h, fun _ h => h⟩, fun _ => .refl _, fun _ => rfl, fun _ => rfl⟩, fun _ => rfl⟩
  suffices ∀ t, Tallied s.counters t → Tallied s.counters (cs.foldl (fun t c => t.drop c.key) t) from this _ (.refl _)
  induction cs with
  | nil => exact fun _ h => h
  | cons c cs ih => exact fun t h => ih _ (.drop _ h)

theorem emit_steady (s : State) (o : Output) : Steady s (s.emit o) :=
  ⟨⟨⟨⟨[o], rfl⟩, .refl _, fun _ h => h, fun h => h, fun _ h => h⟩, fun _ => .refl _, fun _ => rfl, fun _ => rfl⟩, fun _ => rfl⟩

theorem note_steady (s : State) (src : Source) : Steady s (s.note src) := by
  refine ⟨⟨⟨⟨[], by simp⟩, .refl _, fun _ h => h, fun h => h, fun _ h => h⟩, fun l => ?_, fun _ => rfl, fun _ => rfl⟩, fun _ => rfl⟩
  simp only [State.note_notices, Fin.getElem_fin, Vector.getElem_map]
  exact Notice.raised_raise src _

theorem setLink_calm {r : RadioIx} {l : SeatLink}
    (h : s.links[r].queue.length ≤ Config.transmitQueue → l.queue.length ≤ Config.transmitQueue) : Calm s (s.setLink r l) := by
  refine ⟨⟨⟨[], by simp⟩, .refl _, fun _ h => h, fun h => h, fun q hq => ?_⟩, fun _ => .refl _, fun _ => rfl, fun _ => rfl⟩
  simp only [State.setLink_links, Fin.getElem_fin, Vector.getElem_set] at hq ⊢
  split
  next he => exact h (by simpa [he] using hq)
  next => exact hq

theorem setLink_steady {r : RadioIx} {l : SeatLink} (hp : l.profile = s.links[r].profile)
    (h : s.links[r].queue.length ≤ Config.transmitQueue → l.queue.length ≤ Config.transmitQueue) : Steady s (s.setLink r l) := by
  refine ⟨setLink_calm h, fun q => ?_⟩
  simp only [State.setLink_links, Fin.getElem_fin, Vector.getElem_set]
  split
  next he => simpa [he] using hp
  next => rfl

/-- A seat link that keeps another's queue and profile. -/
def SeatLink.Keeps (l l' : SeatLink) : Prop := l'.queue = l.queue ∧ l'.profile = l.profile

theorem setLink_keeps {r : RadioIx} {l : SeatLink} (h : s.links[r].Keeps l) : Steady s (s.setLink r l) :=
  setLink_steady h.2 fun hq => h.1 ▸ hq

theorem setLane_steady {lane : LaneIx} {l : Lane} (hr : l.rights = s.lanes[lane].rights) (ha : l.armed = s.lanes[lane].armed)
    (hq : s.lanes[lane].queue.length ≤ Config.laneQueue → l.queue.length ≤ Config.laneQueue) : Steady s (s.setLane lane l) := by
  refine ⟨⟨⟨⟨[], by simp⟩, .refl _, fun m h => ?_, fun h => h, fun _ h => h⟩, fun _ => .refl _, fun m => ?_, fun m => ?_⟩, fun _ => rfl⟩ <;>
    simp only [State.setLane_lanes, Fin.getElem_fin, Vector.getElem_set] at * <;> split
  next he => exact hq (by simpa [he] using h)
  next => exact h
  next he => simpa [he] using hr
  next => rfl
  next he => simpa [he] using ha
  next => rfl

end Sys2Proof.Machine
end

section
/-! PROOFS. Every shared operation is steady. -/

namespace Sys2Proof.Machine

/- The whole text is elaborated in one process: its proofs in turn, so that their threads' stacks stay within its memory. -/
set_option Elab.async false

section
variable (s : State)

/-! ### Lines, responses and messages -/

theorem driveLine_lasting (lane : LaneIx) (up : Bool) : Lasting s (s.driveLine lane up) := by
  have h0 : Lasting s { s with notices := s.notices.set lane { s.notices[lane] with lineUp := up } } :=
    ⟨⟨[], by simp⟩, .refl _, fun _ h => h, fun h => h, fun _ h => h⟩
  have armed (t : State) (b : Bool) : Lasting t (t.setLane lane { t.lanes[lane] with armed := b }) := by
    refine ⟨⟨[], by simp⟩, .refl _, fun m h => ?_, fun h => h, fun _ h => h⟩
    simp only [State.setLane_lanes, Fin.getElem_fin, Vector.getElem_set] at h ⊢
    split
    next he => simpa [he] using h
    next => exact h
  unfold State.driveLine
  dsimp only
  split
  · exact h0
  · split
    · split
      · exact ((h0.trans (emit_steady _ _).toLasting).trans (count_steady _ _).toLasting).trans (armed _ false)
      · exact h0
    · exact h0.trans (armed _ true)

/-- The line evaluation leaves in order what an event does. -/
theorem settle_lasting (before : Vector Notice 4) : Lasting s (s.settle before) := by
  unfold State.settle
  generalize List.finRange 4 = lanes
  induction lanes generalizing s with
  | nil => exact .refl s
  | cons a lanes ih =>
    refine Lasting.trans ?_ (ih _)
    unfold State.evaluateLine
    split
    · exact .refl s
    · split
      · exact .refl s
      · exact driveLine_lasting s _ _

theorem inject_steady (r : RadioIx) {l : SeatLink} (hk : s.links[r].Keeps l) (kind : FaultKind) (m : ControlOut) :
    Steady s (s.inject r l kind m) := by
  have moved (t : State) (ht : t.links = s.links) (n : Byte) : Steady t (t.setLink r { l with txSequence := n }) :=
    setLink_keeps (ht ▸ hk)
  cases kind with
  | corruptCrc => exact ((emit_steady s _).trans (moved (s.emit _) rfl _)).trans (.same rfl rfl rfl rfl rfl rfl)
  | skipSequence => exact (emit_steady s _).trans (moved (s.emit _) rfl _)
  | dropMessage => exact moved s rfl _

theorem transmit_steady (r : RadioIx) {l : SeatLink} (hk : s.links[r].Keeps l) (m : ControlOut) :
    Steady s (s.transmit r l m) :=
  (emit_steady s _).trans (setLink_keeps hk)

theorem send_steady (r : RadioIx) (m : ControlOut) : Steady s (s.send r m) := by
  unfold State.send
  dsimp only
  split
  · split
    · exact (transmit_steady s r ⟨by rfl, by rfl⟩ m).trans (count_steady _ _)
    · split
      · exact ((inject_steady s r (l := { s.links[r] with arm := none }) ⟨rfl, rfl⟩ _ m).trans (count_steady _ _)).trans (count_steady _ _)
      · refine Steady.trans ?_ (count_steady _ _)
        exact transmit_steady s r ⟨by rfl, by rfl⟩ m
  · exact count_steady s _

theorem sendAdmit_steady (r : RadioIx) (ix : Nat) : Steady s (s.sendAdmit r ix) := by
  unfold State.sendAdmit
  split
  · exact .refl s
  · exact send_steady s _ _

theorem respond_steady (lane : LaneIx) (x : Response) : Steady s (s.respond lane x) := by
  unfold State.respond
  split
  · split
    next h =>
      refine ⟨⟨⟨⟨[], by simp⟩, .refl _, fun _ h => h, fun _ => ?_, fun _ h => h⟩, fun _ => .refl _, fun _ => rfl, fun _ => rfl⟩,
        fun _ => rfl⟩
      simpa using h
    next => exact count_steady s _
  · exact (emit_steady s _).trans (count_steady _ _)

theorem arrive_steady (lane : LaneIx) (q : Request) : Steady s (s.arrive lane q) := by
  have h0 := count_steady s (.lane lane .requestsReceived)
  unfold State.arrive
  dsimp only
  split
  next h => exact h0.trans (setLane_steady rfl rfl fun _ => by simpa using h)
  next => exact ((h0.trans (count_steady _ _)).trans (note_steady _ _)).trans (respond_steady _ _ _)

/-! ### Groups -/

theorem discardGroup_steady (r : RadioIx) (c : ChannelIx) : Steady s (s.discardGroup r c) := by
  refine Steady.trans ?_ (count_steady _ _)
  exact .same rfl rfl rfl rfl rfl rfl

theorem joinGroup_steady (r : RadioIx) (c : ChannelIx) (ix : Nat) : Steady s (s.joinGroup r c ix) := by
  unfold State.joinGroup
  split
  · refine Steady.trans ?_ (count_steady _ _)
    exact .same rfl rfl rfl rfl rfl rfl
  · exact .same rfl rfl rfl rfl rfl rfl

theorem leaveGroup_steady (r : RadioIx) (c : ChannelIx) (ix : Nat) : Steady s (s.leaveGroup r c ix) := by
  unfold State.leaveGroup
  split
  · exact .refl s
  · split
    · exact discardGroup_steady s r c
    · exact .same rfl rfl rfl rfl rfl rfl

theorem leaveGroups_steady (r : Option RadioIx) (es : List Subscription) (ix : Nat) : Steady s (s.leaveGroups r es ix) := by
  unfold State.leaveGroups
  split
  · exact .refl s
  · exact .foldl _ (fun s _ => leaveGroup_steady s _ _ _) _ s

theorem joinGroups_steady (r : RadioIx) (es : List Subscription) (ix : Nat) : Steady s (s.joinGroups r es ix) :=
  .foldl _ (fun s _ => joinGroup_steady s _ _ _) _ s

theorem discardGroups_steady (r : RadioIx) : Steady s (s.discardGroups r) :=
  .foldl _ (fun s c => .ite (fun _ => discardGroup_steady s r c) fun _ => .refl s) _ s

theorem discardChannel_steady (c : ChannelIx) : Steady s (s.discardChannel c) :=
  .foldl _ (fun s r => discardGroup_steady s r c) _ s

/-! ### Bindings -/

theorem setStation_steady (ix : Nat) (st : Station) : Steady s (s.setStation ix st) := (setStation_frame s ix st).steady

theorem setPass_steady (slot : Nat) (p : Pass) : Steady s (s.setPass slot p) := (setPass_frame s slot p).steady

theorem prune_steady (ix : Nat) : Steady s (s.prune ix) := by
  unfold State.prune
  split
  · exact .refl s
  · exact ((setStation_steady s _ _).trans (leaveGroups_steady _ _ _ _)).trans (addTo_steady _ _ _)

theorem shrinkHold_steady (ix : Nat) : Steady s (s.shrinkHold ix) := by
  unfold State.shrinkHold
  split
  · exact .refl s
  · split
    · refine Steady.trans ?_ (addTo_steady _ _ _)
      exact .same rfl rfl rfl rfl rfl rfl
    · exact .refl s

theorem unbind_steady (slot ix : Nat) : Steady s (s.unbind slot ix) :=
  ((((((dropBound_frame s slot ix).steady).trans (setBinding_frame _ _ _).steady).trans (prune_steady _ _)).trans
    (repause_frame _ _).steady).trans (shrinkHold_steady _ _)).trans (count_steady _ _)

theorem unbindAll_steady (slot : Nat) (stations : List Nat) : Steady s (s.unbindAll slot stations) :=
  .foldl _ (fun s ix => unbind_steady s slot ix) _ s

theorem endPass_steady (slot : Nat) (p : Pass) (state : PassState) : Steady s (s.endPass slot p state) :=
  (setPass_steady s _ _).trans (unbindAll_steady _ _ _)

theorem expireDirectly_steady (slot : Nat) (p : Pass) : Steady s (s.expireDirectly slot p) :=
  (endPass_steady s slot p .expired).trans (count_steady _ _)

theorem reload_steady (slot : Nat) (p : Pass) (ix : Nat) : Steady s (s.reload slot p ix) :=
  ((((setBinding_frame s ix _).steady.trans (prune_steady _ _)).trans (repause_frame _ _).steady).trans
    (shrinkHold_steady _ _)).trans (count_steady _ _)

/-! ### Stations -/

theorem flush_steady (r : RadioIx) (held : List FanFrame) : Steady s (s.flush r held) := by
  refine Steady.trans (Steady.trans (Steady.trans ?_ (addTo_steady _ _ _)) (addTo_steady _ _ _)) (returnBuffers_frame _ _).steady
  refine setLink_steady rfl fun h => ?_
  simp only [State.room, List.length_append, List.length_map, List.length_take]
  omega

theorem discardHeld_steady (held : List FanFrame) : Steady s (s.discardHeld held) :=
  (returnBuffers_frame s _).steady.trans (addTo_steady _ _ _)

theorem endSubscriptions_steady (ix : Nat) : Steady s (s.endSubscriptions ix) := by
  unfold State.endSubscriptions
  split
  · exact .refl s
  · exact (setStation_steady s _ _).trans (leaveGroups_steady _ _ _ _)

theorem unbindStation_steady (ix : Nat) (st : Station) : Steady s (s.unbindStation ix st) := by
  unfold State.unbindStation
  split
  · exact .refl s
  · exact unbind_steady s _ _

theorem discardHold_steady (ix : Nat) : Steady s (s.discardHold ix) := by
  unfold State.discardHold
  split
  · exact .refl s
  · exact discardHeld_steady s _

theorem free_steady (ix : Nat) (st : Station) : Steady s (s.free ix st) := by
  have h := ((unbindStation_steady s ix st).trans (endSubscriptions_steady _ ix)).trans (discardHold_steady _ ix)
  unfold State.free
  dsimp only
  generalize ((s.unbindStation ix st).endSubscriptions ix).discardHold ix = t at h
  refine Steady.trans (Steady.trans h ?_) (count_steady _ _)
  have addressDropped : Steady t { t with addressMap := t.addressMap.drop st.device.toNat } := .same rfl rfl rfl rfl rfl rfl
  have lowered := addressDropped.trans (lowerCounts_frame _ st.place).steady
  generalize State.lowerCounts _ st.place = u at lowered ⊢
  exact lowered.trans (.same rfl rfl rfl rfl rfl rfl)

theorem orphan_steady (ix : Nat) (st : Station) : Steady s (s.orphan ix st) :=
  ((setStation_steady s _ _).trans (leaveGroups_steady _ _ _ _)).trans (count_steady _ _)

theorem complete_steady (ix : Nat) (st : Station) (o n : RadioIx) (held : List FanFrame) :
    Steady s (s.complete ix st o n held) :=
  ((((((((setStation_steady s ix _).trans (lowerCount_frame _ _).steady).trans (sendAdmit_steady _ _ _)).trans
    (flush_steady _ _ _)).trans (leaveGroups_steady _ _ _ _)).trans (joinGroups_steady _ _ _ _)).trans
    (addTo_steady _ _ _)).trans (repause_frame _ _).steady).trans (count_steady _ _)

theorem force_steady (ix : Nat) (st : Station) (o n : RadioIx) (held : List FanFrame) (withDrop : Bool) :
    Steady s (s.force ix st o n held withDrop) :=
  ((Steady.ite (fun _ => send_steady s _ _) fun _ => .refl s).trans (complete_steady _ _ _ _ _ _)).trans
    (count_steady _ _) |>.trans (note_steady _ _)

theorem abandonToOld_steady (ix : Nat) (st : Station) (o n : RadioIx) (p : Option Prior) (held : List FanFrame) :
    Steady s (s.abandonToOld ix st o n p held) :=
  ((((setStation_steady s ix _).trans (lowerCount_frame _ _).steady).trans (flush_steady _ _ _)).trans
    (sendAdmit_steady _ _ _)).trans (count_steady _ _)

theorem endReturn_steady (ix : Nat) (st : Station) (o : RadioIx) (p : Option Prior) (held : List FanFrame) :
    Steady s (s.endReturn ix st o p held) :=
  (((setStation_steady s ix _).trans (sendAdmit_steady _ _ _)).trans (flush_steady _ _ _)).trans (count_steady _ _)

theorem abandonToOrphan_steady (ix : Nat) (st : Station) (held : List FanFrame) : Steady s (s.abandonToOrphan ix st held) :=
  (((orphan_steady s ix st).trans (lowerCounts_frame _ _).steady).trans (discardHeld_steady _ _)).trans (count_steady _ _)

theorem refuseFull_steady (r : RadioIx) (ix : Option Nat) (a : Address) : Steady s (s.refuseFull r ix a) :=
  ((send_steady s _ _).trans (count_steady _ _)).trans (note_steady _ _)

theorem allocate_steady (r : RadioIx) (a : Address) (rate : RateClass) : Steady s (s.allocate r a rate) := by
  unfold State.allocate
  split
  · exact refuseFull_steady s _ _ _
  · split
    · exact ((send_steady s _ _).trans (count_steady _ _)).trans (note_steady _ _)
    next ix _ =>
      have placed (st : Station) : Steady s ({ s.setStation ix st with addressMap := s.addressMap.put a.toNat ix }.raiseCount r) :=
        .same rfl rfl rfl rfl rfl rfl
      exact ((placed _).trans (count_steady _ _)).trans (sendAdmit_steady _ _ _)

theorem readmit_steady (r : RadioIx) (ix : Nat) (st : Station) (rate : RateClass) : Steady s (s.readmit r ix st rate) :=
  ((setStation_steady s _ _).trans (sendAdmit_steady _ _ _)).trans (count_steady _ _)

theorem restore_steady (r : RadioIx) (ix : Nat) (st : Station) (rate : RateClass) : Steady s (s.restore r ix st rate) := by
  unfold State.restore
  split
  · exact refuseFull_steady s _ _ _
  · exact ((((((setStation_steady s _ _).trans (raiseCount_frame _ _).steady).trans (joinGroups_steady _ _ _ _)).trans
      (addTo_steady _ _ _)).trans (repause_frame _ _).steady).trans (sendAdmit_steady _ _ _)).trans (count_steady _ _)

theorem hold_steady (ix : Nat) (st : Station) (o n : RadioIx) (d : Word) (p : Option Prior) (held : List FanFrame)
    (f : FanFrame) : Steady s (s.hold ix st o n d p held f) := by
  have queued (st' : Station) : Steady s { s.setStation ix st' with holdFree := s.holdFree - 1 } := .same rfl rfl rfl rfl rfl rfl
  unfold State.hold
  split
  · split
    · exact (count_steady s _).trans (note_steady _ _)
    · exact (queued _).trans (count_steady _ _)
  · exact ((setStation_steady s _ _).trans (count_steady _ _)).trans (count_steady _ _)

theorem beginHandoff_steady (ix : Nat) (st : Station) (o n : RadioIx) (p : Option Prior) (rate : RateClass) :
    Steady s (s.beginHandoff ix st o n p rate) :=
  (((setStation_steady s _ _).trans (raiseCount_frame _ _).steady).trans (count_steady _ _)).trans (send_steady _ _ _)

theorem deferRoam_steady (n : RadioIx) (ix : Nat) (st : Station) (p : Option Prior) : Steady s (s.deferRoam n ix st p) :=
  ((send_steady s _ _).trans (count_steady _ _)).trans (note_steady _ _)

theorem supersede_steady (ix : Nat) (st : Station) (o n m : RadioIx) (p : Option Prior) (held : List FanFrame)
    (rate : RateClass) : Steady s (s.supersede ix st o n m p held rate) := by
  unfold State.supersede
  split
  · exact refuseFull_steady s _ _ _
  · exact (((((setStation_steady s _ _).trans (raiseCount_frame _ _).steady).trans (lowerCount_frame _ _).steady).trans
      (send_steady _ _ _)).trans (count_steady _ _)).trans (note_steady _ _)

theorem turnToReturn_steady (ix : Nat) (st : Station) (o n : RadioIx) (p : Option Prior) (held : List FanFrame)
    (rate : RateClass) : Steady s (s.turnToReturn ix st o n p held rate) :=
  ((((setStation_steady s _ _).trans (lowerCount_frame _ _).steady).trans (send_steady _ _ _)).trans (count_steady _ _)).trans
    (note_steady _ _)

theorem renewOutward_steady (ix : Nat) (st : Station) (o m : RadioIx) (p : Option Prior) (held : List FanFrame)
    (rate : RateClass) : Steady s (s.renewOutward ix st o m p held rate) := by
  unfold State.renewOutward
  split
  · exact refuseFull_steady s _ _ _
  · exact ((((setStation_steady s _ _).trans (raiseCount_frame _ _).steady).trans (send_steady _ _ _)).trans
      (count_steady _ _)).trans (note_steady _ _)

theorem roamAssociated_steady (ix : Nat) (st : Station) (o n : RadioIx) (p : Option Prior) (rate : RateClass)
    (linkLost : Bool) : Steady s (s.roamAssociated ix st o n p rate linkLost) :=
  .ite (fun _ => refuseFull_steady s _ _ _) fun _ =>
    .ite (fun _ => deferRoam_steady s _ _ _ _) fun _ => beginHandoff_steady s _ _ _ _ _ _

theorem roamHandoff_steady (ix : Nat) (st : Station) (o n m : RadioIx) (p : Option Prior) (held : List FanFrame)
    (rate : RateClass) : Steady s (s.roamHandoff ix st o n m p held rate) :=
  .ite (fun _ => readmit_steady s _ _ _ _) fun _ => .ite (fun _ => renewOutward_steady s _ _ _ _ _ _ _) fun _ =>
    .ite (fun _ => turnToReturn_steady s _ _ _ _ _ _ _) fun _ => supersede_steady s _ _ _ _ _ _ _ _

theorem roam_steady (r : RadioIx) (a : Address) (rate : RateClass) (linkLost : Bool) : Steady s (s.roam r a rate linkLost) := by
  unfold State.roam
  dsimp only
  refine (count_steady s (.station .roamsReceived)).trans ?_
  split
  · exact allocate_steady _ _ _ _
  · split
    · exact restore_steady _ _ _ _ _
    · exact .ite (fun _ => readmit_steady _ _ _ _ _) fun _ => roamAssociated_steady _ _ _ _ _ _ _ _
    · exact roamHandoff_steady _ _ _ _ _ _ _ _ _

theorem join_steady (r : RadioIx) (a : Address) (rate : RateClass) : Steady s (s.join r a rate) := by
  unfold State.join
  split
  · exact allocate_steady _ _ _ _
  · split
    · exact restore_steady _ _ _ _ _
    · exact .ite (fun _ => readmit_steady _ _ _ _ _) fun _ => roam_steady _ _ _ _ _
    · exact roam_steady _ _ _ _ _

/-! ### Seat links -/

theorem exitStation_steady (r : RadioIx) (ix : Nat) : Steady s (State.exitStation r s ix) := by
  unfold State.exitStation
  split
  · exact .refl s
  · split
    · exact .ite (fun _ => (orphan_steady s _ _).trans (lowerCount_frame _ _).steady) fun _ => .refl s
    · exact .ite (fun _ => force_steady s _ _ _ _ _ _) fun _ => .ite (fun _ => abandonToOld_steady s _ _ _ _ _ _) fun _ =>
        .ite (fun _ => ((orphan_steady s _ _).trans (lowerCounts_frame _ _).steady).trans (discardHeld_steady _ _)) fun _ =>
          .refl s
    · exact .refl s

theorem discardQueue_steady (r : RadioIx) : Steady s (s.discardQueue r) :=
  (setLink_steady (by rfl) fun _ => Nat.zero_le _).trans (addTo_steady _ _ _)

theorem exitUp_steady (r : RadioIx) : Steady s (s.exitUp r) := by
  have h := ((note_steady s .linkDown).trans (count_steady _ (.link r .linkDownExits))).trans (discardQueue_steady _ r)
  unfold State.exitUp
  dsimp only
  generalize ((s.note .linkDown).count (.link r .linkDownExits)).discardQueue r = t at h
  have drawn : Steady t { t with draws := t.draws + 1 } := .same rfl rfl rfl rfl rfl rfl
  exact ((h.trans drawn).trans (.foldl _ (fun s ix => exitStation_steady s r ix) _ _)).trans (discardGroups_steady _ _)

theorem enterUp_steady (r : RadioIx) {l : SeatLink} (hk : s.links[r].Keeps l) : Steady s (s.enterUp r l) := by
  have h : Steady s (((s.setLink r { l with state := .up, sample := .none, filter := 0, awaitingFirstUp := false }).note
      .linkUp).count (.link r .linkUpEntries)) :=
    ((setLink_keeps ⟨by exact hk.1, by exact hk.2⟩).trans (note_steady _ _)).trans (count_steady _ _)
  unfold State.enterUp
  exact .ite (fun _ => h.trans (note_steady _ _)) fun _ => h

theorem applyFilter_steady (r : RadioIx) {l : SeatLink} (hk : s.links[r].Keeps l) : Steady s (s.applyFilter r l) := by
  have set (l' : SeatLink) (h' : l.Keeps l') : Steady s (s.setLink r l') := setLink_keeps ⟨h'.1.trans hk.1, h'.2.trans hk.2⟩
  unfold State.applyFilter
  split
  · exact .refl s
  · exact .ite (fun _ => (set _ ⟨by rfl, by rfl⟩).trans (exitUp_steady _ _)) fun _ => set _ ⟨by rfl, by rfl⟩
  · exact .ite (fun _ => enterUp_steady s r hk) fun _ => set _ ⟨by rfl, by rfl⟩
  · exact .ite (fun _ => enterUp_steady s r hk) fun _ => set _ ⟨by rfl, by rfl⟩

theorem checkSequence_steady (r : RadioIx) (q : Byte) : Steady s (s.checkSequence r q) := by
  have set : Steady s (s.setLink r { s.links[r] with rxSequence := q + 1 }) := setLink_keeps ⟨rfl, rfl⟩
  unfold State.checkSequence
  exact .ite (fun _ => set) fun _ => (set.trans (count_steady _ _)).trans (note_steady _ _)

theorem receive_steady (r : RadioIx) (q : Byte) {owner : State → State} (h : ∀ t, Steady t (owner t)) :
    Steady s (s.receive r q owner) := by
  have checked (c : Counter) := (checkSequence_steady s r q).trans (count_steady _ c)
  unfold State.receive
  split
  · exact .refl s
  · exact (checked _).trans (h _)
  · exact checked _
  · exact checked _

theorem strictForceAll_steady (r : RadioIx) : Steady s (s.strictForceAll r) := by
  have one (s : State) (ix : Nat) : Steady s (State.strictForce r s ix) := by
    unfold State.strictForce
    split
    · exact .refl s
    · split
      · exact .ite (fun _ => force_steady s _ _ _ _ _ _) fun _ => .refl s
      · exact .refl s
  exact Steady.trans (.same (t := { s with draws := s.draws + 1 }) rfl rfl rfl rfl rfl rfl) (.foldl _ one _ _)

theorem screen_steady (r : RadioIx) (field : Half) {owner : Nat → Station → State → State}
    (h : ∀ ix st t, Steady t (owner ix st t)) : Steady s (s.screen r field owner) := by
  unfold State.screen
  split
  · exact (count_steady s _).trans (note_steady _ _)
  · exact h _ _ s

theorem restartLink_steady (r : RadioIx) : Steady s (s.restartLink r) := by
  have h (l : SeatLink) (hk : s.links[r].Keeps l) : Steady s ((s.setLink r l).count (.link r .restarts)) :=
    (setLink_keeps hk).trans (count_steady _ _)
  have h2 (t : State) : Steady t (if s.links[r].state = .up then t.exitUp r else t.discardQueue r) :=
    .ite (fun _ => exitUp_steady t r) fun _ => discardQueue_steady t r
  unfold State.restartLink
  exact .ite (fun _ => ((h _ ⟨by rfl, by rfl⟩).trans (h2 _)).trans (note_steady _ _)) fun _ => (h _ ⟨by rfl, by rfl⟩).trans (h2 _)

end

end Sys2Proof.Machine
end

section
/-! PROOFS. Every command keeps to its footprint: the frames of what each command does, and the commands themselves. -/

namespace Sys2Proof.Machine

/- The whole text is elaborated in one process: its proofs in turn, so that their threads' stacks stay within its memory. -/
set_option Elab.async false

/-! ### Events and services -/

/-- An event that sets no source and touches no notice state changes at most what its effect changes. -/
theorem event_frame_quiet {fs : List Field} {s t : State} {effect : State → State} (h : ChangesOnly fs s (effect s))
    (hn : Field.notices ∉ fs) (ht : event s effect = .next t) : ChangesOnly fs s t := by
  have same : (effect s).settle s.notices = effect s := settle_same (h .notices hn)
  simp only [event, Host.Outcome.next.injEq, same] at ht
  rw [← ht]
  exact .ite (.refl _ _) h

/-- The state without a lane's head request differs in that lane alone. -/
theorem head_frame {s t : State} {lane : LaneIx} {q : Request} (h : s.head lane = some (q, t)) : ChangesOnly [.lanes] s t := by
  unfold State.head at h
  split at h
  · cases h
  · obtain ⟨-, ⟨⟩⟩ := Option.ite_none_right_eq_some.mp h
    exact setLane_frame s _ _

/-- A service changes at most what its owner changes and what every service reaches. -/
theorem service_frame {fs gs : List Field} {owner : List Byte → State → Reply × State}
    (h : ∀ p t, ChangesOnly fs t (owner p t).2) (lane : LaneIx) (k : RequestKind) (s : State)
    (sub : fs ⊆ gs := by decide) (subs : serviceFields ⊆ gs := by decide) : ChangesOnly gs s (s.service lane k owner) := by
  unfold State.service
  split
  · exact .refl _ _
  next q t hh =>
    have h0 : ChangesOnly gs s t := (head_frame hh).mono fun f hf => subs (by simp_all [serviceFields, noticeFields])
    have responded (u : State) (hu : ChangesOnly gs s u) (x : Response) : ChangesOnly gs s (u.respond lane x) :=
      hu.step (respond_frame u lane x) fun _ hf => subs ((by decide : [Field.responses, .counters, .wire] ⊆ serviceFields) hf)
    refine .ite (.ite ?_ ?_) (.refl _ _)
    · exact responded _ (h0.step (h _ _) sub) _
    · refine responded _ ((h0.step (count_frame _ _) ?_).step (note_frame _ _) ?_) _ <;>
        exact fun f hf => subs (by simp_all [serviceFields, noticeFields])

theorem serve_frame {fs gs : List Field} {owner : List Byte → State → Reply × State} {lane : LaneIx} {k : RequestKind} {s t : State}
    (ht : serve lane k owner s = .next t) (h : ∀ p t, ChangesOnly fs t (owner p t).2)
    (sub : fs ⊆ gs := by decide) (subs : serviceFields ⊆ gs := by decide) : ChangesOnly gs s t :=
  event_frame (service_frame h lane k s sub subs) (fun _ hf => subs (List.mem_cons_of_mem _ hf)) ht

section
variable (s : State)

/-! ### Stations -/

theorem refuseFull_frame (r : RadioIx) (ix : Option Nat) (a : Address) :
    ChangesOnly (.notices :: sendFields) s (s.refuseFull r ix a) :=
  (((send_frame s _ _).le (gs := .notices :: sendFields)).step (count_frame _ _)).step (note_frame _ _)

/-- What a JOIN or a ROAM reaches (R6, R17, R46). -/
def joinFields : List Field := [.links, .draws, .stations, .addressMap, .stationCount, .groups, .notices, .counters, .wire]

theorem allocate_frame (r : RadioIx) (a : Address) (rate : RateClass) : ChangesOnly joinFields s (s.allocate r a rate) := by
  unfold State.allocate
  refine .ite (refuseFull_frame s _ _ _).le ?_
  split
  · exact (((send_frame s _ _).le (gs := joinFields)).step (count_frame _ _)).step (note_frame _ _)
  next ix _ =>
    have placed (st : Station) :
        ChangesOnly joinFields s { s.setStation ix st with addressMap := s.addressMap.put a.toNat ix } := by
      rintro (_ | _) h <;> first | rfl | simp [joinFields] at h
    exact (((placed _).step (raiseCount_frame _ _)).step (count_frame _ _)).step (sendAdmit_frame _ _ _)

theorem readmit_frame (r : RadioIx) (ix : Nat) (st : Station) (rate : RateClass) :
    ChangesOnly joinFields s (s.readmit r ix st rate) :=
  (((setStation_frame s _ _).le (gs := joinFields)).step (sendAdmit_frame _ _ _)).step (count_frame _ _)

theorem restore_frame (r : RadioIx) (ix : Nat) (st : Station) (rate : RateClass) :
    ChangesOnly joinFields s (s.restore r ix st rate) :=
  .ite (refuseFull_frame s _ _ _).le
    ((((((((setStation_frame s _ _).le (gs := joinFields)).step (raiseCount_frame _ _)).step (joinGroups_frame _ _ _ _)).step
      (addTo_frame _ _ _)).step (repause_frame _ _)).step (sendAdmit_frame _ _ _)).step (count_frame _ _))

theorem hold_frame (ix : Nat) (st : Station) (o n : RadioIx) (d : Word) (p : Option Prior) (held : List FanFrame)
    (f : FanFrame) : ChangesOnly [.stations, .holdFree, .counters, .notices] s (s.hold ix st o n d p held f) := by
  have queued (st' : Station) : ChangesOnly [.stations, .holdFree, .counters, .notices] s
      { s.setStation ix st' with holdFree := s.holdFree - 1 } := by
    rintro (_ | _) h <;> first | rfl | simp at h
  exact .ite (.ite ((count_frame s _).le.step (note_frame _ _)) ((queued _).step (count_frame _ _)))
    (((setStation_frame s _ _).le.step (count_frame _ _)).step (count_frame _ _))

theorem beginHandoff_frame (ix : Nat) (st : Station) (o n : RadioIx) (p : Option Prior) (rate : RateClass) :
    ChangesOnly joinFields s (s.beginHandoff ix st o n p rate) :=
  ((((setStation_frame s _ _).le (gs := joinFields)).step (raiseCount_frame _ _)).step (count_frame _ _)).step (send_frame _ _ _)

theorem deferRoam_frame (n : RadioIx) (ix : Nat) (st : Station) (p : Option Prior) :
    ChangesOnly joinFields s (s.deferRoam n ix st p) :=
  (((send_frame s _ _).le (gs := joinFields)).step (count_frame _ _)).step (note_frame _ _)

theorem supersede_frame (ix : Nat) (st : Station) (o n m : RadioIx) (p : Option Prior) (held : List FanFrame)
    (rate : RateClass) : ChangesOnly joinFields s (s.supersede ix st o n m p held rate) :=
  .ite (refuseFull_frame s _ _ _).le
    (((((((setStation_frame s _ _).le (gs := joinFields)).step (raiseCount_frame _ _)).step (lowerCount_frame _ _)).step
      (send_frame _ _ _)).step (count_frame _ _)).step (note_frame _ _))

theorem turnToReturn_frame (ix : Nat) (st : Station) (o n : RadioIx) (p : Option Prior) (held : List FanFrame)
    (rate : RateClass) : ChangesOnly joinFields s (s.turnToReturn ix st o n p held rate) :=
  (((((setStation_frame s _ _).le (gs := joinFields)).step (lowerCount_frame _ _)).step (send_frame _ _ _)).step
    (count_frame _ _)).step (note_frame _ _)

theorem renewOutward_frame (ix : Nat) (st : Station) (o m : RadioIx) (p : Option Prior) (held : List FanFrame)
    (rate : RateClass) : ChangesOnly joinFields s (s.renewOutward ix st o m p held rate) :=
  .ite (refuseFull_frame s _ _ _).le
    ((((((setStation_frame s _ _).le (gs := joinFields)).step (raiseCount_frame _ _)).step (send_frame _ _ _)).step
      (count_frame _ _)).step (note_frame _ _))

theorem roam_frame (r : RadioIx) (a : Address) (rate : RateClass) (linkLost : Bool) :
    ChangesOnly joinFields s (s.roam r a rate linkLost) := by
  refine ((count_frame s (.station .roamsReceived)).le (gs := joinFields)).trans ?_
  unfold State.roam
  dsimp only
  split
  · exact allocate_frame _ _ _ _
  · split
    · exact restore_frame _ _ _ _ _
    · exact .ite (readmit_frame _ _ _ _ _)
        (.ite (refuseFull_frame _ _ _ _).le (.ite (deferRoam_frame _ _ _ _ _) (beginHandoff_frame _ _ _ _ _ _ _)))
    · exact .ite (readmit_frame _ _ _ _ _) (.ite (renewOutward_frame _ _ _ _ _ _ _ _)
        (.ite (turnToReturn_frame _ _ _ _ _ _ _ _) (supersede_frame _ _ _ _ _ _ _ _ _)))

theorem join_frame (r : RadioIx) (a : Address) (rate : RateClass) : ChangesOnly joinFields s (s.join r a rate) := by
  unfold State.join
  split
  · exact allocate_frame _ _ _ _
  · split
    · exact restore_frame _ _ _ _ _
    · exact .ite (readmit_frame _ _ _ _ _) (roam_frame _ _ _ _ _)
    · exact roam_frame _ _ _ _ _

theorem stray_frame : ChangesOnly [.counters, .notices] s s.stray := (count_frame s _).le.step (note_frame _ _)

theorem late_frame : ChangesOnly [.counters, .notices] s s.late := (count_frame s _).le.step (note_frame _ _)

theorem leave_frame (r : RadioIx) (ix : Nat) (st : Station) :
    ChangesOnly (exitFields ++ freeFields) s (s.leave r ix st) := by
  unfold State.leave
  split
  · exact (free_frame s _ _).le.step (count_frame _ _)
  · exact .ite (endReturn_frame s _ _ _ _ _).le
      (.ite ((complete_frame s _ _ _ _ _).le.step (count_frame _ _)) (abandonToOrphan_frame s _ _ _).le)
  · exact (stray_frame s).le

theorem released_frame (r : RadioIx) (ix : Nat) (st : Station) (device : Address) (undelivered : Nat) :
    ChangesOnly exitFields s (s.released r ix st device undelivered) := by
  have error : ChangesOnly exitFields s ((s.count (.link r .responseErrors)).note .responseError) :=
    (count_frame s _).le.step (note_frame _ _)
  unfold State.released
  split
  · exact (stray_frame s).le
  · exact (late_frame s).le
  · exact .ite (.ite (((complete_frame s _ _ _ _ _).step (count_frame _ _)).step (addTo_frame _ _ _))
      (.ite (error.trans (force_frame _ _ _ _ _ _ _)) error)) (late_frame s).le

/-! ### Messages -/

/-- A message changes at most what its check and its owner change. -/
theorem receive_frame {gs : List Field} (r : RadioIx) (q : Byte) {owner : State → State} (h : ∀ t, ChangesOnly gs t (owner t))
    (sub : [.links, .counters, .notices] ⊆ gs := by decide) : ChangesOnly gs s (s.receive r q owner) := by
  have checked (c : Counter) : ChangesOnly gs s ((s.checkSequence r q).count c) :=
    ((checkSequence_frame s r q).mono sub).step (count_frame _ c) fun f hf => sub (by simp_all)
  unfold State.receive
  split
  · exact .refl _ _
  · exact (checked _).trans (h _)
  · exact checked _
  · exact checked _

theorem screen_frame {gs : List Field} (r : RadioIx) (field : Half) {owner : Nat → Station → State → State}
    (h : ∀ ix st t, ChangesOnly gs t (owner ix st t)) (sub : [.counters, .notices] ⊆ gs := by decide) :
    ChangesOnly gs s (s.screen r field owner) := by
  unfold State.screen
  split
  · exact (stray_frame s).mono sub
  · exact h _ _ _

theorem takeKeepalive_frame (r : RadioIx) (alert : Bool) :
    ChangesOnly [.links, .counters, .notices] s (s.takeKeepalive r alert) := by
  have h : ChangesOnly [.links, .counters, .notices] s
      ((s.setLink r { s.links[r] with keepaliveSeen := true, alertSeen := alert }).count (.link r .keepalivesReceived)) :=
    (setLink_frame s _ _).le.step (count_frame _ _)
  exact .ite ((h.step (note_frame _ _)).step (count_frame _ _)) h

theorem strictForceAll_frame (r : RadioIx) : ChangesOnly exitFields s (s.strictForceAll r) := by
  have one (s : State) (ix : Nat) : ChangesOnly exitFields s (State.strictForce r s ix) := by
    unfold State.strictForce
    split
    · exact .refl _ _
    · split
      · exact .ite (force_frame s _ _ _ _ _ _) (.refl _ _)
      · exact .refl _ _
  have drawn : ChangesOnly [.draws] s { s with draws := s.draws + 1 } := by rintro (_ | _) h <;> first | rfl | simp at h
  exact drawn.le.trans (.foldl _ one _ _)

/-! ### Claims -/

/-- What a CLAIM reaches (R94 to R99). -/
def claimFields : List Field := [.links, .draws] ++ unbindFields ++ noticeFields

theorem refuseClaim_frame (r : RadioIx) (ix : Nat) (pass : Word) (result : ClaimResult) :
    ChangesOnly (.notices :: sendFields) s (s.refuseClaim r ix pass result) := by
  unfold State.refuseClaim
  refine ChangesOnly.step (ChangesOnly.step ?_ (note_frame _ _)) (send_frame _ _ _)
  split
  · exact .refl _ _
  · exact (count_frame s _).le

theorem mismatch_frame (slot : Nat) (p : Pass) : ChangesOnly [.passes, .counters, .notices] s (s.mismatch slot p) :=
  .ite (((setPass_frame s _ _).le.step (count_frame _ _)).step (note_frame _ _)) (setPass_frame s _ _).le

theorem appendBound_frame (slot ix : Nat) : ChangesOnly [.passes] s (s.appendBound slot ix) := by
  unfold State.appendBound
  split
  · exact .refl _ _
  · exact setPass_frame s _ _

theorem rebind_frame (ix : Nat) (st : Station) : ChangesOnly (.counters :: unbindFields) s (s.rebind ix st) := by
  unfold State.rebind
  split
  · exact .refl _ _
  · exact (unbindStation_frame s _ _).step (count_frame _ _)

theorem bindClaim_frame (r : RadioIx) (ix : Nat) (st : Station) (slot : Nat) (p : Pass) :
    ChangesOnly claimFields s (s.bindClaim r ix st slot p) :=
  (((((rebind_frame s _ _).le (gs := claimFields)).step (appendBound_frame _ _ _)).step (loadBinding_frame _ _ _ _)).step
    (count_frame _ _)).step (send_frame _ _ _)

theorem claim_frame (r : RadioIx) (ix : Nat) (st : Station) (pass : Word) (code : Half) :
    ChangesOnly claimFields s (s.claim r ix st pass code) := by
  have refused (s : State) (result : ClaimResult) : ChangesOnly claimFields s (s.refuseClaim r ix pass result) :=
    (refuseClaim_frame s _ _ _ _).le
  unfold State.claim
  dsimp only
  refine (count_frame s (.admission .claimsReceived)).le.trans (.ite ?_ (refused _ _))
  unfold State.checkClaim
  split
  · exact refused _ _
  · split
    · exact refused _ _
    · split
      · exact refused _ _
      · exact refused _ _
      · exact refused _ _
      · exact .ite (refused _ _) (.ite ((expireDirectly_frame _ _ _).le.trans (refused _ _))
          (.ite ((mismatch_frame _ _ _).le.trans (refused _ _)) (.ite ((count_frame _ _).le.step (send_frame _ _ _))
            (.ite (refused _ _) (bindClaim_frame _ _ _ _ _ _)))))

/-! ### Subscriptions and channels -/

/-- What an entry that is added or removed reaches (R118, R119). -/
def subscribeFields : List Field := [.links, .draws, .stations, .groups, .notices, .lanes, .counters, .wire]

theorem subscribe_frame (r : RadioIx) (ix : Nat) (st : Station) (b : Byte) :
    ChangesOnly subscribeFields s (s.subscribe r ix st b) := by
  have told (s : State) (c : Counter) (x : SubResult) : ChangesOnly subscribeFields s ((s.count c).subAnswer r ix b x) :=
    (count_frame s _).le.step (send_frame _ _ _)
  have added (c : ChannelIx) : ChangesOnly subscribeFields s (s.addEntry r ix st c) :=
    ((setStation_frame s _ _).le.step (joinGroup_frame _ _ _ _)).step (count_frame _ _)
  unfold State.subscribe
  refine .ite ?_ (told _ _ _)
  unfold State.subscribeHere
  split
  · exact .ite (told _ _ _) (told _ _ _)
  · exact .ite (told _ _ _) (.ite (told _ _ _) (.ite ((added _).step (send_frame _ _ _)) (told _ _ _)))

theorem dropEntry_frame (ix : Nat) (st : Station) (c : ChannelIx) :
    ChangesOnly [.stations, .groups, .offers, .counters] s (s.dropEntry ix st c) := by
  unfold State.dropEntry
  dsimp only
  split
  · exact (setStation_frame s _ _).le
  · exact (setStation_frame s _ _).le.step (leaveGroup_frame _ _ _ _)

theorem unsubscribeHere_frame (ix : Nat) (st : Station) (b : Byte) :
    ChangesOnly [.stations, .groups, .offers, .counters] s (s.unsubscribeHere ix st b) := by
  unfold State.unsubscribeHere
  split
  · exact (count_frame s _).le
  · exact .ite ((dropEntry_frame s _ _ _).step (count_frame _ _)) (count_frame s _).le

theorem unsubscribe_frame (r : RadioIx) (ix : Nat) (st : Station) (b : Byte) :
    ChangesOnly (.offers :: subscribeFields) s (s.unsubscribe r ix st b) :=
  .ite ((unsubscribeHere_frame s _ _ _).le.step (send_frame _ _ _)) ((count_frame s _).le.step (send_frame _ _ _))

/-- What a channel request's owner reaches (R112 to R114). -/
def channelFields : List Field := [.channels, .stations, .groups, .offers, .counters]

theorem examine_frame (c : ChannelIx) (o l : Bool) (ix : Nat) : ChangesOnly channelFields s (State.examine c o l s ix) := by
  unfold State.examine
  split
  · exact .refl _ _
  · exact .ite ((dropEntry_frame s _ _ _).le.step (count_frame _ _)) (.ite (setStation_frame s _ _).le (.refl _ _))

theorem discardChannel_frame (c : ChannelIx) : ChangesOnly [.groups, .offers, .counters] s (s.discardChannel c) :=
  .foldl _ (fun s r => discardGroup_frame s r c) _ s

theorem openLive_frame (c : ChannelIx) (o l : Bool) : ChangesOnly channelFields s (s.openLive c o l).2 :=
  ((setChannel_frame s _ _).le.trans (.foldl _ (fun s ix => examine_frame s _ _ _ ix) _ _)).step (count_frame _ _)

theorem closeLive_frame (c : ChannelIx) : ChangesOnly channelFields s (s.closeLive c).2 := by
  have h : ChangesOnly channelFields s { s with stations := s.stations.map fun (e : Nat × Station) => (e.1, e.2.without c) } := by
    rintro (_ | _) h <;> first | rfl | simp [channelFields] at h
  exact ((h.step (setChannel_frame _ _ _)).step (discardChannel_frame _ _)).step (count_frame _ _)

theorem ownChannelOpen_frame (p : List Byte) : ChangesOnly channelFields s (ownChannelOpen p s).2 := by
  unfold ownChannelOpen
  split
  · split
    · split
      · exact openLive_frame s _ _ _
      · exact (setChannel_frame s _ _).le.step (count_frame _ _)
    · exact .refl _ _
  · exact .refl _ _

theorem ownChannelClose_frame (p : List Byte) : ChangesOnly channelFields s (ownChannelClose p s).2 := by
  unfold ownChannelClose
  split
  · split
    · exact .refl _ _
    · split
      · exact closeLive_frame s _
      · exact .refl _ _
  · exact .refl _ _

/-- What a replay packet reaches at its ingress (R125, R126). -/
def ingressFields : List Field := [.channels, .groups, .offers, .counters, .notices]

theorem skipChannel_frame (c : ChannelIx) : ChangesOnly [.groups] s (s.skipChannel c) :=
  .foldl _ (fun s r => deliver_frame s r c .skipToKey) _ s

theorem offer_frame (p : Packet) : ChangesOnly [.offers] s (s.offer p) := by rintro (_ | _) h <;> first | rfl | simp at h

theorem takePacket_frame (p : Packet) : ChangesOnly [.channels, .counters] s (s.takePacket p) :=
  (setChannel_frame s _ _).le.step (count_frame _ _)

theorem gap_frame (p : Packet) : ChangesOnly ingressFields s (s.gap p) := by
  have h : ChangesOnly ingressFields s ((s.count (.channel p.channel .sequenceGaps)).note .replaySequenceGap) :=
    (count_frame s _).le.step (note_frame _ _)
  unfold State.gap
  dsimp only
  split
  · exact (h.step (skipChannel_frame _ _)).step (count_frame _ _)
  · exact h.step (offer_frame _ _)

theorem ingress_frame (p : Packet) : ChangesOnly ingressFields s (s.ingress p) := by
  have taken : ChangesOnly ingressFields s (s.takePacket p) := (takePacket_frame s p).le
  refine .ite ((count_frame s _).le.step (note_frame _ _)) ?_
  split
  · exact taken.step (offer_frame _ _)
  · exact .ite (taken.step (offer_frame _ _)) (.ite (taken.trans (gap_frame _ _)) (count_frame s _).le)

/-- What a decision reaches (R129 to R134). -/
def decisionFields : List Field := [.links, .stations, .groups, .credit, .counters, .notices]

theorem decideGroup_frame (r : RadioIx) (c : ChannelIx) (g : Group) (p : Packet) :
    ChangesOnly decisionFields s (s.decideGroup r c g p) := by
  have dropped (n : Counter) (src : Source) : ChangesOnly decisionFields s (((s.deliver r c .skipToKey).count n).note src) :=
    ((deliver_frame s _ _ _).le.step (count_frame _ _)).step (note_frame _ _)
  refine .ite (count_frame s _).le (.ite (count_frame s _).le ?_)
  unfold State.decideFor
  dsimp only
  refine .ite (dropped _ _) ?_
  split
  · exact dropped _ _
  · exact (sendCopies_frame s _ _ _ _ _).le

/-! ### Passes, the seat map and the sweeps -/

theorem startExpirySweep_frame : ChangesOnly [.expirySweep, .counters] s s.startExpirySweep := by
  have h : ChangesOnly [.expirySweep, .counters] s
      ({ s with expirySweep := { running := true, cursor := 0 } }.count (.pass .sweepsStarted)) := by
    rintro (_ | _) h <;> first | rfl | simp at h
  exact .ite (h.step (count_frame _ _)) h

theorem startZoneSweep_frame : ChangesOnly [.zoneSweep, .counters] s s.startZoneSweep := by
  have h : ChangesOnly [.zoneSweep, .counters] s
      ({ s with zoneSweep := { running := true, cursor := 0 } }.count (.admission .sweepsStarted)) := by
    rintro (_ | _) h <;> first | rfl | simp at h
  exact .ite (h.step (count_frame _ _)) h

theorem expiryVisit_frame (slot : Nat) : ChangesOnly (.counters :: unbindFields) s (s.expiryVisit slot) := by
  unfold State.expiryVisit
  split
  · exact .refl _ _
  · exact .ite ((endPass_frame s _ _ _).step (count_frame _ _)) (.refl _ _)

theorem zoneVisit_frame (ix : Nat) : ChangesOnly [.stations, .counters] s (s.zoneVisit ix) := by
  have visited (st : Station) : ChangesOnly [.stations, .counters] s ((s.setStation ix st).repause ix) :=
    (setStation_frame s _ _).le.step (repause_frame _ _)
  unfold State.zoneVisit
  split
  · exact .refl _ _
  · split
    · exact .refl _ _
    · split
      · exact .refl _ _
      · exact .ite (visited _) ((visited _).step (count_frame _ _))

theorem ownSeatMapWrite_frame (p : List Byte) :
    ChangesOnly [.seatMap, .zoneSweep, .counters] s (ownSeatMapWrite p s).2 := by
  have written (m : Table RadioIx) : ChangesOnly [.seatMap, .zoneSweep, .counters] s { s with seatMap := m } := by
    rintro (_ | _) h <;> first | rfl | simp at h
  unfold ownSeatMapWrite
  split
  · split
    · split
      · exact .refl _ _
      · exact ((written _).step (startZoneSweep_frame _)).step (count_frame _ _)
    · exact .refl _ _
  · exact .refl _ _

theorem loadPass_frame (p : Pass) : ChangesOnly [.passes, .passMap, .counters] s (s.loadPass p).2 := by
  have loaded (slot : Nat) : ChangesOnly [.passes, .passMap, .counters] s
      ({ s.setPass slot p with passMap := s.passMap.put p.number.toNat slot }.count (.pass .loaded)) := by
    rintro (_ | _) h <;> first | rfl | simp at h
  unfold State.loadPass
  split
  · exact (count_frame s _).le
  · split
    · exact (count_frame s _).le
    · exact .ite ((loaded _).step (count_frame _ _)) (loaded _)

theorem ownPassLoad_frame (p : List Byte) : ChangesOnly [.passes, .passMap, .counters] s (ownPassLoad p s).2 := by
  unfold ownPassLoad
  split
  · split
    · exact .refl _ _
    · split
      · exact loadPass_frame s _
      · exact .refl _ _
  · exact .refl _ _

theorem amendPass_frame (slot : Nat) (p : Pass) (a : Amendment) :
    ChangesOnly (.counters :: unbindFields) s (s.amendPass slot p a).2 := by
  have h : ChangesOnly (.counters :: unbindFields) s ((s.setPass slot (a.apply p)).count (.pass .amends)) :=
    (setPass_frame s _ _).le.step (count_frame _ _)
  unfold State.amendPass
  dsimp only
  split
  · exact h.trans (expireDirectly_frame _ _ _)
  · exact h.trans (.foldl _ (fun s ix => (reload_frame s _ _ ix).le) _ _)

theorem ownPassAmend_frame (p : List Byte) : ChangesOnly (.counters :: unbindFields) s (ownPassAmend p s).2 := by
  unfold ownPassAmend
  split
  · exact .refl _ _
  · split
    · exact .refl _ _
    · split
      · exact amendPass_frame s _ _ _
      · exact .refl _ _

theorem revokePass_frame (slot : Nat) (p : Pass) :
    ChangesOnly (.notices :: .counters :: unbindFields) s (s.revokePass slot p).2 := by
  have h : ChangesOnly (.notices :: .counters :: unbindFields) s
      ((if p.inForce then s.endPass slot p .revoked else s.setPass slot { p with state := .revoked }).count
        (.pass .revocations)) :=
    ChangesOnly.step (.ite (endPass_frame s _ _ _).le (setPass_frame s _ _).le) (count_frame _ _)
  exact .ite (h.step (note_frame _ _)) h

theorem ownPassRevoke_frame (p : List Byte) :
    ChangesOnly (.notices :: .counters :: unbindFields) s (ownPassRevoke p s).2 := by
  unfold ownPassRevoke
  split
  · exact .refl _ _
  · split
    · exact .refl _ _
    · exact revokePass_frame s _ _

theorem ownPassRemove_frame (p : List Byte) :
    ChangesOnly (.passMap :: .counters :: unbindFields) s (ownPassRemove p s).2 := by
  unfold ownPassRemove
  split
  · exact .refl _ _
  · split
    · exact .refl _ _
    next slot p _ =>
      have h : ChangesOnly (.passMap :: .counters :: unbindFields) s (s.unbindAll slot p.bound) := (unbindAll_frame s _ _).le
      unfold State.removePass
      dsimp only
      refine ChangesOnly.step ?_ (count_frame _ _)
      refine h.step (fs := [.passes, .passMap]) ?_
      rintro (_ | _) h <;> first | rfl | simp at h

theorem ownPassUnlock_frame (p : List Byte) : ChangesOnly [.passes, .counters] s (ownPassUnlock p s).2 := by
  unfold ownPassUnlock
  split
  · exact .refl _ _
  · split
    · exact .refl _ _
    · split
      · exact (setPass_frame s _ _).le.step (count_frame _ _)
      · exact .refl _ _

/-! ### The other owners -/

theorem ownRightsSet_frame (p : List Byte) : ChangesOnly [.lanes, .counters] s (ownRightsSet p s).2 := by
  unfold ownRightsSet
  split
  · split
    · exact .refl _ _
    · split
      · exact (setLane_frame s _ _).le.step (count_frame _ _)
      · exact .refl _ _
  · exact .refl _ _

theorem ownRadioProfileSet_frame (p : List Byte) : ChangesOnly [.links, .credit] s (ownRadioProfileSet p s).2 := by
  have set (r : RadioIx) (l : SeatLink) (v : Vector Int 64) : ChangesOnly [.links, .credit] s { s.setLink r l with credit := v } := by
    rintro (_ | _) h <;> first | rfl | simp at h
  unfold ownRadioProfileSet
  split
  · split
    · unfold State.setProfile
      dsimp only
      split
      · exact .refl _ _
      · exact set _ _ _
    · exact .refl _ _
  · exact .refl _ _

theorem restartLink_frame (r : RadioIx) : ChangesOnly exitFields s (s.restartLink r) := by
  have h (l : SeatLink) : ChangesOnly exitFields s ((s.setLink r l).count (.link r .restarts)) :=
    (setLink_frame s _ _).le.step (count_frame _ _)
  have left (t : State) : ChangesOnly exitFields t (if s.links[r].state = .up then t.exitUp r else t.discardQueue r) :=
    .ite (exitUp_frame t r) ((setLink_frame t _ _).le.step (addTo_frame _ _ _))
  exact .ite (((h _).trans (left _)).step (note_frame _ _)) ((h _).trans (left _))

theorem ownLinkRestart_frame (p : List Byte) : ChangesOnly exitFields s (ownLinkRestart p s).2 := by
  unfold ownLinkRestart
  split
  · split
    · exact .refl _ _
    · exact restartLink_frame s _
  · exact .refl _ _

theorem ownLinkFaultArm_frame (p : List Byte) : ChangesOnly [.links] s (ownLinkFaultArm p s).2 := by
  unfold ownLinkFaultArm
  split
  · split
    · split
      · exact setLink_frame s _ _
      · exact .refl _ _
    · exact .refl _ _
  · exact .refl _ _

theorem dropFromRadios_frame (ix : Nat) (st : Station) : ChangesOnly sendFields s (s.dropFromRadios ix st) := by
  unfold State.dropFromRadios
  split
  · exact send_frame s _ _
  · exact .ite (send_frame s _ _) ((send_frame s _ _).trans (send_frame _ _ _))
  · exact .refl _ _

theorem ownStationEject_frame (p : List Byte) :
    ChangesOnly (sendFields ++ freeFields) s (ownStationEject p s).2 := by
  unfold ownStationEject
  split
  · split
    · unfold State.eject
      split
      · split
        · exact .refl _ _
        · split
          · exact .refl _ _
          · exact ((dropFromRadios_frame s _ _).le.step (free_frame _ _ _)).step (count_frame _ _)
      · exact .refl _ _
    · exact .refl _ _
  · exact .refl _ _

theorem ownPhaseSet_frame (p : List Byte) : ChangesOnly [.phase, .expirySweep, .counters] s (ownPhaseSet p s).2 := by
  have set (p : Phase) : ChangesOnly [.phase, .expirySweep, .counters] s { s with phase := p } := by
    rintro (_ | _) h <;> first | rfl | simp at h
  unfold ownPhaseSet
  split
  · split
    · exact .refl _ _
    · unfold State.setPhase
      split
      · exact (count_frame s _).le
      · split
        · exact .refl _ _
        · exact ((set _).step (startExpirySweep_frame _)).step (count_frame _ _)
  · exact .refl _ _

theorem ownSectorSet_frame (p : List Byte) : ChangesOnly [.settings, .links, .credit, .counters] s (ownSectorSet p s).2 := by
  have set (v : Settings) : ChangesOnly [.settings, .links, .credit, .counters] s { s with settings := v } := by
    rintro (_ | _) h <;> first | rfl | simp at h
  unfold ownSectorSet
  split
  · split
    · exact .refl _ _
    · exact ((set _).trans (.foldl _ (fun s r => (setLink_frame s _ _).le.step (setCredit_frame _ _ _)) _ _)).step
        (count_frame _ _)
  · exact .refl _ _

/-- What MATCH_CLEAR empties (R150). -/
def clearFields : List Field :=
  [.stations, .addressMap, .stationCount, .holdFree, .passes, .passMap, .expirySweep, .zoneSweep, .channels, .groups, .offers,
    .credit, .phase]

theorem ownMatchClear_frame (p : List Byte) : ChangesOnly (.counters :: clearFields) s (ownMatchClear p s).2 := by
  have cleared : ChangesOnly (.counters :: clearFields) s s.cleared := by
    rintro (_ | _) h <;> first | rfl | simp [clearFields] at h
  unfold ownMatchClear
  split
  · exact cleared.step (count_frame _ _)
  · exact .refl _ _

theorem ownCountersClear_frame (p : List Byte) : ChangesOnly [.counters] s (ownCountersClear p s).2 := by
  unfold ownCountersClear
  split
  · exact .refl _ _
  · exact zero_frame s _

theorem ownNoticeLevelsSet_frame (lane : LaneIx) (p : List Byte) : ChangesOnly [.notices] s (ownNoticeLevelsSet lane p s).2 := by
  unfold ownNoticeLevelsSet
  split
  · split
    · split
      · exact .refl _ _
      · exact setNotice_frame s _ _
    · exact .refl _ _
  · exact .refl _ _

theorem ownNoticeMaskSet_frame (lane : LaneIx) (p : List Byte) : ChangesOnly [.notices] s (ownNoticeMaskSet lane p s).2 := by
  unfold ownNoticeMaskSet
  split
  · split
    · exact .refl _ _
    · dsimp only
      split
      · exact setNotice_frame s _ _
      · exact .refl _ _
  · exact .refl _ _

theorem ownNoticeAccept_frame (lane : LaneIx) (p : List Byte) : ChangesOnly [.notices] s (ownNoticeAccept lane p s).2 := by
  unfold ownNoticeAccept
  split
  · dsimp only
    split
    · exact .refl _ _
    · exact setNotice_frame s _ _
  · exact .refl _ _

theorem ownNoticeReturn_frame (lane : LaneIx) (p : List Byte) : ChangesOnly [.notices] s (ownNoticeReturn lane p s).2 := by
  unfold ownNoticeReturn
  split
  · dsimp only
    split
    · exact .refl _ _
    · exact setNotice_frame s _ _
  · exact .refl _ _

theorem ownNoticeClear_frame (lane : LaneIx) (p : List Byte) : ChangesOnly [.notices] s (ownNoticeClear lane p s).2 := by
  unfold ownNoticeClear
  split
  · exact .refl _ _
  · exact setNotice_frame s _ _

end

/-! ### The reads leave the state to their service -/

theorem ownStationRead_state (p : List Byte) (s : State) : (ownStationRead p s).2 = s := by
  unfold ownStationRead
  split
  · rfl
  · split <;> rfl
  · split <;> rfl

theorem ownPassRead_state (p : List Byte) (s : State) : (ownPassRead p s).2 = s := by
  unfold ownPassRead
  split
  · rfl
  · split <;> rfl
  · split <;> rfl

theorem ownRadioRead_state (p : List Byte) (s : State) : (ownRadioRead p s).2 = s := by
  unfold ownRadioRead
  split
  · split <;> rfl
  · rfl

theorem ownGroupRead_state (p : List Byte) (s : State) : (ownGroupRead p s).2 = s := by
  unfold ownGroupRead
  split
  · rfl
  · split
    · rfl
    · split
      · rfl
      · split <;> rfl
    · rfl

theorem ownSeatMapRead_state (p : List Byte) (s : State) : (ownSeatMapRead p s).2 = s := by
  unfold ownSeatMapRead
  split
  · split <;> rfl
  · rfl

theorem ownCountersRead_state (p : List Byte) (s : State) : (ownCountersRead p s).2 = s := by
  unfold ownCountersRead
  split <;> rfl

theorem ownSectorRead_state (p : List Byte) (s : State) : (ownSectorRead p s).2 = s := by
  unfold ownSectorRead
  split <;> rfl

/-- A service whose owner leaves the state as it stands changes what every service changes. -/
theorem serve_frame_read {owner : List Byte → State → Reply × State} {lane : LaneIx} {k : RequestKind} {s t : State}
    (ht : serve lane k owner s = .next t) (h : ∀ p t, (owner p t).2 = t) : ChangesOnly serviceFields s t :=
  serve_frame ht (fs := []) fun p t => by rw [h p t]; exact .refl _ _

end Sys2Proof.Machine
end

section
/-! PROOFS. Every command keeps to its footprint (O3). -/

namespace Sys2Proof.Machine

/- The whole text is elaborated in one process: its proofs in turn, so that their threads' stacks stay within its memory. -/
set_option Elab.async false

theorem powerOnReset_footprint {s t : State} (e : ResetEvent) (ht : exec (.powerOnReset e) s = .next t) :
    ChangesOnly (footprint (.powerOnReset e)) s t := by
  dsimp only [exec, execPowerOnReset, footprint] at ht ⊢
  cases e with
  | held => cases ht; rintro (_ | _) h <;> first | rfl | simp at h
  | left carrier =>
    cases ht
    intro f hf
    have kept : f = .wire ∨ f = .draws ∨ f = .pending := by cases f <;> simp at hf ⊢
    rcases kept with rfl | rfl | rfl <;> rfl

theorem carrierAppear_footprint {s t : State} (r : RadioIx) (ht : exec (.carrierAppear r) s = .next t) :
    ChangesOnly (footprint (.carrierAppear r)) s t := by
  dsimp only [exec, execCarrierAppear, footprint] at ht ⊢
  refine event_frame ?_ (by decide) ht
  have set (l : SeatLink) : ChangesOnly (.links :: noticeFields) s ((s.setLink r l).count (.link r .carrierAppears)) :=
    (setLink_frame s _ _).le.step (count_frame _ _)
  exact .ite (.ite ((set _).step (note_frame _ _)) (set _)) (.refl _ _)

theorem carrierLoss_footprint {s t : State} (r : RadioIx) (ht : exec (.carrierLoss r) s = .next t) :
    ChangesOnly (footprint (.carrierLoss r)) s t := by
  dsimp only [exec, execCarrierLoss, footprint] at ht ⊢
  refine event_frame ?_ (by decide) ht
  have set (l : SeatLink) : ChangesOnly exitFields s ((s.setLink r l).count (.link r .carrierLosses)) :=
    (setLink_frame s _ _).le.step (count_frame _ _)
  exact .ite (.refl _ _) (.ite ((set _).trans (exitUp_frame _ _)) (set _))

theorem sampleExpiry_footprint {s t : State} (r : RadioIx) (ht : exec (.sampleExpiry r) s = .next t) :
    ChangesOnly (footprint (.sampleExpiry r)) s t := by
  dsimp only [exec, execSampleExpiry, footprint] at ht ⊢
  refine event_frame ?_ (by decide) ht
  have taken (v : Vector Nat 64) : ChangesOnly (.samplesDue :: exitFields) s { s with samplesDue := v } := by
    rintro (_ | _) h <;> first | rfl | simp at h
  have filtered (s : State) (l : SeatLink) : ChangesOnly (.samplesDue :: exitFields) s (s.applyFilter r l) := by
    have entered : ChangesOnly (.samplesDue :: exitFields) s (s.enterUp r l) := by
      have h : ChangesOnly (.samplesDue :: exitFields) s (((s.setLink r { l with
          state := .up, sample := .none, filter := 0, awaitingFirstUp := false }).note .linkUp).count (.link r .linkUpEntries)) :=
        ((setLink_frame s _ _).le.step (note_frame _ _)).step (count_frame _ _)
      exact .ite (h.step (note_frame _ _)) h
    unfold State.applyFilter
    split
    · exact .refl _ _
    · exact .ite ((setLink_frame s _ _).le.step (exitUp_frame _ _)) (setLink_frame s _ _).le
    · exact .ite entered (setLink_frame s _ _).le
    · exact .ite entered (setLink_frame s _ _).le
  exact .ite (.refl _ _) (.ite (taken _) ((taken _).trans (filtered _ _)))

theorem budgetPeriodExpiry_footprint {s t : State} (ht : exec .budgetPeriodExpiry s = .next t) :
    ChangesOnly (footprint .budgetPeriodExpiry) s t := by
  dsimp only [exec, execBudgetPeriodExpiry, footprint] at ht ⊢
  refine event_frame_quiet ?_ (by decide) ht
  refine .ite ?_ (.refl _ _)
  rintro (_ | _) h <;> first | rfl | simp at h

theorem refill_footprint {s t : State} (r : RadioIx) (ht : exec (.refill r) s = .next t) :
    ChangesOnly (footprint (.refill r)) s t := by
  dsimp only [exec, execRefill, footprint] at ht ⊢
  refine event_frame_quiet ?_ (by decide) ht
  refine .ite (.refl _ _) ?_
  have taken (v : Vector Nat 64) : ChangesOnly [.refillsDue, .credit, .counters] s { s with refillsDue := v } := by
    rintro (_ | _) h <;> first | rfl | simp at h
  exact ((taken _).step (setCredit_frame _ _ _)).step (addTo_frame _ _ _)

theorem handoffDeadlineExpiry_footprint {s t : State} (k : StationIx) (ht : exec (.handoffDeadlineExpiry k) s = .next t) :
    ChangesOnly (footprint (.handoffDeadlineExpiry k)) s t := by
  dsimp only [exec, execHandoffDeadlineExpiry, footprint] at ht ⊢
  refine event_frame ?_ (by decide) ht
  split
  · exact .refl _ _
  · split
    · exact .ite (.ite (endReturn_frame s _ _ _ _ _) (force_frame s _ _ _ _ _ _)) (.refl _ _)
    · exact .refl _ _

theorem guardDeadlineExpiry_footprint {s t : State} (k : StationIx) (ht : exec (.guardDeadlineExpiry k) s = .next t) :
    ChangesOnly (footprint (.guardDeadlineExpiry k)) s t := by
  dsimp only [exec, execGuardDeadlineExpiry, footprint] at ht ⊢
  refine event_frame_quiet ?_ (by decide) ht
  split
  · exact .refl _ _
  · split
    · exact .refl _ _
    · exact .ite (setStation_frame s _ _) (.refl _ _)

theorem orphanDeadlineExpiry_footprint {s t : State} (k : StationIx) (ht : exec (.orphanDeadlineExpiry k) s = .next t) :
    ChangesOnly (footprint (.orphanDeadlineExpiry k)) s t := by
  dsimp only [exec, execOrphanDeadlineExpiry, footprint] at ht ⊢
  refine event_frame ?_ (by decide) ht
  split
  · exact .refl _ _
  · split
    · exact .ite (((free_frame s _ _).le.step (count_frame _ _)).step (note_frame _ _)) (.refl _ _)
    · exact .refl _ _

theorem join_footprint {s t : State} (r : RadioIx) (q : Byte) (a : Address) (b : Byte) (ht : exec (.join r q a b) s = .next t) :
    ChangesOnly (footprint (.join r q a b)) s t := by
  dsimp only [exec, execJoin, footprint] at ht ⊢
  exact event_frame (receive_frame s r q fun t => (join_frame t _ _ _).le) (by decide) ht

theorem roam_footprint {s t : State} (r : RadioIx) (q : Byte) (a : Address) (b f : Byte) (ht : exec (.roam r q a b f) s = .next t) :
    ChangesOnly (footprint (.roam r q a b f)) s t := by
  dsimp only [exec, execRoam, footprint] at ht ⊢
  exact event_frame (receive_frame s r q fun t => (roam_frame t _ _ _ _).le) (by decide) ht

theorem leave_footprint {s t : State} (r : RadioIx) (q : Byte) (i : Half) (ht : exec (.leave r q i) s = .next t) :
    ChangesOnly (footprint (.leave r q i)) s t := by
  dsimp only [exec, execLeave, footprint] at ht ⊢
  exact event_frame (receive_frame s r q fun t => screen_frame t r i fun _ _ t => leave_frame t _ _ _) (by decide) ht

theorem rate_footprint {s t : State} (r : RadioIx) (q : Byte) (i : Half) (b : Byte) (ht : exec (.rate r q i b) s = .next t) :
    ChangesOnly (footprint (.rate r q i b)) s t := by
  dsimp only [exec, execRate, footprint] at ht ⊢
  exact event_frame (receive_frame s r q fun t => screen_frame t r i fun _ _ t => (setStation_frame t _ _).le) (by decide) ht

theorem claim_footprint {s t : State} (r : RadioIx) (q : Byte) (i : Half) (p : Word) (k : Half) (ht : exec (.claim r q i p k) s = .next t) :
    ChangesOnly (footprint (.claim r q i p k)) s t := by
  dsimp only [exec, execClaim, footprint] at ht ⊢
  exact event_frame (receive_frame s r q fun t => screen_frame t r i fun _ _ t => (claim_frame t _ _ _ _ _).le) (by decide) ht

theorem subscribe_footprint {s t : State} (r : RadioIx) (q : Byte) (i : Half) (c : Byte) (ht : exec (.subscribe r q i c) s = .next t) :
    ChangesOnly (footprint (.subscribe r q i c)) s t := by
  dsimp only [exec, execSubscribe, footprint] at ht ⊢
  exact event_frame (receive_frame s r q fun t => screen_frame t r i fun _ _ t => (subscribe_frame t _ _ _ _).le)
    (by decide) ht

theorem unsubscribe_footprint {s t : State} (r : RadioIx) (q : Byte) (i : Half) (c : Byte) (ht : exec (.unsubscribe r q i c) s = .next t) :
    ChangesOnly (footprint (.unsubscribe r q i c)) s t := by
  dsimp only [exec, execUnsubscribe, footprint] at ht ⊢
  exact event_frame (receive_frame s r q fun t => screen_frame t r i fun _ _ t => (unsubscribe_frame t _ _ _ _).le)
    (by decide) ht

theorem released_footprint {s t : State} (r : RadioIx) (q : Byte) (i : Half) (a : Address) (u : Half)
    (ht : exec (.released r q i a u) s = .next t) :
    ChangesOnly (footprint (.released r q i a u)) s t := by
  dsimp only [exec, execReleased, footprint] at ht ⊢
  refine event_frame (receive_frame s r q fun t => ?_) (by decide) ht
  refine .ite ?_ (stray_frame t).le
  split
  · exact (stray_frame t).le
  · exact released_frame t _ _ _ _ _

theorem keepalive_footprint {s t : State} (r : RadioIx) (q f : Byte) (ht : exec (.keepalive r q f) s = .next t) :
    ChangesOnly (footprint (.keepalive r q f)) s t := by
  dsimp only [exec, execKeepalive, footprint] at ht ⊢
  refine event_frame ?_ (by decide) ht
  exact .ite (.refl _ _) (((checkSequence_frame s _ _).le.step (count_frame _ _)).step (takeKeepalive_frame _ _ _))

theorem corruptControlMessage_footprint {s t : State} (r : RadioIx) (bytes : List Byte)
    (ht : exec (.corruptControlMessage r bytes) s = .next t) :
    ChangesOnly (footprint (.corruptControlMessage r bytes)) s t := by
  dsimp only [exec, execCorruptControlMessage, footprint] at ht ⊢
  have noticed : ChangesOnly exitFields s
      ((s.count (.link r .crcErrors)).note .crcError) := (count_frame s _).le.step (note_frame _ _)
  refine event_frame ?_ (by decide) ht
  exact .ite (.refl _ _) (.ite (noticed.trans (strictForceAll_frame _ _)) noticed)

theorem malformedControlMessage_footprint {s t : State} (r : RadioIx) (bytes : List Byte)
    (ht : exec (.malformedControlMessage r bytes) s = .next t) :
    ChangesOnly (footprint (.malformedControlMessage r bytes)) s t := by
  dsimp only [exec, execMalformedControlMessage, footprint] at ht ⊢
  refine event_frame ?_ (by decide) ht
  exact .ite (.refl _ _) ((checkSequence_frame s _ _).le.step (count_frame _ _))

theorem downlinkFanFrame_footprint {s t : State} (f : FanFrame) (ht : exec (.downlinkFanFrame f) s = .next t) :
    ChangesOnly (footprint (.downlinkFanFrame f)) s t := by
  dsimp only [exec, execDownlinkFanFrame, footprint] at ht ⊢
  refine event_frame ?_ (by decide) ht
  split
  · exact (count_frame s _).le
  · split
    · exact .ite ((enqueue_frame s _ _).le.step (count_frame _ _)) (count_frame s _).le
    · exact (hold_frame s _ _ _ _ _ _ _ _).le
    · exact (count_frame s _).le

theorem uplinkFanFrame_footprint {s t : State} (r : RadioIx) (f : FanFrame) (ht : exec (.uplinkFanFrame r f) s = .next t) :
    ChangesOnly (footprint (.uplinkFanFrame r f)) s t := by
  dsimp only [exec, execUplinkFanFrame, footprint] at ht ⊢
  refine event_frame_quiet ?_ (by decide) ht
  split
  · exact (count_frame s _).le
  · exact .ite (emit_frame s _).le (count_frame s _).le

theorem transmitComplete_footprint {s t : State} (r : RadioIx) (ht : exec (.transmitComplete r) s = .next t) :
    ChangesOnly (footprint (.transmitComplete r)) s t := by
  dsimp only [exec, execTransmitComplete, footprint] at ht ⊢
  refine event_frame_quiet ?_ (by decide) ht
  split
  · exact .refl _ _
  · exact (setLink_frame s _ _).le.step (emit_frame _ _)

theorem replayPacket_footprint {s t : State} (ok : Bool) (body : List Byte) (ht : exec (.replayPacket ok body) s = .next t) :
    ChangesOnly (footprint (.replayPacket ok body)) s t := by
  dsimp only [exec, execReplayPacket, footprint] at ht ⊢
  refine event_frame ?_ (by decide) ht
  refine .ite (count_frame s _).le ?_
  split
  · exact (count_frame s _).le
  · exact (ingress_frame s _).le

theorem groupDecision_footprint {s t : State} (r : RadioIx) (c : ChannelIx) (k : Nat) (ht : exec (.groupDecision r c k) s = .next t) :
    ChangesOnly (footprint (.groupDecision r c k)) s t := by
  dsimp only [exec, execGroupDecision, footprint] at ht ⊢
  refine event_frame ?_ (by decide) ht
  have left (offers : List Offer) : ChangesOnly ([.links, .stations, .groups, .offers, .credit] ++ noticeFields) s
      { s with offers := offers } := by
    rintro (_ | _) h <;> first | rfl | simp at h
  split
  · exact .refl _ _
  · split
    · exact left _
    · exact (left _).step (decideGroup_frame _ _ _ _ _)

theorem expirySweepVisit_footprint {s t : State} (ht : exec .expirySweepVisit s = .next t) :
    ChangesOnly (footprint .expirySweepVisit) s t := by
  dsimp only [exec, execExpirySweepVisit, footprint] at ht ⊢
  refine event_frame ?_ (by decide) ht
  refine .ite ?_ (.refl _ _)
  have visited : ChangesOnly (.expirySweep :: unbindFields ++ noticeFields) s (s.expiryVisit s.expirySweep.cursor) :=
    (expiryVisit_frame s _).le
  have moved (t : State) (w : Sweep) : ChangesOnly (.expirySweep :: unbindFields ++ noticeFields) t { t with expirySweep := w } := by
    rintro (_ | _) h <;> first | rfl | simp at h
  exact .ite (visited.trans (moved _ _)) (((visited.trans (moved _ _)).step (count_frame _ _)).step (note_frame _ _))

theorem zoneSweepVisit_footprint {s t : State} (ht : exec .zoneSweepVisit s = .next t) :
    ChangesOnly (footprint .zoneSweepVisit) s t := by
  dsimp only [exec, execZoneSweepVisit, footprint] at ht ⊢
  refine event_frame ?_ (by decide) ht
  refine .ite ?_ (.refl _ _)
  have visited : ChangesOnly ([.zoneSweep, .stations] ++ noticeFields) s (s.zoneVisit s.zoneSweep.cursor) := (zoneVisit_frame s _).le
  have moved (t : State) (w : Sweep) : ChangesOnly ([.zoneSweep, .stations] ++ noticeFields) t { t with zoneSweep := w } := by
    rintro (_ | _) h <;> first | rfl | simp at h
  exact .ite (visited.trans (moved _ _)) (((visited.trans (moved _ _)).step (count_frame _ _)).step (note_frame _ _))

theorem spiWriteRequest_footprint {s t : State} (bytes : List Byte) (ht : exec (.spiWriteRequest bytes) s = .next t) :
    ChangesOnly (footprint (.spiWriteRequest bytes)) s t := by
  dsimp only [exec, execSpiWriteRequest, footprint] at ht ⊢
  refine event_frame ?_ (by decide) ht
  split
  · exact (count_frame s _).le
  · exact arrive_frame s _ _

theorem spiReadResponse_footprint {s t : State} (n : Nat) (ht : exec (.spiReadResponse n) s = .next t) :
    ChangesOnly (footprint (.spiReadResponse n)) s t := by
  dsimp only [exec, execSpiReadResponse, footprint] at ht ⊢
  refine event_frame_quiet ?_ (by decide) ht
  have taken (x : List Response) : ChangesOnly [.responses, .counters, .wire] s { s with responses := x } := by
    rintro (_ | _) h <;> first | rfl | simp at h
  split
  · exact (emit_frame s _).le
  · exact ((taken _).step (emit_frame _ _)).step (count_frame _ _)

theorem spiOtherCommand_footprint {s t : State} (c : Byte) (bytes : List Byte) (ht : exec (.spiOtherCommand c bytes) s = .next t) :
    ChangesOnly (footprint (.spiOtherCommand c bytes)) s t := by
  dsimp only [exec, execSpiOtherCommand, footprint] at ht ⊢
  cases ht; exact .refl _ _

theorem trunkControlFrame_footprint {s t : State} (ok : Bool) (src : Address) (body : List Byte)
    (ht : exec (.trunkControlFrame ok src body) s = .next t) :
    ChangesOnly (footprint (.trunkControlFrame ok src body)) s t := by
  dsimp only [exec, execTrunkControlFrame, footprint] at ht ⊢
  have arrives (lane : LaneIx) (hl : lane ≠ 0) (q : Request) (t : State) : ChangesOnly noticeFields t (t.arrive lane q) := by
    have h0 : ChangesOnly noticeFields t (t.count (.lane lane .requestsReceived)) := (count_frame t _).le
    unfold State.arrive
    refine .ite (h0.step (setLane_frame _ _ _)) ?_
    rw [State.respond, if_neg hl]
    exact (((h0.step (count_frame _ _)).step (note_frame _ _)).step (emitTrunk_frame _ _ _)).step (count_frame _ _)
  refine event_frame ?_ (by decide) ht
  refine .ite (count_frame s _).le ?_
  split
  · exact (count_frame s _).le
  · split
    · exact (count_frame s _).le
    · exact (count_frame s _).le
    next lane _ _ hlane =>
      have hl : lane ≠ 0 := by simpa using (Option.filter_eq_some_iff.mp hlane).2
      refine .ite (count_frame s _).le ?_
      split
      · exact (count_frame s _).le
      · exact (setLane_frame s _ _).le.trans (arrives lane hl _ _)

theorem unknownRequestKind_footprint {s t : State} (lane : LaneIx) (ht : exec (.unknownRequestKind lane) s = .next t) :
    ChangesOnly (footprint (.unknownRequestKind lane)) s t := by
  dsimp only [exec, execUnknownRequestKind, footprint] at ht ⊢
  refine event_frame ?_ (by decide) ht
  split
  · exact .refl _ _
  next hh =>
    exact .ite (.refl _ _) (((head_frame hh).le.step (count_frame _ _)).step (respond_frame _ _ _))

theorem sectorTimeTick_footprint {s t : State} (ht : exec .sectorTimeTick s = .next t) :
    ChangesOnly (footprint .sectorTimeTick) s t := by
  dsimp only [exec, execSectorTimeTick, footprint] at ht ⊢
  refine event_frame_quiet ?_ (by decide) ht
  refine .ite ?_ ?_ <;> (rintro (_ | _) h <;> first | rfl | simp at h)

/-- Settles O3: each command's frame is put together from the frames of its operations. -/
theorem everyCommandKeepsToItsFootprint : Obligations.EveryCommandKeepsToItsFootprint := by
  intro i s t ht
  cases i with
  | powerOnReset e => exact powerOnReset_footprint e ht
  | carrierAppear r => exact carrierAppear_footprint r ht
  | carrierLoss r => exact carrierLoss_footprint r ht
  | sampleExpiry r => exact sampleExpiry_footprint r ht
  | budgetPeriodExpiry => exact budgetPeriodExpiry_footprint ht
  | refill r => exact refill_footprint r ht
  | handoffDeadlineExpiry k => exact handoffDeadlineExpiry_footprint k ht
  | guardDeadlineExpiry k => exact guardDeadlineExpiry_footprint k ht
  | orphanDeadlineExpiry k => exact orphanDeadlineExpiry_footprint k ht
  | join r q a b => exact join_footprint r q a b ht
  | roam r q a b f => exact roam_footprint r q a b f ht
  | leave r q i => exact leave_footprint r q i ht
  | rate r q i b => exact rate_footprint r q i b ht
  | claim r q i p k => exact claim_footprint r q i p k ht
  | subscribe r q i c => exact subscribe_footprint r q i c ht
  | unsubscribe r q i c => exact unsubscribe_footprint r q i c ht
  | released r q i a u => exact released_footprint r q i a u ht
  | keepalive r q f => exact keepalive_footprint r q f ht
  | corruptControlMessage r bytes => exact corruptControlMessage_footprint r bytes ht
  | malformedControlMessage r bytes => exact malformedControlMessage_footprint r bytes ht
  | downlinkFanFrame f => exact downlinkFanFrame_footprint f ht
  | uplinkFanFrame r f => exact uplinkFanFrame_footprint r f ht
  | transmitComplete r => exact transmitComplete_footprint r ht
  | replayPacket ok body => exact replayPacket_footprint ok body ht
  | groupDecision r c k => exact groupDecision_footprint r c k ht
  | expirySweepVisit => exact expirySweepVisit_footprint ht
  | zoneSweepVisit => exact zoneSweepVisit_footprint ht
  | spiWriteRequest bytes => exact spiWriteRequest_footprint bytes ht
  | spiReadResponse n => exact spiReadResponse_footprint n ht
  | spiOtherCommand c bytes => exact spiOtherCommand_footprint c bytes ht
  | trunkControlFrame ok src body => exact trunkControlFrame_footprint ok src body ht
  | unknownRequestKind lane => exact unknownRequestKind_footprint lane ht
  | radioProfileSet lane => exact serve_frame (gs := footprint (.radioProfileSet 0)) ht fun p t => ownRadioProfileSet_frame t p
  | seatMapWrite lane => exact serve_frame (gs := footprint (.seatMapWrite 0)) ht fun p t => ownSeatMapWrite_frame t p
  | linkRestart lane => exact serve_frame (gs := footprint (.linkRestart 0)) ht fun p t => ownLinkRestart_frame t p
  | linkFaultArm lane => exact serve_frame (gs := footprint (.linkFaultArm 0)) ht fun p t => ownLinkFaultArm_frame t p
  | stationEject lane => exact serve_frame (gs := footprint (.stationEject 0)) ht fun p t => ownStationEject_frame t p
  | phaseSet lane => exact serve_frame (gs := footprint (.phaseSet 0)) ht fun p t => ownPhaseSet_frame t p
  | sectorSet lane => exact serve_frame (gs := footprint (.sectorSet 0)) ht fun p t => ownSectorSet_frame t p
  | matchClear lane => exact serve_frame (gs := footprint (.matchClear 0)) ht fun p t => ownMatchClear_frame t p
  | countersClear lane => exact serve_frame (gs := footprint (.countersClear 0)) ht fun p t => ownCountersClear_frame t p
  | passLoad lane => exact serve_frame (gs := footprint (.passLoad 0)) ht fun p t => ownPassLoad_frame t p
  | passAmend lane => exact serve_frame (gs := footprint (.passAmend 0)) ht fun p t => ownPassAmend_frame t p
  | passRevoke lane => exact serve_frame (gs := footprint (.passRevoke 0)) ht fun p t => ownPassRevoke_frame t p
  | passRemove lane => exact serve_frame (gs := footprint (.passRemove 0)) ht fun p t => ownPassRemove_frame t p
  | passUnlock lane => exact serve_frame (gs := footprint (.passUnlock 0)) ht fun p t => ownPassUnlock_frame t p
  | channelOpen lane => exact serve_frame (gs := footprint (.channelOpen 0)) ht fun p t => ownChannelOpen_frame t p
  | channelClose lane => exact serve_frame (gs := footprint (.channelClose 0)) ht fun p t => ownChannelClose_frame t p
  | noticeLevelsSet lane => exact serve_frame (gs := footprint (.noticeLevelsSet 0)) ht fun p t => ownNoticeLevelsSet_frame t lane p
  | noticeMaskSet lane => exact serve_frame (gs := footprint (.noticeMaskSet 0)) ht fun p t => ownNoticeMaskSet_frame t lane p
  | noticeAccept lane => exact serve_frame (gs := footprint (.noticeAccept 0)) ht fun p t => ownNoticeAccept_frame t lane p
  | noticeReturn lane => exact serve_frame (gs := footprint (.noticeReturn 0)) ht fun p t => ownNoticeReturn_frame t lane p
  | noticeClear lane => exact serve_frame (gs := footprint (.noticeClear 0)) ht fun p t => ownNoticeClear_frame t lane p
  | stationRead lane => exact serve_frame_read ht ownStationRead_state
  | passRead lane => exact serve_frame_read ht ownPassRead_state
  | radioRead lane => exact serve_frame_read ht ownRadioRead_state
  | groupRead lane => exact serve_frame_read ht ownGroupRead_state
  | seatMapRead lane => exact serve_frame_read ht ownSeatMapRead_state
  | countersRead lane => exact serve_frame_read ht ownCountersRead_state
  | sectorRead lane => exact serve_frame_read ht ownSectorRead_state
  | rightsSet lane => exact serve_frame (gs := footprint (.rightsSet 0)) ht fun p t => ownRightsSet_frame t p
  | sectorTimeTick => exact sectorTimeTick_footprint ht

end Sys2Proof.Machine
end

section
/-! PROOFS. Every command but power-on reset leaves the device in order: what its effect does is steady, but for the rights that
RIGHTS_SET writes and the notice state that the notice requests write. -/

namespace Sys2Proof.Machine

/- The whole text is elaborated in one process: its proofs in turn, so that their threads' stacks stay within its memory. -/
set_option Elab.async false

/-! ### Services -/

theorem head_steady {s t : State} {lane : LaneIx} {q : Request} (h : s.head lane = some (q, t)) : Steady s t := by
  unfold State.head at h
  split at h
  · cases h
  next hq =>
    obtain ⟨-, ⟨⟩⟩ := Option.ite_none_right_eq_some.mp h
    exact setLane_steady rfl rfl fun hl => by rw [hq, List.length_cons] at hl; exact (Nat.lt_of_succ_le hl).le

/-- A service keeps what its owner keeps, and its own changes are steady. -/
theorem service_keeps {R : State → State → Prop} (steady : ∀ {s t}, Steady s t → R s t)
    (trans : ∀ {s t u}, R s t → R t u → R s u) {owner : List Byte → State → Reply × State} (h : ∀ p t, R t (owner p t).2)
    (lane : LaneIx) (k : RequestKind) (s : State) : R s (s.service lane k owner) := by
  unfold State.service
  split
  · exact steady (.refl s)
  next q t hh =>
    have taken : R s t := steady (head_steady hh)
    split
    · split
      · exact trans (trans taken (h _ _)) (steady (respond_steady _ _ _))
      · exact trans taken (steady (((count_steady _ _).trans (note_steady _ _)).trans (respond_steady _ _ _)))
    · exact steady (.refl s)

/-! ### Owners and effects that are steady -/

section
variable (s : State)

theorem leave_steady (r : RadioIx) (ix : Nat) (st : Station) : Steady s (s.leave r ix st) := by
  unfold State.leave
  split
  · exact (free_steady s _ _).trans (count_steady _ _)
  · exact .ite (fun _ => endReturn_steady s _ _ _ _ _) fun _ =>
      .ite (fun _ => (complete_steady s _ _ _ _ _).trans (count_steady _ _)) fun _ => abandonToOrphan_steady s _ _ _
  · exact (count_steady s _).trans (note_steady _ _)

theorem released_steady (r : RadioIx) (ix : Nat) (st : Station) (device : Address) (undelivered : Nat) :
    Steady s (s.released r ix st device undelivered) := by
  have error : Steady s ((s.count (.link r .responseErrors)).note .responseError) := (count_steady s _).trans (note_steady _ _)
  have late : Steady s s.late := (count_steady s _).trans (note_steady _ _)
  unfold State.released
  split
  · exact (count_steady s _).trans (note_steady _ _)
  · exact late
  · exact .ite (fun _ => .ite (fun _ => ((complete_steady s _ _ _ _ _).trans (count_steady _ _)).trans (addTo_steady _ _ _))
      fun _ => .ite (fun _ => error.trans (force_steady _ _ _ _ _ _ _)) fun _ => error) fun _ => late

theorem refuseClaim_steady (r : RadioIx) (ix : Nat) (pass : Word) (result : ClaimResult) :
    Steady s (s.refuseClaim r ix pass result) := by
  unfold State.refuseClaim
  refine Steady.trans (Steady.trans ?_ (note_steady _ _)) (send_steady _ _ _)
  split
  · exact .refl s
  · exact count_steady s _

theorem mismatch_steady (slot : Nat) (p : Pass) : Steady s (s.mismatch slot p) :=
  .ite (fun _ => ((setPass_steady s _ _).trans (count_steady _ _)).trans (note_steady _ _)) fun _ => setPass_steady s _ _

theorem bindClaim_steady (r : RadioIx) (ix : Nat) (st : Station) (slot : Nat) (p : Pass) :
    Steady s (s.bindClaim r ix st slot p) := by
  have rebound : Steady s (s.rebind ix st) := by
    unfold State.rebind
    split
    · exact .refl s
    · exact (unbindStation_steady s _ _).trans (count_steady _ _)
  exact (((rebound.trans (appendBound_frame _ _ _).steady).trans (loadBinding_frame _ _ _ _).steady).trans
    (count_steady _ _)).trans (send_steady _ _ _)

theorem claim_steady (r : RadioIx) (ix : Nat) (st : Station) (pass : Word) (code : Half) :
    Steady s (s.claim r ix st pass code) := by
  have refused (s : State) (result : ClaimResult) : Steady s (s.refuseClaim r ix pass result) := refuseClaim_steady s _ _ _ _
  unfold State.claim
  dsimp only
  refine (count_steady s (.admission .claimsReceived)).trans (.ite (fun _ => ?_) fun _ => refused _ _)
  unfold State.checkClaim
  split
  · exact refused _ _
  · split
    · exact refused _ _
    · split
      · exact refused _ _
      · exact refused _ _
      · exact refused _ _
      · exact .ite (fun _ => refused _ _) fun _ => .ite (fun _ => (expireDirectly_steady _ _ _).trans (refused _ _)) fun _ =>
          .ite (fun _ => (mismatch_steady _ _ _).trans (refused _ _)) fun _ =>
            .ite (fun _ => (count_steady _ _).trans (send_steady _ _ _)) fun _ =>
              .ite (fun _ => refused _ _) fun _ => bindClaim_steady _ _ _ _ _ _

theorem subscribe_steady (r : RadioIx) (ix : Nat) (st : Station) (b : Byte) : Steady s (s.subscribe r ix st b) := by
  have told (s : State) (c : Counter) (x : SubResult) : Steady s ((s.count c).subAnswer r ix b x) :=
    (count_steady s _).trans (send_steady _ _ _)
  have added (c : ChannelIx) : Steady s (s.addEntry r ix st c) :=
    ((setStation_steady s _ _).trans (joinGroup_steady _ _ _ _)).trans (count_steady _ _)
  unfold State.subscribe
  refine .ite (fun _ => ?_) fun _ => told _ _ _
  unfold State.subscribeHere
  split
  · exact .ite (fun _ => told _ _ _) fun _ => told _ _ _
  · exact .ite (fun _ => told _ _ _) fun _ => .ite (fun _ => told _ _ _) fun _ =>
      .ite (fun _ => (added _).trans (send_steady _ _ _)) fun _ => told _ _ _

theorem dropEntry_steady (ix : Nat) (st : Station) (c : ChannelIx) : Steady s (s.dropEntry ix st c) := by
  unfold State.dropEntry
  dsimp only
  split
  · exact setStation_steady s _ _
  · exact (setStation_steady s _ _).trans (leaveGroup_steady _ _ _ _)

theorem unsubscribe_steady (r : RadioIx) (ix : Nat) (st : Station) (b : Byte) : Steady s (s.unsubscribe r ix st b) := by
  have here : Steady s (s.unsubscribeHere ix st b) := by
    unfold State.unsubscribeHere
    split
    · exact count_steady s _
    · exact .ite (fun _ => (dropEntry_steady s _ _ _).trans (count_steady _ _)) fun _ => count_steady s _
  exact .ite (fun _ => here.trans (send_steady _ _ _)) fun _ => (count_steady s _).trans (send_steady _ _ _)

theorem ownChannelOpen_steady (p : List Byte) : Steady s (ownChannelOpen p s).2 := by
  have examined (c : ChannelIx) (o l : Bool) (s : State) (ix : Nat) : Steady s (State.examine c o l s ix) := by
    unfold State.examine
    split
    · exact .refl s
    · exact .ite (fun _ => (dropEntry_steady s _ _ _).trans (count_steady _ _)) fun _ =>
        .ite (fun _ => setStation_steady s _ _) fun _ => .refl s
  unfold ownChannelOpen
  split
  · split
    · split
      · exact ((setChannel_frame s _ _).steady.trans (.foldl _ (examined _ _ _) _ _)).trans (count_steady _ _)
      · exact (setChannel_frame s _ _).steady.trans (count_steady _ _)
    · exact .refl s
  · exact .refl s

theorem ownChannelClose_steady (p : List Byte) : Steady s (ownChannelClose p s).2 := by
  have emptied (t : Table Station) : Steady s { s with stations := t } := .same rfl rfl rfl rfl rfl rfl
  unfold ownChannelClose
  split
  · split
    · exact .refl s
    · split
      · exact (((emptied _).trans (setChannel_frame _ _ _).steady).trans (discardChannel_steady _ _)).trans (count_steady _ _)
      · exact .refl s
  · exact .refl s

theorem ingress_steady (p : Packet) : Steady s (s.ingress p) := by
  have taken : Steady s (s.takePacket p) := (setChannel_frame s _ _).steady.trans (count_steady _ _)
  have gap (s : State) : Steady s (s.gap p) := by
    have h : Steady s ((s.count (.channel p.channel .sequenceGaps)).note .replaySequenceGap) :=
      (count_steady s _).trans (note_steady _ _)
    unfold State.gap
    dsimp only
    split
    · exact (h.trans (skipChannel_frame _ _).steady).trans (count_steady _ _)
    · exact h.trans (offer_frame _ _).steady
  refine .ite (fun _ => (count_steady s _).trans (note_steady _ _)) fun _ => ?_
  split
  · exact taken.trans (offer_frame _ _).steady
  · exact .ite (fun _ => taken.trans (offer_frame _ _).steady) fun _ =>
      .ite (fun _ => taken.trans (gap _)) fun _ => count_steady s _

/-- A send enqueues no more copies than the transmit queue has room for (R132). -/
theorem sendCopies_steady {r : RadioIx} {c : ChannelIx} {p : Packet} {dest : List Recipient} (credit : Int)
    (room : (copies c p s.links[r].profile.bias dest).length ≤ s.room r) : Steady s (s.sendCopies r c p dest credit) := by
  have enqueued (t : State) (ht : t.links = s.links) : Steady t (t.enqueue r (copies c p s.links[r].profile.bias dest)) := by
    refine setLink_steady rfl fun hq => ?_
    rw [ht] at hq ⊢
    simp only [State.room, List.length_append] at room ⊢
    omega
  have sent : Steady s (((s.setCredit r credit).enqueue r (copies c p s.links[r].profile.bias dest)).afterSend r c p.cls dest) := by
    have h0 := (setCredit_frame s r credit).steady.trans (enqueued (s.setCredit r credit) rfl)
    unfold State.afterSend
    split
    · exact h0
    · exact (h0.trans (deliver_frame _ _ _ _).steady).trans (.foldl _ (fun s ix => (clearAwaiting_frame s c ix).steady) _ _)
  unfold State.sendCopies
  dsimp only
  refine Steady.trans (Steady.trans (Steady.trans ?_ (addTo_steady _ _ _)) (count_steady _ _)) (addTo_steady _ _ _)
  exact .ite (fun _ => sent) fun _ => sent.trans (count_steady _ _)

theorem decideGroup_steady (r : RadioIx) (c : ChannelIx) (g : Group) (p : Packet) : Steady s (s.decideGroup r c g p) := by
  have dropped (n : Counter) (src : Source) : Steady s (((s.deliver r c .skipToKey).count n).note src) :=
    ((deliver_frame s _ _ _).steady.trans (count_steady _ _)).trans (note_steady _ _)
  refine .ite (fun _ => count_steady s _) fun _ => .ite (fun _ => count_steady s _) fun _ => ?_
  unfold State.decideFor
  dsimp only
  refine .ite (fun _ => dropped _ _) fun room => ?_
  split
  · exact dropped _ _
  · exact sendCopies_steady s _ (not_lt.mp room)

theorem startExpirySweep_steady : Steady s s.startExpirySweep := by
  have h (t : State) (w : Sweep) : Steady t ({ t with expirySweep := w }.count (.pass .sweepsStarted)) :=
    Steady.trans (t := { t with expirySweep := w }) (.same rfl rfl rfl rfl rfl rfl) (count_steady _ _)
  exact .ite (fun _ => (h _ _).trans (count_steady _ _)) fun _ => h _ _

theorem startZoneSweep_steady : Steady s s.startZoneSweep := by
  have h (t : State) (w : Sweep) : Steady t ({ t with zoneSweep := w }.count (.admission .sweepsStarted)) :=
    Steady.trans (t := { t with zoneSweep := w }) (.same rfl rfl rfl rfl rfl rfl) (count_steady _ _)
  exact .ite (fun _ => (h _ _).trans (count_steady _ _)) fun _ => h _ _

theorem ownSeatMapWrite_steady (p : List Byte) : Steady s (ownSeatMapWrite p s).2 := by
  have written (m : Table RadioIx) : Steady s { s with seatMap := m } := .same rfl rfl rfl rfl rfl rfl
  unfold ownSeatMapWrite
  split
  · split
    · split
      · exact .refl s
      · exact ((written _).trans (startZoneSweep_steady _)).trans (count_steady _ _)
    · exact .refl s
  · exact .refl s

theorem ownPassLoad_steady (p : List Byte) : Steady s (ownPassLoad p s).2 := by
  have loaded (slot : Nat) (p : Pass) (m : Table Nat) :
      Steady s ({ s.setPass slot p with passMap := m }.count (.pass .loaded)) :=
    Steady.trans (t := { s.setPass slot p with passMap := m }) (.same rfl rfl rfl rfl rfl rfl) (count_steady _ _)
  unfold ownPassLoad
  split
  · split
    · exact .refl s
    · split
      · unfold State.loadPass
        split
        · exact count_steady s _
        · split
          · exact count_steady s _
          · exact .ite (fun _ => (loaded _ _ _).trans (count_steady _ _)) fun _ => loaded _ _ _
      · exact .refl s
  · exact .refl s

theorem ownPassAmend_steady (p : List Byte) : Steady s (ownPassAmend p s).2 := by
  have amended (slot : Nat) (p : Pass) : Steady s ((s.setPass slot p).count (.pass .amends)) :=
    (setPass_steady s _ _).trans (count_steady _ _)
  unfold ownPassAmend
  split
  · exact .refl s
  · split
    · exact .refl s
    · split
      · unfold State.amendPass
        dsimp only
        split
        · exact (amended _ _).trans (expireDirectly_steady _ _ _)
        · exact (amended _ _).trans (.foldl _ (fun s ix => reload_steady s _ _ ix) _ _)
      · exact .refl s

theorem revokePass_steady (slot : Nat) (p : Pass) : Steady s (s.revokePass slot p).2 := by
  have revoked : Steady s ((if p.inForce then s.endPass slot p .revoked else s.setPass slot { p with state := .revoked }).count
      (.pass .revocations)) :=
    (Steady.ite (fun _ => endPass_steady s _ _ _) fun _ => setPass_steady s _ _).trans (count_steady _ _)
  exact .ite (fun _ => revoked.trans (note_steady _ _)) fun _ => revoked

theorem ownPassRevoke_steady (p : List Byte) : Steady s (ownPassRevoke p s).2 := by
  unfold ownPassRevoke
  split
  · exact .refl s
  · split
    · exact .refl s
    · exact revokePass_steady s _ _

theorem ownPassRemove_steady (p : List Byte) : Steady s (ownPassRemove p s).2 := by
  unfold ownPassRemove
  split
  · exact .refl s
  · split
    · exact .refl s
    · unfold State.removePass
      dsimp only
      refine Steady.trans ?_ (count_steady _ _)
      exact (unbindAll_steady s _ _).trans (.same rfl rfl rfl rfl rfl rfl)

theorem ownPassUnlock_steady (p : List Byte) : Steady s (ownPassUnlock p s).2 := by
  unfold ownPassUnlock
  split
  · exact .refl s
  · split
    · exact .refl s
    · split
      · exact (setPass_steady s _ _).trans (count_steady _ _)
      · exact .refl s

theorem ownRadioProfileSet_calm (p : List Byte) : Calm s (ownRadioProfileSet p s).2 := by
  have set (r : RadioIx) (f : Profile) (v : Vector Int 64) : Calm s { s.setLink r { s.links[r] with profile := f } with credit := v } :=
    Calm.trans (t := s.setLink r { s.links[r] with profile := f }) (setLink_calm (by simp)) (Steady.toCalm (.same rfl rfl rfl rfl rfl rfl))
  unfold ownRadioProfileSet
  split
  · split
    · unfold State.setProfile
      dsimp only
      split
      · exact .refl s
      · exact set _ _ _
    · exact .refl s
  · exact .refl s

theorem ownLinkRestart_steady (p : List Byte) : Steady s (ownLinkRestart p s).2 := by
  unfold ownLinkRestart
  split
  · split
    · exact .refl s
    · exact restartLink_steady s _
  · exact .refl s

theorem ownLinkFaultArm_steady (p : List Byte) : Steady s (ownLinkFaultArm p s).2 := by
  unfold ownLinkFaultArm
  split
  · split
    · split
      · exact setLink_keeps ⟨rfl, rfl⟩
      · exact .refl s
    · exact .refl s
  · exact .refl s

theorem dropFromRadios_steady (ix : Nat) (st : Station) : Steady s (s.dropFromRadios ix st) := by
  unfold State.dropFromRadios
  split
  · exact send_steady s _ _
  · exact .ite (fun _ => send_steady s _ _) fun _ => (send_steady s _ _).trans (send_steady _ _ _)
  · exact .refl s

theorem ownStationEject_steady (p : List Byte) : Steady s (ownStationEject p s).2 := by
  unfold ownStationEject
  split
  · split
    · unfold State.eject
      split
      · split
        · exact .refl s
        · split
          · exact .refl s
          · exact ((dropFromRadios_steady s _ _).trans (free_steady _ _ _)).trans (count_steady _ _)
      · exact .refl s
    · exact .refl s
  · exact .refl s

theorem ownPhaseSet_steady (p : List Byte) : Steady s (ownPhaseSet p s).2 := by
  have set (p : Phase) : Steady s { s with phase := p } := .same rfl rfl rfl rfl rfl rfl
  unfold ownPhaseSet
  split
  · split
    · exact .refl s
    · unfold State.setPhase
      split
      · exact count_steady s _
      · split
        · exact .refl s
        · exact ((set _).trans (startExpirySweep_steady _)).trans (count_steady _ _)
  · exact .refl s

theorem ownSectorSet_calm (p : List Byte) : Calm s (ownSectorSet p s).2 := by
  have set (v : Settings) : Calm s { s with settings := v } := Steady.toCalm (.same rfl rfl rfl rfl rfl rfl)
  have clamped (n : Nat) (s : State) (r : RadioIx) : Calm s (State.clampRadio n s r) :=
    (setLink_calm (by simp)).trans (setCredit_frame _ _ _).steady.toCalm
  unfold ownSectorSet
  split
  · split
    · exact .refl s
    · exact ((set _).trans (.foldl _ (clamped _) _ _)).trans (count_steady _ _).toCalm
  · exact .refl s

theorem ownMatchClear_steady (p : List Byte) : Steady s (ownMatchClear p s).2 := by
  have cleared : Steady s s.cleared := .same rfl rfl rfl rfl rfl rfl
  unfold ownMatchClear
  split
  · exact cleared.trans (count_steady _ _)
  · exact .refl s

theorem ownCountersClear_steady (p : List Byte) : Steady s (ownCountersClear p s).2 := by
  unfold ownCountersClear
  split
  · exact .refl s
  · exact zero_steady s _

end

end Sys2Proof.Machine
end

section
/-! PROOFS. What every command but power-on reset leaves in order, its line evaluation included: the wires, the counters, the bounded
queues, the rights, the nests and the lines. It settles O1, O2, O13, O14 and O17. -/

namespace Sys2Proof.Machine

/- The whole text is elaborated in one process: its proofs in turn, so that their threads' stacks stay within its memory. -/
set_option Elab.async false

/-! ### What an event leaves in order -/

/-- What the effect of an event leaves in order where it may write a nest or a rights set. -/
structure Orderly (s t : State) : Prop extends Lasting s t where
  armed : ∀ l : LaneIx, t.lanes[l].armed = s.lanes[l].armed
  lineUp : ∀ l : LaneIx, t.notices[l].lineUp = s.notices[l].lineUp
  nest : s.NestLaw → t.NestLaw
  config : s.ConfigLaw → t.ConfigLaw

/-- What is in order and writes no rights set. -/
def Fair (s t : State) : Prop := Orderly s t ∧ ∀ l : LaneIx, t.lanes[l].rights = s.lanes[l].rights

/-- What is in order and writes no rights set and no radio profile. -/
def Upright (s t : State) : Prop := Fair s t ∧ ∀ r : RadioIx, t.links[r].profile = s.links[r].profile

/-- The state after an event whose effect stands in the relation `R` to the state before. -/
def Settles (R : State → State → Prop) (s t : State) : Prop := ∃ u, R s u ∧ t = u.settle s.notices

section
variable {s t u : State}

theorem Orderly.trans (h : Orderly s t) (k : Orderly t u) : Orderly s u :=
  ⟨h.toLasting.trans k.toLasting, fun l => (k.armed l).trans (h.armed l), fun l => (k.lineUp l).trans (h.lineUp l),
    fun x => k.nest (h.nest x), fun x => k.config (h.config x)⟩

theorem Fair.trans (h : Fair s t) (k : Fair t u) : Fair s u :=
  ⟨h.1.trans k.1, fun l => (k.2 l).trans (h.2 l)⟩

theorem Upright.trans (h : Upright s t) (k : Upright t u) : Upright s u :=
  ⟨h.1.trans k.1, fun r => (k.2 r).trans (h.2 r)⟩

theorem Calm.fair (h : Calm s t) : Fair s t := by
  have same (l : LaneIx) : t.notices[l].lineUp = s.notices[l].lineUp ∧ t.notices[l].mask = s.notices[l].mask ∧
      t.notices[l].saved = s.notices[l].saved := by
    rw [(h.notices l).1]
    exact ⟨rfl, rfl, rfl⟩
  refine ⟨⟨h.toLasting, h.armed, fun l => (same l).1, fun hn l => ?_, fun hc => ?_⟩, h.rights⟩
  · obtain ⟨-, hm, hs⟩ := same l
    simpa only [Notice.NestLaw, hm, hs] using hn l
  · simpa only [State.ConfigLaw, h.rights] using hc

theorem Steady.upright (h : Steady s t) : Upright s t := ⟨h.fair, h.profiles⟩

theorem Steady.orderly (h : Steady s t) : Orderly s t := h.fair.1

theorem event_settles {R : State → State → Prop} (hrefl : R s s) {effect : State → State} (h : R s (effect s))
    (ht : event s effect = .next t) : Settles R s t := by
  simp only [event, Host.Outcome.next.injEq] at ht
  subst ht
  split
  · exact ⟨s, hrefl, (settle_same rfl).symm⟩
  · exact ⟨effect s, h, rfl⟩

theorem event_upright {effect : State → State} (h : Steady s (effect s)) (ht : event s effect = .next t) : Settles Upright s t :=
  event_settles (Steady.refl s).upright h.upright ht

theorem serve_upright {owner : List Byte → State → Reply × State} (h : ∀ p t, Steady t (owner p t).2) {lane : LaneIx}
    {k : RequestKind} (ht : serve lane k owner s = .next t) : Settles Upright s t :=
  event_upright (service_keeps id Steady.trans h lane k s) ht

/-- A request whose owner may write a radio profile. -/
theorem serve_fair {owner : List Byte → State → Reply × State} (h : ∀ p t, Calm t (owner p t).2) {lane : LaneIx}
    {k : RequestKind} (ht : serve lane k owner s = .next t) : Settles Fair s t :=
  event_settles (Steady.refl s).fair (service_keeps (fun h => h.fair) Fair.trans (fun p t => (h p t).fair) lane k s) ht

/-- A request that reads changes nothing of its owner's state. -/
theorem serve_upright_read {owner : List Byte → State → Reply × State} (h : ∀ p t, (owner p t).2 = t) {lane : LaneIx}
    {k : RequestKind} (ht : serve lane k owner s = .next t) : Settles Upright s t :=
  serve_upright (fun p t => by rw [h]; exact .refl t) ht

/-! ### The commands of the seat links and the timers -/

/-- A link's record is replaced, its queue and profile kept, and the event counted. -/
theorem setLink_count_steady {r : RadioIx} {l : SeatLink} (hk : s.links[r].Keeps l) (c : Counter) :
    Steady s ((s.setLink r l).count c) :=
  (setLink_keeps hk).trans (count_steady _ _)

theorem carrierAppear_upright (r : RadioIx) (ht : exec (.carrierAppear r) s = .next t) : Settles Upright s t := by
  dsimp only [exec, execCarrierAppear] at ht
  refine event_upright ?_ ht
  refine .ite (fun _ => ?_) fun _ => .refl s
  have set : Steady s ((s.setLink r { s.links[r] with
      state := .detected, carrier := true, sample := .none, filter := 0, rxSequence := 0, txSequence := 0, keepaliveSeen := false,
      alertSeen := false, awaitingFirstUp := true }).count (.link r .carrierAppears)) :=
    setLink_count_steady ⟨by rfl, by rfl⟩ _
  exact .ite (fun _ => set.trans (note_steady _ _)) fun _ => set

theorem carrierLoss_upright (r : RadioIx) (ht : exec (.carrierLoss r) s = .next t) : Settles Upright s t := by
  dsimp only [exec, execCarrierLoss] at ht
  refine event_upright ?_ ht
  refine .ite (fun _ => .refl s) fun _ => ?_
  have set : Steady s ((s.setLink r { s.links[r] with
      state := .absent, carrier := false, sample := .none, filter := 0, keepaliveSeen := false,
      alertSeen := false, awaitingFirstUp := false }).count (.link r .carrierLosses)) :=
    setLink_count_steady ⟨by rfl, by rfl⟩ _
  exact .ite (fun _ => set.trans (exitUp_steady _ _)) fun _ => set

theorem sampleExpiry_upright (r : RadioIx) (ht : exec (.sampleExpiry r) s = .next t) : Settles Upright s t := by
  dsimp only [exec, execSampleExpiry] at ht
  refine event_upright ?_ ht
  refine .ite (fun _ => .refl s) fun _ => ?_
  have taken : Steady s { s with samplesDue := s.samplesDue.set r (s.samplesDue[r] - 1) } := .same rfl rfl rfl rfl rfl rfl
  exact .ite (fun _ => taken) fun _ => taken.trans (applyFilter_steady _ _ (by exact ⟨rfl, rfl⟩))

theorem budgetPeriodExpiry_upright (ht : exec .budgetPeriodExpiry s = .next t) : Settles Upright s t := by
  dsimp only [exec, execBudgetPeriodExpiry] at ht
  refine event_upright ?_ ht
  exact .ite (fun _ => .same rfl rfl rfl rfl rfl rfl) fun _ => .refl s

theorem refill_upright (r : RadioIx) (ht : exec (.refill r) s = .next t) : Settles Upright s t := by
  dsimp only [exec, execRefill] at ht
  refine event_upright ?_ ht
  refine .ite (fun _ => .refl s) fun _ => ?_
  refine Steady.trans ?_ (addTo_steady _ _ _)
  exact .same rfl rfl rfl rfl rfl rfl

theorem sectorTimeTick_upright (ht : exec .sectorTimeTick s = .next t) : Settles Upright s t := by
  dsimp only [exec, execSectorTimeTick] at ht
  refine event_upright ?_ ht
  exact .ite (fun _ => .same rfl rfl rfl rfl rfl rfl) fun _ => .same rfl rfl rfl rfl rfl rfl

theorem keepalive_upright (r : RadioIx) (q f : Byte) (ht : exec (.keepalive r q f) s = .next t) : Settles Upright s t := by
  dsimp only [exec, execKeepalive] at ht
  refine event_upright ?_ ht
  refine .ite (fun _ => .refl s) fun _ => ?_
  refine Steady.trans ((checkSequence_steady s r q).trans (count_steady _ (.link r .messagesReceived))) ?_
  generalize (s.checkSequence r q).count (.link r .messagesReceived) = u
  have set : Steady u ((u.setLink r { u.links[r] with keepaliveSeen := true, alertSeen := f.getLsbD 0 }).count
      (.link r .keepalivesReceived)) := setLink_count_steady ⟨by rfl, by rfl⟩ _
  exact .ite (fun _ => (set.trans (note_steady _ _)).trans (count_steady _ _)) fun _ => set

theorem corruptControlMessage_upright (r : RadioIx) (bytes : List Byte) (ht : exec (.corruptControlMessage r bytes) s = .next t) :
    Settles Upright s t := by
  dsimp only [exec, execCorruptControlMessage] at ht
  refine event_upright ?_ ht
  refine .ite (fun _ => .refl s) fun _ => ?_
  have error : Steady s ((s.count (.link r .crcErrors)).note .crcError) := (count_steady s _).trans (note_steady _ _)
  exact .ite (fun _ => error.trans (strictForceAll_steady _ _)) fun _ => error

theorem malformedControlMessage_upright (r : RadioIx) (bytes : List Byte)
    (ht : exec (.malformedControlMessage r bytes) s = .next t) : Settles Upright s t := by
  dsimp only [exec, execMalformedControlMessage] at ht
  refine event_upright ?_ ht
  exact .ite (fun _ => .refl s) fun _ => (checkSequence_steady s r _).trans (count_steady _ _)

theorem transmitComplete_upright (r : RadioIx) (ht : exec (.transmitComplete r) s = .next t) : Settles Upright s t := by
  dsimp only [exec, execTransmitComplete] at ht
  refine event_upright ?_ ht
  split
  · exact .refl s
  next hq =>
    refine Steady.trans (setLink_steady (by rfl) fun h => ?_) (emit_steady _ _)
    rw [hq, List.length_cons] at h
    exact (Nat.lt_of_succ_le h).le

/-! ### The commands of the stations -/

theorem handoffDeadlineExpiry_upright (k : StationIx) (ht : exec (.handoffDeadlineExpiry k) s = .next t) :
    Settles Upright s t := by
  dsimp only [exec, execHandoffDeadlineExpiry] at ht
  refine event_upright ?_ ht
  split
  · exact .refl s
  · split
    · exact .ite (fun _ => .ite (fun _ => endReturn_steady s _ _ _ _ _) fun _ => force_steady s _ _ _ _ _ _) fun _ => .refl s
    · exact .refl s

theorem guardDeadlineExpiry_upright (k : StationIx) (ht : exec (.guardDeadlineExpiry k) s = .next t) : Settles Upright s t := by
  dsimp only [exec, execGuardDeadlineExpiry] at ht
  refine event_upright ?_ ht
  split
  · exact .refl s
  · split
    · exact .refl s
    · exact .ite (fun _ => setStation_steady s _ _) fun _ => .refl s

theorem orphanDeadlineExpiry_upright (k : StationIx) (ht : exec (.orphanDeadlineExpiry k) s = .next t) : Settles Upright s t := by
  dsimp only [exec, execOrphanDeadlineExpiry] at ht
  refine event_upright ?_ ht
  split
  · exact .refl s
  · split
    · exact .ite (fun _ => ((free_steady s _ _).trans (count_steady _ _)).trans (note_steady _ _)) fun _ => .refl s
    · exact .refl s

theorem released_upright (r : RadioIx) (q : Byte) (i : Half) (a : Address) (n : Half)
    (ht : exec (.released r q i a n) s = .next t) : Settles Upright s t := by
  dsimp only [exec, execReleased] at ht
  refine event_upright (receive_steady s r q fun u => ?_) ht
  have stray : Steady u u.stray := (count_steady u _).trans (note_steady _ _)
  refine .ite (fun _ => ?_) fun _ => stray
  split
  · exact stray
  · exact released_steady u _ _ _ _ _

theorem downlinkFanFrame_upright (f : FanFrame) (ht : exec (.downlinkFanFrame f) s = .next t) : Settles Upright s t := by
  dsimp only [exec, execDownlinkFanFrame] at ht
  refine event_upright ?_ ht
  split
  · exact count_steady s _
  · split
    · refine .ite (fun h => Steady.trans (setLink_steady (by rfl) fun _ => ?_) (count_steady _ _)) fun _ => count_steady s _
      rw [List.length_append, List.length_singleton]
      exact h
    · exact hold_steady s _ _ _ _ _ _ _ _
    · exact count_steady s _

theorem uplinkFanFrame_upright (r : RadioIx) (f : FanFrame) (ht : exec (.uplinkFanFrame r f) s = .next t) :
    Settles Upright s t := by
  dsimp only [exec, execUplinkFanFrame] at ht
  refine event_upright ?_ ht
  split
  · exact count_steady s _
  · exact .ite (fun _ => emit_steady s _) fun _ => count_steady s _

/-! ### Replay and sweeps -/

theorem replayPacket_upright (c : Bool) (body : List Byte) (ht : exec (.replayPacket c body) s = .next t) :
    Settles Upright s t := by
  dsimp only [exec, execReplayPacket] at ht
  refine event_upright ?_ ht
  refine .ite (fun _ => count_steady s _) fun _ => ?_
  split
  · exact count_steady s _
  · exact ingress_steady s _

theorem groupDecision_upright (r : RadioIx) (c : ChannelIx) (k : Nat) (ht : exec (.groupDecision r c k) s = .next t) :
    Settles Upright s t := by
  dsimp only [exec, execGroupDecision] at ht
  refine event_upright ?_ ht
  split
  · exact .refl s
  next p rest _ =>
    have taken : Steady s { s with offers := rest } := .same rfl rfl rfl rfl rfl rfl
    split
    · exact taken
    · exact taken.trans (decideGroup_steady _ _ _ _ _)

theorem expirySweepVisit_upright (ht : exec .expirySweepVisit s = .next t) : Settles Upright s t := by
  dsimp only [exec, execExpirySweepVisit] at ht
  refine event_upright ?_ ht
  refine .ite (fun _ => ?_) fun _ => .refl s
  have visited : Steady s (s.expiryVisit s.expirySweep.cursor) := by
    unfold State.expiryVisit
    split
    · exact .refl s
    · exact .ite (fun _ => (endPass_steady s _ _ _).trans (count_steady _ _)) fun _ => .refl s
  refine visited.trans ?_
  refine .ite (fun _ => .same rfl rfl rfl rfl rfl rfl) fun _ => ?_
  refine Steady.trans (Steady.trans ?_ (count_steady _ _)) (note_steady _ _)
  exact .same rfl rfl rfl rfl rfl rfl

theorem zoneSweepVisit_upright (ht : exec .zoneSweepVisit s = .next t) : Settles Upright s t := by
  dsimp only [exec, execZoneSweepVisit] at ht
  refine event_upright ?_ ht
  refine .ite (fun _ => ?_) fun _ => .refl s
  have visited : Steady s (s.zoneVisit s.zoneSweep.cursor) := by
    unfold State.zoneVisit
    split
    · exact .refl s
    · split
      · exact .refl s
      · split
        · exact .refl s
        · have set (x : Station) (ix : Nat) : Steady s ((s.setStation ix x).repause ix) :=
            (setStation_steady s _ _).trans (repause_frame _ _).steady
          exact .ite (fun _ => set _ _) fun _ => (set _ _).trans (count_steady _ _)
  refine visited.trans ?_
  refine .ite (fun _ => .same rfl rfl rfl rfl rfl rfl) fun _ => ?_
  refine Steady.trans (Steady.trans ?_ (count_steady _ _)) (note_steady _ _)
  exact .same rfl rfl rfl rfl rfl rfl

/-! ### The lanes -/

theorem spiWriteRequest_upright (bytes : List Byte) (ht : exec (.spiWriteRequest bytes) s = .next t) : Settles Upright s t := by
  dsimp only [exec, execSpiWriteRequest] at ht
  refine event_upright ?_ ht
  split
  · exact count_steady s _
  · exact arrive_steady s _ _

theorem spiReadResponse_upright (n : Nat) (ht : exec (.spiReadResponse n) s = .next t) : Settles Upright s t := by
  dsimp only [exec, execSpiReadResponse] at ht
  refine event_upright ?_ ht
  split
  · exact emit_steady s _
  next x rest hr =>
    have taken : Steady s { s with responses := rest } :=
      ⟨⟨⟨⟨[], by simp⟩, .refl _, fun _ h => h, fun h => by rw [hr, List.length_cons] at h; exact (Nat.lt_of_succ_le h).le,
        fun _ h => h⟩, fun _ => .refl _, fun _ => rfl, fun _ => rfl⟩, fun _ => rfl⟩
    exact (taken.trans (emit_steady _ _)).trans (count_steady _ _)

theorem trunkControlFrame_upright (c : Bool) (src : Address) (body : List Byte)
    (ht : exec (.trunkControlFrame c src body) s = .next t) : Settles Upright s t := by
  dsimp only [exec, execTrunkControlFrame] at ht
  refine event_upright ?_ ht
  refine .ite (fun _ => count_steady s _) fun _ => ?_
  split
  · exact count_steady s _
  · split
    · exact count_steady s _
    · exact count_steady s _
    · refine .ite (fun _ => count_steady s _) fun _ => ?_
      split
      · exact count_steady s _
      · refine Steady.trans ?_ (arrive_steady _ _ _)
        exact setLane_steady rfl rfl fun h => h

theorem unknownRequestKind_upright (lane : LaneIx) (ht : exec (.unknownRequestKind lane) s = .next t) : Settles Upright s t := by
  dsimp only [exec, execUnknownRequestKind] at ht
  refine event_upright ?_ ht
  split
  · exact .refl s
  next hh =>
    exact .ite (fun _ => .refl s) fun _ => ((head_steady hh).trans (count_steady _ _)).trans (respond_steady _ _ _)

end

end Sys2Proof.Machine
end

section
/-! PROOFS. Messages and requests leave the device in order, and what follows for a step: O1, O2, O13, O14 and O17. -/

namespace Sys2Proof.Machine

/- The whole text is elaborated in one process: its proofs in turn, so that their threads' stacks stay within its memory. -/
set_option Elab.async false

section
variable {s t : State}

/-! ### Messages that name a station -/

theorem join_upright (r : RadioIx) (q : Byte) (a : Address) (b : Byte) (ht : exec (.join r q a b) s = .next t) :
    Settles Upright s t := by
  dsimp only [exec, execJoin] at ht
  exact event_upright (receive_steady s r q fun u => join_steady u _ _ _) ht

theorem roam_upright (r : RadioIx) (q : Byte) (a : Address) (b f : Byte) (ht : exec (.roam r q a b f) s = .next t) :
    Settles Upright s t := by
  dsimp only [exec, execRoam] at ht
  exact event_upright (receive_steady s r q fun u => roam_steady u _ _ _ _) ht

/-- A message that is screened is in order where its owner is. -/
theorem screened_upright {r : RadioIx} {q : Byte} {i : Half} {owner : Nat → Station → State → State}
    (h : ∀ ix st u, Steady u (owner ix st u)) (ht : event s (fun s => s.receive r q fun s => s.screen r i owner) = .next t) :
    Settles Upright s t :=
  event_upright (receive_steady s r q fun u => screen_steady u r i fun ix st u => h ix st u) ht

theorem leave_upright (r : RadioIx) (q : Byte) (i : Half) (ht : exec (.leave r q i) s = .next t) : Settles Upright s t := by
  dsimp only [exec, execLeave] at ht
  exact screened_upright (fun ix st u => leave_steady u r ix st) ht

theorem rate_upright (r : RadioIx) (q : Byte) (i : Half) (b : Byte) (ht : exec (.rate r q i b) s = .next t) :
    Settles Upright s t := by
  dsimp only [exec, execRate] at ht
  exact screened_upright (fun ix st u => setStation_steady u ix _) ht

theorem claim_upright (r : RadioIx) (q : Byte) (i : Half) (p : Word) (k : Half) (ht : exec (.claim r q i p k) s = .next t) :
    Settles Upright s t := by
  dsimp only [exec, execClaim] at ht
  exact screened_upright (fun ix st u => claim_steady u r ix st p k) ht

theorem subscribe_upright (r : RadioIx) (q : Byte) (i : Half) (b : Byte) (ht : exec (.subscribe r q i b) s = .next t) :
    Settles Upright s t := by
  dsimp only [exec, execSubscribe] at ht
  exact screened_upright (fun ix st u => subscribe_steady u r ix st b) ht

theorem unsubscribe_upright (r : RadioIx) (q : Byte) (i : Half) (b : Byte) (ht : exec (.unsubscribe r q i b) s = .next t) :
    Settles Upright s t := by
  dsimp only [exec, execUnsubscribe] at ht
  exact screened_upright (fun ix st u => unsubscribe_steady u r ix st b) ht

/-! ### Notice requests -/

/-- A master's notice state replaced by one with the same line and a nest that still holds. -/
theorem setNotice_upright (s : State) (lane : LaneIx) {n : Notice} (hl : n.lineUp = s.notices[lane].lineUp)
    (hn : s.notices[lane].NestLaw → n.NestLaw) : Upright s (s.setNotice lane n) := by
  have other (l : LaneIx) (h : l ≠ lane) : (s.notices.set lane n)[l] = s.notices[l] :=
    Vector.getElem_set_ne lane.isLt l.isLt fun e => h (Fin.ext e.symm)
  have this : (s.notices.set lane n)[lane] = n := Vector.getElem_set_self lane.isLt
  refine ⟨⟨⟨⟨⟨[], by simp [State.setNotice]⟩, .refl _, fun _ h => h, fun h => h, fun _ h => h⟩, fun _ => rfl, fun l => ?_,
    fun h l => ?_, fun h => h⟩, fun _ => rfl⟩, fun _ => rfl⟩
  · show (s.notices.set lane n)[l].lineUp = _
    by_cases h : l = lane
    · rw [h, this, hl]
    · rw [other l h]
  · show (s.notices.set lane n)[l].NestLaw
    by_cases h' : l = lane
    · rw [h', this]; exact hn (h lane)
    · rw [other l h']; exact h l

theorem serve_upright_own {owner : List Byte → State → Reply × State} (h : ∀ p t, Upright t (owner p t).2) {lane : LaneIx}
    {k : RequestKind} (ht : serve lane k owner s = .next t) : Settles Upright s t :=
  event_settles (Steady.refl s).upright (service_keeps Steady.upright Upright.trans h lane k s) ht

theorem ownNoticeLevelsSet_upright (lane : LaneIx) (p : List Byte) (s : State) : Upright s (ownNoticeLevelsSet lane p s).2 := by
  unfold ownNoticeLevelsSet
  split
  · split
    · split
      · exact (Steady.refl s).upright
      · exact setNotice_upright s lane rfl fun h => h
    · exact (Steady.refl s).upright
  · exact (Steady.refl s).upright

/-- A mask set outside a nest makes a nest of no levels. -/
theorem Notice.nestLaw_of_saved_nil {n : Notice} (h : n.saved = []) : n.NestLaw := by
  simp [Notice.NestLaw, h]

theorem ownNoticeMaskSet_upright (lane : LaneIx) (p : List Byte) (s : State) : Upright s (ownNoticeMaskSet lane p s).2 := by
  unfold ownNoticeMaskSet
  split
  · split
    · exact (Steady.refl s).upright
    · dsimp only
      split
      next hs => exact setNotice_upright s lane rfl fun _ => Notice.nestLaw_of_saved_nil hs
      next => exact (Steady.refl s).upright
  · exact (Steady.refl s).upright

/-- The group that NOTICE_ACCEPT chooses is eligible. -/
theorem Notice.chosen_eligible {n : Notice} {g : NoticeGroup} (h : n.chosen = some g) : n.eligible g = true := by
  unfold Notice.chosen at h
  suffices ∀ (gs : List NoticeGroup) (best : Option NoticeGroup), (∀ b ∈ best, n.eligible b = true) →
      ∀ b ∈ gs.foldl (fun best g =>
        if n.eligible g then
          match best with
          | none => some g
          | some b => if n.levels[b] < n.levels[g] then some g else some b
        else best) best, n.eligible b = true from this _ none (by simp) g h
  intro gs
  induction gs with
  | nil => exact fun _ h => h
  | cons a gs ih =>
    intro best hb
    rw [List.foldl_cons]
    refine ih _ fun b hb' => ?_
    split at hb'
    next ha =>
      split at hb'
      next => cases hb'; exact ha
      next c =>
        split at hb' <;> cases hb'
        · exact ha
        · exact hb _ rfl
    next => exact hb b hb'

/-- Levels that strictly fall number at most 8, so a nest that takes one more level still fits (R172). -/
theorem Notice.nestLaw_accepted {n : Notice} {g : NoticeGroup} (h : n.eligible g = true) (hn : n.NestLaw) : (n.accepted g).NestLaw := by
  obtain ⟨hfall, -⟩ := hn
  have hlt : n.mask < n.levels[g] := by
    simp only [Notice.eligible, Bool.and_eq_true, decide_eq_true_eq] at h
    exact h.2
  have hfall' : (n.levels[g] :: n.mask :: n.saved).Pairwise fun a b => b < a := by
    refine List.pairwise_cons.mpr ⟨fun x hx => ?_, hfall⟩
    rcases List.mem_cons.mp hx with rfl | hx
    · exact hlt
    · exact lt_trans (List.rel_of_pairwise_cons hfall hx) hlt
  have nodup : (n.levels[g] :: n.mask :: n.saved).Nodup := hfall'.imp fun h => (ne_of_lt h).symm
  have := nodup.length_le_card
  simp only [List.length_cons, Fintype.card_fin] at this
  exact ⟨hfall', by simp only [Notice.accepted, List.length_cons]; omega⟩

theorem ownNoticeAccept_upright (lane : LaneIx) (p : List Byte) (s : State) : Upright s (ownNoticeAccept lane p s).2 := by
  unfold ownNoticeAccept
  split
  · dsimp only
    split
    · exact (Steady.refl s).upright
    next hc => exact setNotice_upright s lane rfl (Notice.nestLaw_accepted (Notice.chosen_eligible hc))
  · exact (Steady.refl s).upright

theorem ownNoticeReturn_upright (lane : LaneIx) (p : List Byte) (s : State) : Upright s (ownNoticeReturn lane p s).2 := by
  unfold ownNoticeReturn
  split
  · dsimp only
    split
    · exact (Steady.refl s).upright
    next m rest hs =>
      refine setNotice_upright s lane rfl fun hn => ?_
      simp only [Notice.NestLaw, hs, List.length_cons] at hn ⊢
      exact ⟨(List.pairwise_cons.mp hn.1).2, by omega⟩
  · exact (Steady.refl s).upright

theorem ownNoticeClear_upright (lane : LaneIx) (p : List Byte) (s : State) : Upright s (ownNoticeClear lane p s).2 := by
  unfold ownNoticeClear
  split
  · exact (Steady.refl s).upright
  · exact setNotice_upright s lane rfl fun h => h

/-! ### RIGHTS_SET -/

/-- Lane 0 keeps CONFIG under whatever set it is given (R159). -/
theorem appliedRights_config (c : Rights) : (appliedRights 0 c).getLsbD 5 = true := by
  rw [appliedRights, if_pos rfl, BitVec.getLsbD_or]
  simp

theorem ownRightsSet_orderly (p : List Byte) (s : State) : Orderly s (ownRightsSet p s).2 := by
  unfold ownRightsSet
  split
  · split
    · exact (Steady.refl s).orderly
    next target _ =>
      split
      · refine Orderly.trans ?_ (count_steady _ _).orderly
        refine ⟨⟨⟨[], by simp⟩, .refl _, fun l h => ?_, fun h => h, fun _ h => h⟩, fun l => ?_, fun _ => rfl, fun h => h,
          fun h => ?_⟩
        · rw [State.setLane_lanes, Fin.getElem_fin, Vector.getElem_set]
          split
          next he => simpa [he] using h
          next => exact h
        · rw [State.setLane_lanes, Fin.getElem_fin, Vector.getElem_set]
          split
          next he => simp [he]
          next => rfl
        · rw [State.ConfigLaw, State.setLane_lanes, Fin.getElem_fin, Vector.getElem_set]
          split
          next he =>
            obtain rfl : target = 0 := Fin.ext he
            exact appliedRights_config _
          next => exact h
      · exact (Steady.refl s).orderly
  · exact (Steady.refl s).orderly

theorem rightsSet_orderly (lane : LaneIx) (ht : exec (.rightsSet lane) s = .next t) : Settles Orderly s t := by
  dsimp only [exec, execRightsSet, serve] at ht
  exact event_settles (Steady.refl s).orderly (service_keeps Steady.orderly Orderly.trans ownRightsSet_orderly lane _ s) ht

/-! ### Every command -/

/-- The requests that may write a radio profile (R41, R138). -/
def writesProfiles : Instr → Bool
  | .radioProfileSet _ | .sectorSet _ => true
  | _ => false

/-- Every command but power-on reset, RIGHTS_SET and those that write a radio profile leaves the device in order, and rights and
profiles as they stand. -/
theorem exec_upright {i : Instr} (hp : ∀ e, i ≠ .powerOnReset e) (hr : ∀ l, i ≠ .rightsSet l) (hw : writesProfiles i = false)
    (ht : exec i s = .next t) : Settles Upright s t := by
  cases i with
  | powerOnReset e => exact absurd rfl (hp e)
  | rightsSet l => exact absurd rfl (hr l)
  | radioProfileSet lane => cases hw
  | sectorSet lane => cases hw
  | carrierAppear r => exact carrierAppear_upright r ht
  | carrierLoss r => exact carrierLoss_upright r ht
  | sampleExpiry r => exact sampleExpiry_upright r ht
  | budgetPeriodExpiry => exact budgetPeriodExpiry_upright ht
  | refill r => exact refill_upright r ht
  | handoffDeadlineExpiry k => exact handoffDeadlineExpiry_upright k ht
  | guardDeadlineExpiry k => exact guardDeadlineExpiry_upright k ht
  | orphanDeadlineExpiry k => exact orphanDeadlineExpiry_upright k ht
  | join r q a b => exact join_upright r q a b ht
  | roam r q a b f => exact roam_upright r q a b f ht
  | leave r q i => exact leave_upright r q i ht
  | rate r q i b => exact rate_upright r q i b ht
  | claim r q i p k => exact claim_upright r q i p k ht
  | subscribe r q i b => exact subscribe_upright r q i b ht
  | unsubscribe r q i b => exact unsubscribe_upright r q i b ht
  | released r q i a n => exact released_upright r q i a n ht
  | keepalive r q f => exact keepalive_upright r q f ht
  | corruptControlMessage r bytes => exact corruptControlMessage_upright r bytes ht
  | malformedControlMessage r bytes => exact malformedControlMessage_upright r bytes ht
  | downlinkFanFrame f => exact downlinkFanFrame_upright f ht
  | uplinkFanFrame r f => exact uplinkFanFrame_upright r f ht
  | transmitComplete r => exact transmitComplete_upright r ht
  | replayPacket c body => exact replayPacket_upright c body ht
  | groupDecision r c k => exact groupDecision_upright r c k ht
  | expirySweepVisit => exact expirySweepVisit_upright ht
  | zoneSweepVisit => exact zoneSweepVisit_upright ht
  | spiWriteRequest bytes => exact spiWriteRequest_upright bytes ht
  | spiReadResponse n => exact spiReadResponse_upright n ht
  | spiOtherCommand c bytes => cases ht; exact ⟨s, (Steady.refl s).upright, (settle_same rfl).symm⟩
  | trunkControlFrame c src body => exact trunkControlFrame_upright c src body ht
  | unknownRequestKind lane => exact unknownRequestKind_upright lane ht
  | seatMapWrite lane => exact serve_upright (fun p t => ownSeatMapWrite_steady t p) ht
  | linkRestart lane => exact serve_upright (fun p t => ownLinkRestart_steady t p) ht
  | linkFaultArm lane => exact serve_upright (fun p t => ownLinkFaultArm_steady t p) ht
  | stationEject lane => exact serve_upright (fun p t => ownStationEject_steady t p) ht
  | phaseSet lane => exact serve_upright (fun p t => ownPhaseSet_steady t p) ht
  | matchClear lane => exact serve_upright (fun p t => ownMatchClear_steady t p) ht
  | countersClear lane => exact serve_upright (fun p t => ownCountersClear_steady t p) ht
  | passLoad lane => exact serve_upright (fun p t => ownPassLoad_steady t p) ht
  | passAmend lane => exact serve_upright (fun p t => ownPassAmend_steady t p) ht
  | passRevoke lane => exact serve_upright (fun p t => ownPassRevoke_steady t p) ht
  | passRemove lane => exact serve_upright (fun p t => ownPassRemove_steady t p) ht
  | passUnlock lane => exact serve_upright (fun p t => ownPassUnlock_steady t p) ht
  | channelOpen lane => exact serve_upright (fun p t => ownChannelOpen_steady t p) ht
  | channelClose lane => exact serve_upright (fun p t => ownChannelClose_steady t p) ht
  | noticeLevelsSet lane => exact serve_upright_own (ownNoticeLevelsSet_upright lane) ht
  | noticeMaskSet lane => exact serve_upright_own (ownNoticeMaskSet_upright lane) ht
  | noticeAccept lane => exact serve_upright_own (ownNoticeAccept_upright lane) ht
  | noticeReturn lane => exact serve_upright_own (ownNoticeReturn_upright lane) ht
  | noticeClear lane => exact serve_upright_own (ownNoticeClear_upright lane) ht
  | stationRead lane => exact serve_upright_read ownStationRead_state ht
  | passRead lane => exact serve_upright_read ownPassRead_state ht
  | radioRead lane => exact serve_upright_read ownRadioRead_state ht
  | groupRead lane => exact serve_upright_read ownGroupRead_state ht
  | seatMapRead lane => exact serve_upright_read ownSeatMapRead_state ht
  | countersRead lane => exact serve_upright_read ownCountersRead_state ht
  | sectorRead lane => exact serve_upright_read ownSectorRead_state ht
  | sectorTimeTick => exact sectorTimeTick_upright ht

/-- Every command but power-on reset and RIGHTS_SET leaves the device in order and the rights as they stand. -/
theorem exec_fair {i : Instr} (hp : ∀ e, i ≠ .powerOnReset e) (hr : ∀ l, i ≠ .rightsSet l) (ht : exec i s = .next t) :
    Settles Fair s t := by
  by_cases hw : writesProfiles i = true
  · cases i with
    | radioProfileSet lane => exact serve_fair (fun p t => ownRadioProfileSet_calm t p) ht
    | sectorSet lane => exact serve_fair (fun p t => ownSectorSet_calm t p) ht
    | _ => cases hw
  · obtain ⟨u, hu, he⟩ := exec_upright hp hr (Bool.not_eq_true _ ▸ hw) ht
    exact ⟨u, hu.1, he⟩

theorem exec_orderly {i : Instr} (hp : ∀ e, i ≠ .powerOnReset e) (ht : exec i s = .next t) : Settles Orderly s t := by
  by_cases hr : ∃ l, i = .rightsSet l
  · obtain ⟨l, rfl⟩ := hr
    exact rightsSet_orderly l ht
  · obtain ⟨u, hu, he⟩ := exec_fair hp (fun l h => hr ⟨l, h⟩) ht
    exact ⟨u, hu.1, he⟩

end

end Sys2Proof.Machine
end

section
/-! PROOFS. The line evaluation (R162, R168), and what a step leaves in order: O1, O2, O13 and O14. -/

namespace Sys2Proof.Machine

/- The whole text is elaborated in one process: its proofs in turn, so that their threads' stacks stay within its memory. -/
set_option Elab.async false

/-! ### The line evaluation -/

/-- A line that is driven changes the armed flag of its own trunk lane alone: set where the line falls, clear where it rises. -/
theorem driveLine_lane (s : State) (lane l : LaneIx) (up : Bool) :
    (s.driveLine lane up).lanes[l] = if l = lane ∧ l ≠ 0 then { s.lanes[l] with armed := !up } else s.lanes[l] := by
  have set (v : Vector Lane 4) (x : Lane) : (v.set lane x)[l] = if l = lane then x else v[l] := by
    rw [Fin.getElem_fin, Vector.getElem_set]
    simp only [eq_comm (a := l), Fin.ext_iff]
    rfl
  unfold State.driveLine
  dsimp only
  by_cases h0 : lane = 0
  · rw [if_pos h0, if_neg]
    rintro ⟨rfl, h⟩
    exact h h0
  · have hl : (l = lane ∧ l ≠ 0) ↔ l = lane := ⟨And.left, fun h => ⟨h, h ▸ h0⟩⟩
    simp only [if_neg h0, hl]
    cases up with
    | false =>
      simp only [Bool.false_eq_true, if_false, Bool.not_false, State.setLane_lanes, set]
      split
      next h => subst h; rfl
      next => rfl
    | true =>
      simp only [if_true, Bool.not_true]
      split
      · simp only [State.setLane_lanes, State.count_lanes, State.emitTrunk_lanes, set]
        split
        next h => subst h; rfl
        next => rfl
      next ha =>
        split
        next h =>
          subst h
          have : s.lanes[l].armed = false := Bool.not_eq_true _ ▸ ha
          rw [← this]
        next => rfl

/-- A master's line is driven at an event where the event changed that master's notice state and the line does not follow it. -/
def Notice.drives (before n : Notice) : Prop := n ≠ before ∧ n.anyEligible ≠ n.lineUp

theorem evaluateLine_lane (before : Vector Notice 4) (s : State) (lane l : LaneIx) :
    (l = lane → l ≠ 0 → before[l].drives s.notices[l] →
      (State.evaluateLine before s lane).lanes[l] = { s.lanes[l] with armed := !s.notices[l].anyEligible }) ∧
    (l ≠ lane ∨ l = 0 ∨ ¬ before[l].drives s.notices[l] → (State.evaluateLine before s lane).lanes[l] = s.lanes[l]) := by
  constructor
  · rintro rfl h0 ⟨hb, hu⟩
    rw [State.evaluateLine, if_neg hb, if_neg hu, driveLine_lane, if_pos ⟨rfl, h0⟩]
  · intro h
    unfold State.evaluateLine
    split
    · rfl
    next hb =>
      split
      · rfl
      next hu =>
        rw [driveLine_lane, if_neg]
        rintro ⟨rfl, h0⟩
        rcases h with h | h | h
        · exact h rfl
        · exact h0 h
        · exact h ⟨hb, hu⟩

/-- The line evaluation of an event changes the armed flag of the trunk lanes whose lines it drives, and nothing else of a lane. -/
theorem settle_lane (before : Vector Notice 4) (s : State) (l : LaneIx) :
    (l ≠ 0 → before[l].drives s.notices[l] →
      (s.settle before).lanes[l] = { s.lanes[l] with armed := !s.notices[l].anyEligible }) ∧
    (l = 0 ∨ ¬ before[l].drives s.notices[l] → (s.settle before).lanes[l] = s.lanes[l]) := by
  unfold State.settle
  suffices ∀ (ls : List LaneIx) (s : State), ls.Nodup →
      (l ∈ ls → l ≠ 0 → before[l].drives s.notices[l] →
        (ls.foldl (State.evaluateLine before) s).lanes[l] = { s.lanes[l] with armed := !s.notices[l].anyEligible }) ∧
      (l ∉ ls ∨ l = 0 ∨ ¬ before[l].drives s.notices[l] →
        (ls.foldl (State.evaluateLine before) s).lanes[l] = s.lanes[l]) from
    ⟨(this _ s (List.nodup_finRange 4)).1 (List.mem_finRange l), fun h => (this _ s (List.nodup_finRange 4)).2 (.inr h)⟩
  intro ls
  induction ls with
  | nil => exact fun s _ => ⟨fun h => absurd h (by simp), fun _ => rfl⟩
  | cons a ls ih =>
    intro s hn
    obtain ⟨ha, hn⟩ := List.nodup_cons.mp hn
    have later := ih (State.evaluateLine before s a) hn
    have here := evaluateLine_lane before s a l
    simp only [List.foldl_cons, List.mem_cons]
    by_cases hl : l = a
    · subst hl
      have last := later.2 (.inl ha)
      exact ⟨fun _ h0 hd => last.trans (here.1 rfl h0 hd), fun h => last.trans (here.2 (.inr (by tauto)))⟩
    · have now := here.2 (.inl hl)
      have same : (State.evaluateLine before s a).notices[l] = s.notices[l] := by
        rw [evaluateLine_notice, if_neg fun h => hl h.1]
      rw [now, same] at later
      exact ⟨fun hm => later.1 (hm.resolve_left hl), fun h => later.2 (by tauto)⟩

theorem settle_laneQueue (before : Vector Notice 4) (s : State) (l : LaneIx) :
    (s.settle before).lanes[l].queue = s.lanes[l].queue ∧ (s.settle before).lanes[l].rights = s.lanes[l].rights ∧
      (s.settle before).lanes[l].master = s.lanes[l].master := by
  by_cases h : l ≠ 0 ∧ before[l].drives s.notices[l]
  · rw [(settle_lane before s l).1 h.1 h.2]
    exact ⟨rfl, rfl, rfl⟩
  · rw [(settle_lane before s l).2 (by tauto)]
    exact ⟨rfl, rfl, rfl⟩

theorem settle_nestLaw {before : Vector Notice 4} {s : State} (h : s.NestLaw) : (s.settle before).NestLaw := by
  intro l
  rw [settle_notice]
  split
  · exact h l
  · exact h l

/-- The line evaluation makes every line follow its master's notice state, where it did so before the event (R162, R168). -/
theorem settle_lineLaw {s u : State} (hs : s.LineLaw) (hl : ∀ l : LaneIx, u.notices[l].lineUp = s.notices[l].lineUp)
    (ha : ∀ l : LaneIx, u.lanes[l].armed = s.lanes[l].armed) : (u.settle s.notices).LineLaw := by
  intro l
  obtain ⟨hline, harmed⟩ := hs l
  rw [settle_notice]
  by_cases hsame : u.notices[l] = s.notices[l]
  · rw [if_pos hsame, (settle_lane s.notices u l).2 (.inr fun h => h.1 hsame), ha, hsame]
    exact ⟨hline, harmed⟩
  · rw [if_neg hsame]
    refine ⟨rfl, fun h0 => ?_⟩
    by_cases hd : u.notices[l].anyEligible = u.notices[l].lineUp
    · rw [(settle_lane s.notices u l).2 (.inr fun h => h.2 hd), ha, harmed h0, ← hl l, hd]
    · rw [(settle_lane s.notices u l).1 h0 ⟨hsame, hd⟩]

/-! ### A step -/

/-- Settles O1: a step by its two cases. -/
theorem stepTakesTheFrontCommand : Obligations.StepTakesTheFrontCommand :=
  ⟨fun i rest s h => by rw [step, h], fun s h => by rw [step, h]⟩

/-- What every command keeps and no queue of commands touches, a step keeps. -/
theorem step_keeps {P : State → Prop} (hq : ∀ s rest, P s → P (s.withQueue rest))
    (h : ∀ i s t, exec i s = .next t → P s → P t) {s t : State} (ht : step s = .next t) (hs : P s) : P t := by
  unfold step at ht
  split at ht
  · cases ht; exact hs
  · exact h _ _ _ ht (hq _ _ hs)

theorem eq_powerOnReset_or (i : Instr) : (∃ e, i = .powerOnReset e) ∨ ∀ e, i ≠ .powerOnReset e := by
  by_cases h : ∃ e, i = .powerOnReset e
  · exact .inl h
  · exact .inr fun e he => h ⟨e, he⟩

/-- Every command answers a next state. -/
theorem exec_answers (i : Instr) (s : State) : ∃ t, exec i s = .next t := by
  cases i with
  | powerOnReset e => cases e <;> exact ⟨_, rfl⟩
  | _ => exact ⟨_, rfl⟩

/-- A command other than power-on reset lasts, and so does power-on reset on the wires. -/
theorem exec_lasting {i : Instr} {s t : State} (hp : ∀ e, i ≠ .powerOnReset e) (ht : exec i s = .next t) : Lasting s t := by
  obtain ⟨u, hu, he⟩ := exec_orderly hp ht
  rw [he]
  exact hu.toLasting.trans (settle_lasting _ _)

/-- Settles O2: no arm of the dispatch stops, no footprint holds the queue of commands, and what an effect and its line evaluation
put on the wires comes after what is there. -/
theorem everyCommandAnswersNext : Obligations.EveryCommandAnswersNext := by
  intro i s
  obtain ⟨t, ht⟩ := exec_answers i s
  refine ⟨t, ht, ?_, ?_⟩
  · refine everyCommandKeepsToItsFootprint i s t ht .pending ?_
    cases i with
    | powerOnReset e => cases e <;> simp [footprint]
    | _ => simp [footprint, exitFields, freeFields, unbindFields, serviceFields, noticeFields]
  · rcases eq_powerOnReset_or i with ⟨e, rfl⟩ | hp
    · cases e <;> (cases ht; exact ⟨[], (List.append_nil _).symm⟩)
    · obtain ⟨w, hw⟩ := (exec_lasting hp ht).wire
      exact ⟨w, hw.symm⟩

/-! ### Nests, lines, rights and the phase -/

theorem Notice.powerOn_nestLaw : Notice.powerOn.NestLaw := Notice.nestLaw_of_saved_nil rfl

theorem powerOn_notices (carrier : BitVec 64) (l : LaneIx) : (State.powerOn carrier).notices[l] = Notice.powerOn := by
  simp [State.powerOn]

theorem powerOn_nestLaw (carrier : BitVec 64) : (State.powerOn carrier).NestLaw := by
  intro l
  rw [powerOn_notices]
  exact Notice.powerOn_nestLaw

theorem powerOn_lineLaw (carrier : BitVec 64) : (State.powerOn carrier).LineLaw := by
  intro l
  rw [powerOn_notices]
  refine ⟨by decide, fun _ => ?_⟩
  show powerOnLanes[l].armed = true
  decide +revert

theorem powerOn_configLaw (carrier : BitVec 64) : (State.powerOn carrier).ConfigLaw := by
  show powerOnLanes[(0 : LaneIx)].rights.getLsbD 5 = true
  decide

/-- Power-on reset holds the device in reset, or leaves it as reset does. -/
theorem powerOnReset_cases {e : ResetEvent} {s t : State} (ht : exec (.powerOnReset e) s = .next t) :
    t = { s with inReset := true } ∨
      ∃ carrier, t = { State.powerOn carrier with wire := s.wire, draws := s.draws, pending := s.pending } := by
  cases e with
  | held => cases ht; exact .inl rfl
  | left carrier => cases ht; exact .inr ⟨carrier, rfl⟩

theorem exec_nestLaw {i : Instr} {s t : State} (ht : exec i s = .next t) (hs : s.NestLaw) : t.NestLaw := by
  rcases eq_powerOnReset_or i with ⟨e, rfl⟩ | hp
  · rcases powerOnReset_cases ht with rfl | ⟨carrier, rfl⟩
    · exact hs
    · exact powerOn_nestLaw carrier
  · obtain ⟨u, hu, he⟩ := exec_orderly hp ht
    rw [he]
    exact settle_nestLaw (hu.nest hs)

theorem exec_lineLaw {i : Instr} {s t : State} (ht : exec i s = .next t) (hs : s.LineLaw) : t.LineLaw := by
  rcases eq_powerOnReset_or i with ⟨e, rfl⟩ | hp
  · rcases powerOnReset_cases ht with rfl | ⟨carrier, rfl⟩
    · exact hs
    · exact powerOn_lineLaw carrier
  · obtain ⟨u, hu, he⟩ := exec_orderly hp ht
    rw [he]
    exact settle_lineLaw hs hu.lineUp hu.armed

/-- Settles O13: no effect raises a line or arms a lane but through the line evaluation, and the line evaluation makes each line
follow; no command but ACCEPT pushes a level, and ACCEPT pushes one below the new mask. -/
theorem noticeLawsKept : Obligations.NoticeLawsKept :=
  ⟨fun _ _ hs ht => step_keeps (P := State.NestLaw) (fun _ _ h => h) (fun _ _ _ => exec_nestLaw) ht hs,
    fun _ _ hs ht => step_keeps (P := State.LineLaw) (fun _ _ h => h) (fun _ _ _ => exec_lineLaw) ht hs⟩

theorem exec_configLaw {i : Instr} {s t : State} (ht : exec i s = .next t) (hs : s.ConfigLaw) : t.ConfigLaw := by
  rcases eq_powerOnReset_or i with ⟨e, rfl⟩ | hp
  · rcases powerOnReset_cases ht with rfl | ⟨carrier, rfl⟩
    · exact hs
    · exact powerOn_configLaw carrier
  · obtain ⟨u, hu, he⟩ := exec_orderly hp ht
    rw [he, State.ConfigLaw, (settle_laneQueue s.notices u 0).2.1]
    exact hu.config hs

/-- The commands that may write the match phase. -/
theorem phase_mem_footprint {i : Instr} (h : Field.phase ∈ footprint i) :
    (∃ l, i = .phaseSet l) ∨ (∃ l, i = .matchClear l) ∨ ∃ c, i = .powerOnReset c := by
  cases i with
  | phaseSet l => exact .inl ⟨l, rfl⟩
  | matchClear l => exact .inr (.inl ⟨l, rfl⟩)
  | powerOnReset c => exact .inr (.inr ⟨c, rfl⟩)
  | _ => simp [footprint, exitFields, freeFields, unbindFields, serviceFields, noticeFields] at h

theorem ownPhaseSet_phase (p : List Byte) (s : State) : s.phase.value ≤ (ownPhaseSet p s).2.phase.value := by
  unfold ownPhaseSet
  split
  · split
    · exact le_rfl
    next x _ =>
      unfold State.setPhase
      split
      · exact le_rfl
      next hlt =>
        split
        · exact le_rfl
        · dsimp only [State.count_phase]
          rw [startExpirySweep_frame _ .phase (by decide)]
          exact Nat.le_of_not_lt hlt
  · exact le_rfl

/-- A relation between the states before and after an owner, which services otherwise keep, holds of the event. -/
theorem serve_phase {owner : List Byte → State → Reply × State} {R : Phase → Phase → Prop} (hrefl : ∀ p, R p p)
    (h : ∀ p s, R s.phase (owner p s).2.phase) {lane : LaneIx} {k : RequestKind} {s t : State}
    (ht : serve lane k owner s = .next t) : R s.phase t.phase := by
  have key : R s.phase (s.service lane k owner).phase := by
    unfold State.service
    split
    · exact hrefl _
    next q u hh =>
      have hu : u.phase = s.phase := head_frame hh .phase (by decide)
      split
      · split
        · rw [respond_frame _ _ _ .phase (by decide), ← hu]
          exact h _ _
        · rw [respond_frame _ _ _ .phase (by decide)]
          exact hu ▸ hrefl _
      · exact hrefl _
  simp only [serve, event, Host.Outcome.next.injEq] at ht
  subst ht
  split
  · exact hrefl _
  · rw [settle_phase]; exact key

theorem phaseSet_phase {lane : LaneIx} {s t : State} (ht : exec (.phaseSet lane) s = .next t) : s.phase.value ≤ t.phase.value :=
  serve_phase (R := fun p q => p.value ≤ q.value) (fun _ => le_rfl) ownPhaseSet_phase ht

theorem ownMatchClear_phase (p : List Byte) (s : State) :
    (ownMatchClear p s).2.phase = s.phase ∨ (ownMatchClear p s).2.phase = .pregame := by
  unfold ownMatchClear
  split
  · exact .inr rfl
  · exact .inl rfl

theorem matchClear_phase {lane : LaneIx} {s t : State} (ht : exec (.matchClear lane) s = .next t) :
    t.phase = s.phase ∨ t.phase = .pregame :=
  serve_phase (R := fun p q => q = p ∨ q = .pregame) (fun _ => .inl rfl) ownMatchClear_phase ht

theorem exec_phase {i : Instr} {s t : State} (hm : ∀ l, i ≠ .matchClear l) (hp : ∀ c, i ≠ .powerOnReset c)
    (ht : exec i s = .next t) : s.phase.value ≤ t.phase.value := by
  by_cases h : Field.phase ∈ footprint i
  · rcases phase_mem_footprint h with ⟨l, rfl⟩ | ⟨l, rfl⟩ | ⟨c, rfl⟩
    · exact phaseSet_phase ht
    · exact absurd rfl (hm l)
    · exact absurd rfl (hp c)
  · exact (congrArg Phase.value (everyCommandKeepsToItsFootprint i s t ht .phase h)).ge

/-- Settles O14: rights by what every effect leaves in order, the phase by the footprints and the two owners that write it. -/
theorem rightsKeptAndPhaseForward : Obligations.RightsKeptAndPhaseForward := by
  refine ⟨⟨fun s t hs ht => step_keeps (P := State.ConfigLaw) (fun _ _ h => h) (fun _ _ _ => exec_configLaw) ht hs,
    fun i s t hr hp ht l => ?_⟩, fun i s t hm hp ht => exec_phase hm hp ht, fun i s t ht => ?_⟩
  · obtain ⟨u, hu, he⟩ := exec_fair hp hr ht
    rw [he, (settle_laneQueue s.notices u l).2.1]
    exact hu.2 l
  · by_cases h : Field.phase ∈ footprint i
    · rcases phase_mem_footprint h with ⟨l, rfl⟩ | ⟨l, rfl⟩ | ⟨c, rfl⟩
      · exact .inl (phaseSet_phase ht)
      · exact (matchClear_phase ht).imp (fun h => (congrArg Phase.value h).ge) id
      · rcases powerOnReset_cases ht with rfl | ⟨carrier, rfl⟩
        · exact .inl le_rfl
        · exact .inr rfl
    · exact .inl (congrArg Phase.value (everyCommandKeepsToItsFootprint i s t ht .phase h)).ge

end Sys2Proof.Machine
end

section
/-! PROOFS. Cursors, channels, settings, counters and queues keep their ranges (O17). -/

namespace Sys2Proof.Machine

/- The whole text is elaborated in one process: its proofs in turn, so that their threads' stacks stay within its memory. -/
set_option Elab.async false

/-! ### What the owner of a request keeps, its event keeps -/

/-- A condition on fields that neither a lane, a notice nor a counter is among holds after a service where it holds after the owner. -/
theorem serve_holds {fs : List Field} {P : State → Prop} (hP : ∀ s t, ChangesOnly fs s t → P s → P t) (hfs : serviceFields ⊆ fs)
    {owner : List Byte → State → Reply × State} (h : ∀ p s, P s → P (owner p s).2) {lane : LaneIx} {k : RequestKind} {s t : State}
    (ht : serve lane k owner s = .next t) (hs : P s) : P t := by
  have key : P (s.service lane k owner) := by
    unfold State.service
    split
    · exact hs
    next q u hh =>
      have hu : P u := hP _ _ ((head_frame hh).mono fun f hf => hfs (by revert hf; revert f; decide)) hs
      have respond (v : State) (x : Response) : P v → P (v.respond lane x) :=
        hP _ _ ((respond_frame v lane x).mono fun f hf => hfs (by revert hf; revert f; decide))
      split
      · split
        · exact respond _ _ (h _ _ hu)
        · refine respond _ _ (hP u _ (ChangesOnly.mono (fs := noticeFields) ?_ fun f hf => hfs (by revert hf; revert f; decide)) hu)
          exact (count_frame _ _).le.step (note_frame _ _)
      · exact hs
  simp only [serve, event, Host.Outcome.next.injEq] at ht
  subst ht
  split
  · exact hs
  · exact hP _ _ ((settle_frame _ _).mono fun f hf => hfs (by revert hf; revert f; decide)) key

/-- As for a service, for an event whose effect is no service. -/
theorem event_holds {fs : List Field} {P : State → Prop} (hP : ∀ s t, ChangesOnly fs s t → P s → P t) (hfs : noticeFields ⊆ fs)
    {effect : State → State} {s t : State} (h : P s → P (effect s)) (ht : event s effect = .next t) (hs : P s) : P t := by
  simp only [event, Host.Outcome.next.injEq] at ht
  subst ht
  split
  · exact hs
  · exact hP _ _ ((settle_frame _ _).mono hfs) (h hs)

/-! ### Sweeps (R86, R106) -/

theorem expirySweep_mem_footprint {i : Instr} (h : Field.expirySweep ∈ footprint i) :
    i = .expirySweepVisit ∨ (∃ l, i = .phaseSet l) ∨ (∃ l, i = .matchClear l) ∨ ∃ c, i = .powerOnReset c := by
  cases i with
  | expirySweepVisit => exact .inl rfl
  | phaseSet l => exact .inr (.inl ⟨l, rfl⟩)
  | matchClear l => exact .inr (.inr (.inl ⟨l, rfl⟩))
  | powerOnReset c => exact .inr (.inr (.inr ⟨c, rfl⟩))
  | _ => simp [footprint, exitFields, freeFields, unbindFields, serviceFields, noticeFields] at h

theorem zoneSweep_mem_footprint {i : Instr} (h : Field.zoneSweep ∈ footprint i) :
    i = .zoneSweepVisit ∨ (∃ l, i = .seatMapWrite l) ∨ (∃ l, i = .matchClear l) ∨ ∃ c, i = .powerOnReset c := by
  cases i with
  | zoneSweepVisit => exact .inl rfl
  | seatMapWrite l => exact .inr (.inl ⟨l, rfl⟩)
  | matchClear l => exact .inr (.inr (.inl ⟨l, rfl⟩))
  | powerOnReset c => exact .inr (.inr (.inr ⟨c, rfl⟩))
  | _ => simp [footprint, exitFields, freeFields, unbindFields, serviceFields, noticeFields] at h

theorem Sweep.stopped_inRange {n : Nat} (h : 0 < n) : Sweep.stopped.InRange n := ⟨h, fun _ => rfl⟩

theorem Sweep.running_inRange {n k : Nat} (h : k < n) : ({ running := true, cursor := k } : Sweep).InRange n :=
  ⟨h, fun h => Bool.noConfusion h⟩

/-- The expiry sweep is in range. -/
def State.ExpiryInRange (s : State) : Prop := s.expirySweep.InRange Config.passSlots

/-- The zone sweep is in range. -/
def State.ZoneInRange (s : State) : Prop := s.zoneSweep.InRange Config.stationContexts

theorem ChangesOnly.expiryInRange {fs : List Field} (hf : Field.expirySweep ∉ fs) (s t : State) (h : ChangesOnly fs s t) :
    s.ExpiryInRange → t.ExpiryInRange := by
  rw [State.ExpiryInRange, State.ExpiryInRange, h .expirySweep hf]
  exact id

theorem ChangesOnly.zoneInRange {fs : List Field} (hf : Field.zoneSweep ∉ fs) (s t : State) (h : ChangesOnly fs s t) :
    s.ZoneInRange → t.ZoneInRange := by
  rw [State.ZoneInRange, State.ZoneInRange, h .zoneSweep hf]
  exact id

@[simp] theorem startExpirySweep_expirySweep (s : State) : s.startExpirySweep.expirySweep = { running := true, cursor := 0 } := by
  unfold State.startExpirySweep
  dsimp only
  split <;> rfl

@[simp] theorem startZoneSweep_zoneSweep (s : State) : s.startZoneSweep.zoneSweep = { running := true, cursor := 0 } := by
  unfold State.startZoneSweep
  dsimp only
  split <;> rfl

theorem expirySweepVisit_inRange {s t : State} (ht : exec .expirySweepVisit s = .next t) (hs : s.ExpiryInRange) :
    t.ExpiryInRange := by
  dsimp only [exec, execExpirySweepVisit] at ht
  refine event_holds (ChangesOnly.expiryInRange (fs := noticeFields) (by decide)) (fun _ h => h) (fun _ => ?_) ht hs
  split
  · split
    next h => exact Sweep.running_inRange h
    next => exact Sweep.stopped_inRange (by decide)
  · exact hs

theorem zoneSweepVisit_inRange {s t : State} (ht : exec .zoneSweepVisit s = .next t) (hs : s.ZoneInRange) : t.ZoneInRange := by
  dsimp only [exec, execZoneSweepVisit] at ht
  refine event_holds (ChangesOnly.zoneInRange (fs := noticeFields) (by decide)) (fun _ h => h) (fun _ => ?_) ht hs
  split
  · split
    next h => exact Sweep.running_inRange h
    next => exact Sweep.stopped_inRange (by decide)
  · exact hs

theorem ownPhaseSet_expiryInRange (p : List Byte) (s : State) (hs : s.ExpiryInRange) : (ownPhaseSet p s).2.ExpiryInRange := by
  unfold ownPhaseSet
  split
  · split
    · exact hs
    · unfold State.setPhase
      split
      · exact hs
      · split
        · exact hs
        · dsimp only [State.ExpiryInRange, State.count_expirySweep]
          rw [startExpirySweep_expirySweep]
          exact Sweep.running_inRange (by decide)
  · exact hs

theorem ownSeatMapWrite_zoneInRange (p : List Byte) (s : State) (hs : s.ZoneInRange) : (ownSeatMapWrite p s).2.ZoneInRange := by
  unfold ownSeatMapWrite
  split
  · split
    · split
      · exact hs
      · dsimp only [State.writeSeatMap, State.ZoneInRange, State.count_zoneSweep]
        rw [startZoneSweep_zoneSweep]
        exact Sweep.running_inRange (by decide)
    · exact hs
  · exact hs

theorem ownMatchClear_sweepsInRange (p : List Byte) (s : State) :
    (s.ExpiryInRange → (ownMatchClear p s).2.ExpiryInRange) ∧ (s.ZoneInRange → (ownMatchClear p s).2.ZoneInRange) := by
  unfold ownMatchClear
  split
  · exact ⟨fun _ => Sweep.stopped_inRange (by decide), fun _ => Sweep.stopped_inRange (by decide)⟩
  · exact ⟨id, id⟩

theorem exec_expiryInRange {i : Instr} {s t : State} (ht : exec i s = .next t) (hs : s.ExpiryInRange) : t.ExpiryInRange := by
  by_cases h : Field.expirySweep ∈ footprint i
  · rcases expirySweep_mem_footprint h with rfl | ⟨l, rfl⟩ | ⟨l, rfl⟩ | ⟨c, rfl⟩
    · exact expirySweepVisit_inRange ht hs
    · exact serve_holds (ChangesOnly.expiryInRange (by decide)) (fun _ h => h) ownPhaseSet_expiryInRange ht hs
    · exact serve_holds (ChangesOnly.expiryInRange (by decide)) (fun _ h => h) (fun p s => (ownMatchClear_sweepsInRange p s).1) ht hs
    · rcases powerOnReset_cases ht with rfl | ⟨carrier, rfl⟩
      · exact hs
      · exact Sweep.stopped_inRange (by decide)
  · exact (everyCommandKeepsToItsFootprint i s t ht).expiryInRange h _ _ hs

theorem exec_zoneInRange {i : Instr} {s t : State} (ht : exec i s = .next t) (hs : s.ZoneInRange) : t.ZoneInRange := by
  by_cases h : Field.zoneSweep ∈ footprint i
  · rcases zoneSweep_mem_footprint h with rfl | ⟨l, rfl⟩ | ⟨l, rfl⟩ | ⟨c, rfl⟩
    · exact zoneSweepVisit_inRange ht hs
    · exact serve_holds (ChangesOnly.zoneInRange (by decide)) (fun _ h => h) ownSeatMapWrite_zoneInRange ht hs
    · exact serve_holds (ChangesOnly.zoneInRange (by decide)) (fun _ h => h) (fun p s => (ownMatchClear_sweepsInRange p s).2) ht hs
    · rcases powerOnReset_cases ht with rfl | ⟨carrier, rfl⟩
      · exact hs
      · exact Sweep.stopped_inRange (by decide)
  · exact (everyCommandKeepsToItsFootprint i s t ht).zoneInRange h _ _ hs

/-! ### Channels (R111) -/

theorem channels_mem_footprint {i : Instr} (h : Field.channels ∈ footprint i) :
    (∃ c b, i = .replayPacket c b) ∨ (∃ l, i = .channelOpen l) ∨ (∃ l, i = .channelClose l) ∨ (∃ l, i = .matchClear l) ∨
      ∃ c, i = .powerOnReset c := by
  cases i with
  | replayPacket c b => exact .inl ⟨c, b, rfl⟩
  | channelOpen l => exact .inr (.inl ⟨l, rfl⟩)
  | channelClose l => exact .inr (.inr (.inl ⟨l, rfl⟩))
  | matchClear l => exact .inr (.inr (.inr (.inl ⟨l, rfl⟩)))
  | powerOnReset c => exact .inr (.inr (.inr (.inr ⟨c, rfl⟩)))
  | _ => simp [footprint, exitFields, freeFields, unbindFields, serviceFields, noticeFields] at h

theorem ChangesOnly.closedLaw {fs : List Field} (hf : Field.channels ∉ fs) (s t : State) (h : ChangesOnly fs s t) :
    s.ClosedLaw → t.ClosedLaw := by
  rw [State.ClosedLaw, State.ClosedLaw, h .channels hf]
  exact id

theorem setChannel_closedLaw {s : State} {c : ChannelIx} {ch : Channel} (h : ch.state = .closed → ch = Channel.closed)
    (hs : s.ClosedLaw) : (s.setChannel c ch).ClosedLaw := by
  intro d
  rw [State.setChannel_channels, Fin.getElem_fin, Vector.getElem_set]
  split
  · exact h
  · exact hs d

theorem takePacket_closedLaw {s : State} {p : Packet} (h : ¬ s.channels[p.channel].state = .closed) (hs : s.ClosedLaw) :
    (s.takePacket p).ClosedLaw :=
  setChannel_closedLaw (s := s) (fun hc => absurd hc h) hs

theorem ingress_closedLaw {s : State} (p : Packet) (hs : s.ClosedLaw) : (s.ingress p).ClosedLaw := by
  have offered (u : State) : u.ClosedLaw → (u.offer p).ClosedLaw := ChangesOnly.closedLaw (by decide) _ _ (offer_frame u p)
  unfold State.ingress
  split
  · exact hs
  next hl =>
    have taken := takePacket_closedLaw hl hs
    have gap : ((s.takePacket p).gap p).ClosedLaw := by
      have noted : (((s.takePacket p).count (.channel p.channel .sequenceGaps)).note .replaySequenceGap).ClosedLaw := taken
      unfold State.gap
      dsimp only
      split
      · exact ChangesOnly.closedLaw (fs := [.groups, .counters]) (by decide) _ _ ((skipChannel_frame _ _).le.step (count_frame _ _)) noted
      · exact offered _ noted
    split
    · exact offered _ taken
    · split
      · exact offered _ taken
      · split
        · exact gap
        · exact hs

theorem replayPacket_closedLaw {c : Bool} {body : List Byte} {s t : State} (ht : exec (.replayPacket c body) s = .next t)
    (hs : s.ClosedLaw) : t.ClosedLaw := by
  dsimp only [exec, execReplayPacket] at ht
  refine event_holds (ChangesOnly.closedLaw (fs := noticeFields) (by decide)) (fun _ h => h) (fun _ => ?_) ht hs
  split
  · exact hs
  · split
    · exact hs
    · exact ingress_closedLaw _ hs

theorem ownChannelOpen_closedLaw (p : List Byte) (s : State) (hs : s.ClosedLaw) : (ownChannelOpen p s).2.ClosedLaw := by
  unfold ownChannelOpen
  split
  · split
    · split
      next c o l _ _ _ hl =>
        have set : (s.setChannel c { s.channels[c] with openAll := o, seatLocked := l }).ClosedLaw :=
          setChannel_closedLaw (fun hc => by rw [hl] at hc; cases hc) hs
        have examine (u : State) (a b : Bool) (ix : Nat) : (State.examine c a b u ix).channels = u.channels := by
          unfold State.examine
          split
          · rfl
          · split
            · exact dropEntry_frame _ _ _ _ .channels (by decide)
            · split <;> rfl
        have all (ixs : List Nat) (a b : Bool) (u : State) : u.ClosedLaw → (ixs.foldl (State.examine c a b) u).ClosedLaw := by
          induction ixs generalizing u with
          | nil => exact id
          | cons ix ixs ih =>
            refine fun hu => ih _ ?_
            rw [State.ClosedLaw, examine]
            exact hu
        exact all _ _ _ _ set
      · exact setChannel_closedLaw (fun hc => by cases hc) hs
    · exact hs
  · exact hs

theorem ownChannelClose_closedLaw (p : List Byte) (s : State) (hs : s.ClosedLaw) : (ownChannelClose p s).2.ClosedLaw := by
  unfold ownChannelClose
  split
  · split
    · exact hs
    next c _ =>
      split
      · refine ChangesOnly.closedLaw (fs := [.groups, .offers, .counters]) (by decide) _ _
          ((discardChannel_frame _ c).step (count_frame _ _)) ?_
        exact setChannel_closedLaw (s := { s with stations := _ }) (fun _ => rfl) hs
      · exact hs
  · exact hs

theorem closed_closedLaw {s : State} (h : s.channels = Vector.replicate 16 Channel.closed) : s.ClosedLaw := by
  intro c _
  simp [h]

theorem ownMatchClear_closedLaw (p : List Byte) (s : State) (hs : s.ClosedLaw) : (ownMatchClear p s).2.ClosedLaw := by
  unfold ownMatchClear
  split
  · exact closed_closedLaw rfl
  · exact hs

theorem exec_closedLaw {i : Instr} {s t : State} (ht : exec i s = .next t) (hs : s.ClosedLaw) : t.ClosedLaw := by
  by_cases h : Field.channels ∈ footprint i
  · rcases channels_mem_footprint h with ⟨c, b, rfl⟩ | ⟨l, rfl⟩ | ⟨l, rfl⟩ | ⟨l, rfl⟩ | ⟨c, rfl⟩
    · exact replayPacket_closedLaw ht hs
    · exact serve_holds (ChangesOnly.closedLaw (by decide)) (fun _ h => h) ownChannelOpen_closedLaw ht hs
    · exact serve_holds (ChangesOnly.closedLaw (by decide)) (fun _ h => h) ownChannelClose_closedLaw ht hs
    · exact serve_holds (ChangesOnly.closedLaw (by decide)) (fun _ h => h) ownMatchClear_closedLaw ht hs
    · rcases powerOnReset_cases ht with rfl | ⟨carrier, rfl⟩
      · exact hs
      · exact closed_closedLaw rfl
  · exact (everyCommandKeepsToItsFootprint i s t ht).closedLaw h _ _ hs

/-! ### Settings and timers (R146 to R148) -/

theorem settings_mem_footprint {i : Instr} (h : Field.settings ∈ footprint i) :
    (∃ l, i = .sectorSet l) ∨ ∃ c, i = .powerOnReset c := by
  cases i with
  | sectorSet l => exact .inl ⟨l, rfl⟩
  | powerOnReset c => exact .inr ⟨c, rfl⟩
  | _ => simp [footprint, exitFields, freeFields, unbindFields, serviceFields, noticeFields] at h

/-- The settings are in range. -/
def State.SettingsInRange (s : State) : Prop := s.settings.InRange

theorem ChangesOnly.settingsInRange {fs : List Field} (hf : Field.settings ∉ fs) (s t : State) (h : ChangesOnly fs s t) :
    s.SettingsInRange → t.SettingsInRange := by
  rw [State.SettingsInRange, State.SettingsInRange, h .settings hf]
  exact id

/-- A setting written with a clamped value keeps the settings in range (R148). -/
theorem Settings.put_inRange {v : Settings} (k : Setting) (n : Nat) (h : v.InRange) : (v.put k (k.clamp n)).InRange := by
  obtain ⟨h1, h2, h3, h4, h5, h6, h7⟩ := h
  cases k <;> refine ⟨?_, ?_, ?_, ?_, ?_, ?_, ?_⟩ <;> simp only [Settings.put, Setting.clamp, clampTo] <;> omega

theorem clampRadio_settings (period : Nat) (rs : List RadioIx) (s : State) :
    (rs.foldl (State.clampRadio period) s).settings = s.settings := by
  induction rs generalizing s with
  | nil => rfl
  | cons r rs ih => exact ih _

theorem ownSectorSet_settingsInRange (p : List Byte) (s : State) (hs : s.SettingsInRange) :
    (ownSectorSet p s).2.SettingsInRange := by
  unfold ownSectorSet
  split
  · split
    · exact hs
    · dsimp only [State.setSector, State.SettingsInRange, State.count_settings]
      rw [clampRadio_settings]
      exact Settings.put_inRange _ _ hs
  · exact hs

theorem exec_settingsInRange {i : Instr} {s t : State} (ht : exec i s = .next t) (hs : s.SettingsInRange) : t.SettingsInRange := by
  by_cases h : Field.settings ∈ footprint i
  · rcases settings_mem_footprint h with ⟨l, rfl⟩ | ⟨c, rfl⟩
    · exact serve_holds (ChangesOnly.settingsInRange (by decide)) (fun _ h => h) ownSectorSet_settingsInRange ht hs
    · rcases powerOnReset_cases ht with rfl | ⟨carrier, rfl⟩
      · exact hs
      · exact (by decide : Settings.default.InRange)
  · exact (everyCommandKeepsToItsFootprint i s t ht).settingsInRange h _ _ hs

theorem samplePosition_mem_footprint {i : Instr} (h : Field.samplePosition ∈ footprint i) :
    i = .sectorTimeTick ∨ ∃ c, i = .powerOnReset c := by
  cases i with
  | sectorTimeTick => exact .inl rfl
  | powerOnReset c => exact .inr ⟨c, rfl⟩
  | _ => simp [footprint, exitFields, freeFields, unbindFields, serviceFields, noticeFields] at h

theorem exec_samplePosition {i : Instr} {s t : State} (ht : exec i s = .next t) (hs : s.samplePosition < 100) :
    t.samplePosition < 100 := by
  by_cases h : Field.samplePosition ∈ footprint i
  · rcases samplePosition_mem_footprint h with rfl | ⟨c, rfl⟩
    · dsimp only [exec, execSectorTimeTick] at ht
      refine event_holds (P := fun s => s.samplePosition < 100) (fs := noticeFields) (fun s t h => ?_) (fun _ h => h)
        (fun _ => ?_) ht hs
      · rw [h .samplePosition (by decide)]
        exact id
      · split
        next h => exact h
        next => exact Nat.zero_lt_succ _
    · rcases powerOnReset_cases ht with rfl | ⟨carrier, rfl⟩
      · exact hs
      · exact Nat.zero_lt_succ _
  · rw [everyCommandKeepsToItsFootprint i s t ht .samplePosition h]
    exact hs

theorem periodInForce_mem_footprint {i : Instr} (h : Field.periodInForce ∈ footprint i) :
    i = .budgetPeriodExpiry ∨ ∃ c, i = .powerOnReset c := by
  cases i with
  | budgetPeriodExpiry => exact .inl rfl
  | powerOnReset c => exact .inr ⟨c, rfl⟩
  | _ => simp [footprint, exitFields, freeFields, unbindFields, serviceFields, noticeFields] at h

theorem exec_periodInForce {i : Instr} {s t : State} (ht : exec i s = .next t) (hv : s.settings.InRange)
    (h1 : 1 ≤ s.periodInForce) (h2 : s.periodInForce ≤ 100) : 1 ≤ t.periodInForce ∧ t.periodInForce ≤ 100 := by
  by_cases h : Field.periodInForce ∈ footprint i
  · rcases periodInForce_mem_footprint h with rfl | ⟨c, rfl⟩
    · dsimp only [exec, execBudgetPeriodExpiry] at ht
      refine event_holds (P := fun s => 1 ≤ s.periodInForce ∧ s.periodInForce ≤ 100) (fs := noticeFields) (fun s t h => ?_)
        (fun _ h => h) (fun hs => ?_) ht ⟨h1, h2⟩
      · rw [h .periodInForce (by decide)]
        exact id
      · obtain ⟨-, -, -, -, -, hlow, hhigh⟩ := hv
        split
        · exact ⟨hlow, hhigh⟩
        · exact hs
    · rcases powerOnReset_cases ht with rfl | ⟨carrier, rfl⟩
      · exact ⟨h1, h2⟩
      · exact (by decide : 1 ≤ 10 ∧ 10 ≤ 100)
  · rw [everyCommandKeepsToItsFootprint i s t ht .periodInForce h]
    exact ⟨h1, h2⟩

/-! ### Counters and queues -/

theorem exec_countersInRange {i : Instr} {s t : State} (ht : exec i s = .next t) (hs : s.CountersInRange) : t.CountersInRange := by
  rcases eq_powerOnReset_or i with ⟨e, rfl⟩ | hp
  · rcases powerOnReset_cases ht with rfl | ⟨carrier, rfl⟩
    · exact hs
    · exact fun e he => absurd he List.not_mem_nil
  · exact (exec_lasting hp ht).counters.inRange hs

theorem powerOn_link (carrier : BitVec 64) (r : RadioIx) :
    (State.powerOn carrier).links[r] = SeatLink.powerOn (carrier.getLsbD r.val) := by
  simp [State.powerOn]

theorem powerOn_queuesBounded (carrier : BitVec 64) : (State.powerOn carrier).QueuesBounded := by
  refine ⟨fun r => ?_, fun l => ?_, Nat.zero_le _⟩
  · rw [powerOn_link]
    exact Nat.zero_le _
  · show powerOnLanes[l].queue.length ≤ _
    decide +revert

theorem exec_queuesBounded {i : Instr} {s t : State} (ht : exec i s = .next t) (hs : s.QueuesBounded) : t.QueuesBounded := by
  rcases eq_powerOnReset_or i with ⟨e, rfl⟩ | hp
  · rcases powerOnReset_cases ht with rfl | ⟨carrier, rfl⟩
    · exact hs
    · exact powerOn_queuesBounded carrier
  · have h := exec_lasting hp ht
    exact ⟨fun r => h.queues r (hs.1 r), fun l => h.laneQueues l (hs.2.1 l), h.responses hs.2.2⟩

theorem exec_sweepsInRange {i : Instr} {s t : State} (ht : exec i s = .next t) (hs : s.SweepsInRange) : t.SweepsInRange :=
  ⟨exec_expiryInRange ht hs.1, exec_zoneInRange ht hs.2⟩

/-- Settles O17: counters and queues by what every event leaves in order, the other ranges by the footprints and the commands that
write them. -/
theorem rangesKept : Obligations.RangesKept := by
  intro s t ht
  unfold step at ht
  split at ht
  · cases ht
    exact ⟨id, id, id, id, id, id, fun _ h1 h2 => ⟨h1, h2⟩⟩
  next i rest _ =>
    exact ⟨exec_sweepsInRange (s := s.withQueue rest) ht, exec_closedLaw (s := s.withQueue rest) ht,
      exec_settingsInRange (s := s.withQueue rest) ht, exec_countersInRange (s := s.withQueue rest) ht,
      exec_queuesBounded (s := s.withQueue rest) ht,
      exec_samplePosition (s := s.withQueue rest) ht, exec_periodInForce (s := s.withQueue rest) ht⟩

end Sys2Proof.Machine
end

section
/-! PROOFS. The requests on rights, notices, the phase and the match (O52, O53, O57, O58, O60), each from what its owner replies. -/

namespace Sys2Proof.Machine

/- The whole text is elaborated in one process: its proofs in turn, so that their threads' stacks stay within its memory. -/
set_option Elab.async false

/-! ### RIGHTS_SET (R159) -/

theorem ownRightsSet_refused (l : LaneIx) {c : Byte} (h : 64 ≤ c.toNat) (s : State) :
    ownRightsSet [BitVec.ofNat 8 l.val, c] s = (Reply.badArg, s) := by
  simp only [ownRightsSet, laneOf_byteOf, if_neg (Nat.not_lt.mpr h)]

theorem flagByte_bne {α : Type} [BEq α] [LawfulBEq α] [DecidableEq α] (a b : α) :
    flagByte (a != b) = if a = b then 0#8 else 1#8 := by
  by_cases h : a = b <;> simp [flagByte, h]

theorem ownRightsSet_done (l : LaneIx) {c : Byte} {x : Rights} (h : x.toNat = c.toNat) (s : State) :
    ownRightsSet [BitVec.ofNat 8 l.val, c] s =
      (Reply.done [s.lanes[l].rights.zeroExtend 8, (appliedRights l x).zeroExtend 8,
          if appliedRights l x = x then 0#8 else 1#8],
        (s.setLane l { s.lanes[l] with rights := appliedRights l x }).count (.lane l .rightsChanges)) := by
  have hlt : c.toNat < 64 := h ▸ x.isLt
  have hx : c.truncate 6 = x := by
    apply BitVec.eq_of_toNat_eq
    rw [BitVec.toNat_setWidth, h]
    exact Nat.mod_eq_of_lt hlt
  simp only [ownRightsSet, laneOf_byteOf, if_pos hlt, hx, flagByte_bne]
  rfl

/-- Settles O60: the two replies of RIGHTS_SET's owner. -/
theorem rightsSetKeepsConfigOnBoard : Obligations.RightsSetKeepsConfigOnBoard := by
  intro lane q s s0 l c hready hparams
  have served : exec (.rightsSet lane) s = _ := serve_ready ownRightsSet hready
  rw [served, hparams]
  refine ⟨fun h => ?_, fun x hx applied happlied => ?_⟩
  · rw [ownRightsSet_refused l h]
    rfl
  · rw [ownRightsSet_done l hx, happlied]
    rfl

/-! ### NOTICE_LEVELS_SET, NOTICE_MASK_SET, NOTICE_CLEAR, NOTICE_ACCEPT, NOTICE_RETURN (R169 to R173) -/

/-- A byte that names sources of a group reads as their set. -/
theorem sourcesOf_zeroExtend {g : NoticeGroup} {e : BitVec 4} (h : e &&& ~~~groupSources g = 0#4) :
    sourcesOf g (e.zeroExtend 8) = some e := by
  have key : ∀ (g e : BitVec 4), e &&& ~~~g = 0#4 → e.zeroExtend 8 &&& ~~~(g.zeroExtend 8) = 0#8 ∧
      (e.zeroExtend 8).truncate 4 = e := by decide
  obtain ⟨hs, ht⟩ := key (groupSources g) e h
  rw [sourcesOf, sourcesByte, if_pos hs, ht]

theorem ownNoticeLevelsSet_done (lane : LaneIx) (g : NoticeGroup) (l : Level) {e : BitVec 4}
    (he : e &&& ~~~groupSources g = 0#4) (s : State) :
    ownNoticeLevelsSet lane [BitVec.ofNat 8 g.val, BitVec.ofNat 8 l.val, e.zeroExtend 8] s =
      (Reply.done [BitVec.ofNat 8 s.notices[lane].levels[g].val, s.notices[lane].enables[g].zeroExtend 8, BitVec.ofNat 8 l.val,
          e.zeroExtend 8], s.setNotice lane (s.notices[lane].withLevel g l e)) := by
  simp only [ownNoticeLevelsSet, levelOf_byteOf, sourcesOf_zeroExtend he]
  rfl

theorem clearSetsOf_toList {sets : Vector (BitVec 4) 8} (h : ∀ g : NoticeGroup, sets[g] &&& ~~~groupSources g = 0#4) :
    clearSetsOf (sets.toList.map fun m => m.zeroExtend 8) = some sets := by
  have eight : ∃ a b c d e f g i, sets = #v[a, b, c, d, e, f, g, i] := by
    refine ⟨sets[0], sets[1], sets[2], sets[3], sets[4], sets[5], sets[6], sets[7], ?_⟩
    ext i hi
    interval_cases i <;> rfl
  obtain ⟨a, b, c, d, e, f, g, i, rfl⟩ := eight
  show clearSetsOf [a.zeroExtend 8, b.zeroExtend 8, c.zeroExtend 8, d.zeroExtend 8, e.zeroExtend 8, f.zeroExtend 8,
    g.zeroExtend 8, i.zeroExtend 8] = _
  have h0 : sourcesOf 0 (a.zeroExtend 8) = some a := sourcesOf_zeroExtend (h 0)
  have h1 : sourcesOf 1 (b.zeroExtend 8) = some b := sourcesOf_zeroExtend (h 1)
  have h2 : sourcesOf 2 (c.zeroExtend 8) = some c := sourcesOf_zeroExtend (h 2)
  have h3 : sourcesOf 3 (d.zeroExtend 8) = some d := sourcesOf_zeroExtend (h 3)
  have h4 : sourcesOf 4 (e.zeroExtend 8) = some e := sourcesOf_zeroExtend (h 4)
  have h5 : sourcesOf 5 (f.zeroExtend 8) = some f := sourcesOf_zeroExtend (h 5)
  have h6 : sourcesOf 6 (g.zeroExtend 8) = some g := sourcesOf_zeroExtend (h 6)
  have h7 : sourcesOf 7 (i.zeroExtend 8) = some i := sourcesOf_zeroExtend (h 7)
  rw [clearSetsOf, h0, h1, h2, h3, h4, h5, h6, h7]

/-- No group is chosen while none is eligible. -/
theorem Notice.chosen_none {n : Notice} (h : n.anyEligible = false) : n.chosen = none := by
  rcases hc : n.chosen with _ | g
  · rfl
  · have : n.anyEligible = true := List.any_eq_true.mpr ⟨g, List.mem_finRange g, Notice.chosen_eligible hc⟩
    rw [h] at this
    cases this

/-- The group chosen has the highest level, and the lowest number among those of that level (R171). -/
theorem Notice.chosen_of_highest {n : Notice} {g : NoticeGroup} (hg : n.eligible g = true)
    (hmax : ∀ h, n.eligible h = true → n.levels[h] < n.levels[g] ∨ (n.levels[h] = n.levels[g] ∧ g ≤ h)) : n.chosen = some g := by
  unfold Notice.chosen
  suffices ∀ (gs : List NoticeGroup) (best : Option NoticeGroup), gs.Pairwise (· < ·) →
      ((best = some g ∧ ∀ h ∈ gs, g < h) ∨ (g ∈ gs ∧ ∀ b ∈ best, n.levels[b] < n.levels[g])) →
      gs.foldl (fun best g =>
        if n.eligible g then
          match best with
          | none => some g
          | some b => if n.levels[b] < n.levels[g] then some g else some b
        else best) best = some g from
    this _ none (List.pairwise_lt_finRange 8) (.inr ⟨List.mem_finRange g, by simp⟩)
  intro gs
  induction gs with
  | nil =>
    rintro best - (⟨rfl, -⟩ | ⟨h, -⟩)
    · rfl
    · cases h
  | cons a gs ih =>
    intro best hp hb
    obtain ⟨hlt, hp⟩ := List.pairwise_cons.mp hp
    rw [List.foldl_cons]
    refine ih _ hp ?_
    rcases hb with ⟨rfl, hb⟩ | ⟨hm, hb⟩
    · refine .inl ⟨?_, fun h hh => hb h (List.mem_cons_of_mem _ hh)⟩
      split
      next ha =>
        dsimp only
        rw [if_neg]
        rcases hmax a ha with h | h
        · exact lt_asymm h
        · exact not_lt.mpr h.1.le
      next => rfl
    · by_cases hag : a = g
      · subst hag
        refine .inl ⟨?_, hlt⟩
        rw [if_pos hg]
        split
        · rfl
        next b => rw [if_pos (hb b rfl)]
      · have hm : g ∈ gs := (List.mem_cons.mp hm).resolve_left fun h => hag h.symm
        refine .inr ⟨hm, ?_⟩
        split
        next ha =>
          have hlow : n.levels[a] < n.levels[g] := by
            rcases hmax a ha with h | h
            · exact h
            · exact absurd (hlt g hm) (not_lt.mpr h.2)
          split
          · rintro _ ⟨⟩
            exact hlow
          next b =>
            split
            · rintro _ ⟨⟩
              exact hlow
            · rintro _ ⟨⟩
              exact hb b rfl
        next => exact hb

theorem ownNoticeAccept_done (lane : LaneIx) {g : NoticeGroup} {s : State} (h : s.notices[lane].chosen = some g) :
    ownNoticeAccept lane [] s =
      (Reply.done [BitVec.ofNat 8 g.val, BitVec.ofNat 8 s.notices[lane].levels[g].val,
          (s.notices[lane].status[g] &&& s.notices[lane].enables[g]).zeroExtend 8, BitVec.ofNat 8 s.notices[lane].mask.val,
          BitVec.ofNat 8 (s.notices[lane].saved.length + 1)], s.setNotice lane (s.notices[lane].accepted g)) := by
  simp only [ownNoticeAccept, h]
  rfl

/-- Settles O57: the replies of the owners of the notice requests. -/
theorem noticeRequestsActOnTheirLane : Obligations.NoticeRequestsActOnTheirLane := by
  refine ⟨fun lane q s s0 g l e hready hparams he => ?_, fun lane q s s0 sets hready hparams hsets => ?_,
    fun lane q s s0 hready hparams => ⟨fun hnone => ?_, fun g hg hmax => ?_⟩,
    fun lane q s s0 hready hparams => ⟨fun hnone => ?_, fun m rest hsaved => ?_⟩⟩
  · have served : exec (.noticeLevelsSet lane) s = _ := serve_ready (ownNoticeLevelsSet lane) hready
    rw [served, hparams, ownNoticeLevelsSet_done lane g l he]
    rfl
  · have served : exec (.noticeClear lane) s = _ := serve_ready (ownNoticeClear lane) hready
    rw [served, hparams]
    simp only [ownNoticeClear, clearSetsOf_toList hsets]
    rfl
  · have served : exec (.noticeAccept lane) s = _ := serve_ready (ownNoticeAccept lane) hready
    rw [served, hparams]
    simp only [ownNoticeAccept, Notice.chosen_none hnone]
    rfl
  · have served : exec (.noticeAccept lane) s = _ := serve_ready (ownNoticeAccept lane) hready
    rw [served, hparams, ownNoticeAccept_done lane (Notice.chosen_of_highest hg hmax)]
    rfl
  · have served : exec (.noticeReturn lane) s = _ := serve_ready (ownNoticeReturn lane) hready
    rw [served, hparams]
    simp only [ownNoticeReturn, hnone]
    rfl
  · have served : exec (.noticeReturn lane) s = _ := serve_ready (ownNoticeReturn lane) hready
    rw [served, hparams]
    simp only [ownNoticeReturn, hsaved]
    rfl

theorem levelOf_none {b : Byte} (h : 7 < b.toNat) : levelOf b = none := dif_neg (by omega)

theorem levelOf_byte {l : Level} {b : Byte} (h : l.val = b.toNat) : levelOf b = some l := by
  rw [levelOf, dif_pos (h ▸ l.isLt)]
  exact congrArg some (Fin.ext h.symm)

theorem byteOf_level {l : Level} {b : Byte} (h : l.val = b.toNat) : byteOf l.val = b := by
  rw [h, byteOf, BitVec.ofNat_toNat, BitVec.setWidth_eq]

/-- NOTICE_MASK_SET of a level, inside a nest and outside. -/
theorem ownNoticeMaskSet_level (lane : LaneIx) {l : Level} {b : Byte} (h : l.val = b.toNat) (s : State) :
    (s.notices[lane].saved ≠ [] → ownNoticeMaskSet lane [b] s =
      ({ answer := .conflict, block := [byteOf s.notices[lane].saved.length, byteOf s.notices[lane].mask.val] }, s)) ∧
    (s.notices[lane].saved = [] → ownNoticeMaskSet lane [b] s =
      (Reply.done [byteOf s.notices[lane].mask.val, b], s.setNotice lane { s.notices[lane] with mask := l })) := by
  constructor
  · intro hs
    simp only [ownNoticeMaskSet, levelOf_byte h, if_neg hs]
  · intro hs
    simp only [ownNoticeMaskSet, levelOf_byte h, if_pos hs, byteOf_level h]

/-- Settles O58: the replies of NOTICE_MASK_SET's owner, and eligibility by its definition. -/
theorem maskSetOnlyOutsideANest : Obligations.MaskSetOnlyOutsideANest := by
  refine ⟨fun lane q s s0 b hready hparams => ?_, fun n l g => ?_, fun n g => ⟨rfl, rfl⟩⟩
  · have served : exec (.noticeMaskSet lane) s = _ := serve_ready (ownNoticeMaskSet lane) hready
    rw [served, hparams]
    refine ⟨fun h => ?_, fun h hs => ?_, fun l hl hs => ?_⟩
    · simp only [ownNoticeMaskSet, levelOf_none h]
      rfl
    · rw [(ownNoticeMaskSet_level lane (l := ⟨b.toNat, by omega⟩) rfl s0).1 hs]
      rfl
    · rw [(ownNoticeMaskSet_level lane hl s0).2 hs]
      rfl
  · simp only [Notice.eligible, Bool.and_eq_true, decide_eq_true_eq]
    rfl

/-! ### PHASE_SET (R149) and MATCH_CLEAR (R150) -/

theorem phaseOf_none {b : Byte} (h : 6 < b.toNat) : phaseOf b = none := by
  unfold phaseOf Phase.ofValue
  split <;> first | omega | rfl

theorem phaseOf_byte {b : Byte} {p : Phase} (h : p.value = b.toNat) : phaseOf b = some p := by
  rw [phaseOf, ← h]
  cases p <;> rfl

theorem exists_phase {b : Byte} (h : ¬ 6 < b.toNat) : ∃ p : Phase, p.value = b.toNat := by
  have : ∀ n, n ≤ 6 → ∃ p : Phase, p.value = n := by
    intro n hn
    interval_cases n
    exacts [⟨.pregame, rfl⟩, ⟨.firstHalf, rfl⟩, ⟨.halftime, rfl⟩, ⟨.secondHalf, rfl⟩, ⟨.extraTime, rfl⟩, ⟨.postgame, rfl⟩,
      ⟨.closed, rfl⟩]
  exact this _ (by omega)

theorem Phase.value_le (p : Phase) : p.value ≤ 6 := by cases p <;> decide

theorem byteOf_phase {b : Byte} {p : Phase} (h : p.value = b.toNat) : byteOf p.value = b := by
  rw [h, byteOf, BitVec.ofNat_toNat, BitVec.setWidth_eq]

/-- Settles O52: PHASE_SET's owner by how the named phase stands to the current one. -/
theorem phaseSetAdvances : Obligations.PhaseSetAdvances := by
  intro lane q s s0 b hready hparams
  have served : exec (.phaseSet lane) s = _ := serve_ready ownPhaseSet hready
  rw [served, hparams]
  have named (p : Phase) (h : p.value = b.toNat) : ownPhaseSet [b] s0 = s0.setPhase p := by
    simp only [ownPhaseSet, phaseOf_byte h]
  refine ⟨fun h => ?_, fun h => ?_, fun h => ?_, fun p hp hlt => ⟨fun hrun => ?_, fun hrun => ?_⟩⟩
  · simp only [ownPhaseSet, phaseOf_none h]
    rfl
  · obtain ⟨p, hp⟩ := exists_phase (b := b) (by have := s0.phase.value_le; omega)
    rw [named p hp, State.setPhase, if_pos (hp ▸ h)]
    rfl
  · rw [named s0.phase h.symm, State.setPhase, if_neg (lt_irrefl _), if_pos rfl]
    simp only [Reply.done, byteOf_phase h.symm]
    rfl
  · rw [named p hp, State.setPhase, if_neg (by omega), if_neg (by omega)]
    simp only [Reply.done, byteOf_phase hp, abandonedBytes, State.startExpirySweep, hrun]
    rfl
  · rw [named p hp, State.setPhase, if_neg (by omega), if_neg (by omega)]
    simp only [Reply.done, byteOf_phase hp, abandonedBytes, State.startExpirySweep, hrun]
    rfl

/-- Settles O53: MATCH_CLEAR's owner with an empty parameter block. -/
theorem matchClearEmptiesTheTables : Obligations.MatchClearEmptiesTheTables := by
  refine ⟨by decide, fun lane q s s0 hready hparams => ?_⟩
  have served : exec (.matchClear lane) s = _ := serve_ready ownMatchClear hready
  rw [served, hparams]
  rfl

end Sys2Proof.Machine
end

section
/-! PROOFS. The lanes: how requests arrive, what checks their service makes, and how an answer reaches its master (O43, O44, O45). -/

namespace Sys2Proof.Machine

/- The whole text is elaborated in one process: its proofs in turn, so that their threads' stacks stay within its memory. -/
set_option Elab.async false

/-! ### An event whose effect does nothing -/

theorem event_idle {s : State} {effect : State → State} (h : effect s = s) : event s effect = .next s := by
  rw [event, h, settle_same rfl, ite_self]

/-- A count or a step that touches no notice, where the device is not held in reset. -/
theorem event_effect {s u : State} {effect : State → State} (hr : s.inReset = false) (h : effect s = u)
    (hn : u.notices = s.notices) : event s effect = .next u := by
  rw [← h] at hn ⊢
  exact event_quiet hr hn

/-! ### Service (R157, R158) -/

/-- The command of a request kind serves that kind on its lane with the owner of the kind. -/
theorem exec_command (k : RequestKind) (lane : LaneIx) : ∃ owner, ∀ s, exec (k.command lane) s = serve lane k owner s := by
  cases k <;> exact ⟨_, fun _ => rfl⟩

theorem RequestKind.mem_all (k : RequestKind) : k ∈ RequestKind.all := by cases k <;> decide

theorem knownKind_iff (b : Byte) : knownKind b = true ↔ ∃ k : RequestKind, k.code = b := by
  simp only [knownKind, List.any_eq_true, beq_iff_eq]
  exact ⟨fun ⟨k, _, h⟩ => ⟨k, h⟩, fun ⟨k, h⟩ => ⟨k, k.mem_all, h⟩⟩

theorem service_denied {k : RequestKind} {lane : LaneIx} {s s0 : State} {q : Request} (hh : s.head lane = some (q, s0))
    (hk : q.kind = k.code) (hd : k.needs &&& ~~~s0.lanes[lane].rights ≠ 0#6) (owner : List Byte → State → Reply × State) :
    s.service lane k owner = ((s0.count (.lane lane .denied)).note .denied).respond lane
      (Reply.response { answer := .denied, block := [rightsByte (k.needs &&& ~~~s0.lanes[lane].rights)] } q) := by
  simp only [State.service, hh, if_pos hk, if_neg hd]

theorem service_other {k : RequestKind} {lane : LaneIx} {s : State} (h : ∀ q s0, s.head lane = some (q, s0) → q.kind ≠ k.code)
    (owner : List Byte → State → Reply × State) : s.service lane k owner = s := by
  unfold State.service
  split
  · rfl
  next q t hh => rw [if_neg (h q t hh)]

/-- Settles O44: the branches of a service, and of the refusal of an unknown kind. -/
theorem serviceChecksKindAndRights : Obligations.ServiceChecksKindAndRights := by
  refine ⟨fun lane s q s0 hr hh hk => ?_, fun k lane s q s0 hr hh hk hd => ?_, fun k lane s h => ?_, knownKind_iff⟩
  · dsimp only [exec, execUnknownRequestKind]
    rw [event_next _ hr]
    simp only [hh, hk, Bool.false_eq_true, if_false]
    rfl
  · obtain ⟨owner, ho⟩ := exec_command k lane
    rw [ho, serve, event_next _ hr, service_denied hh hk hd]
    rfl
  · obtain ⟨owner, ho⟩ := exec_command k lane
    rw [ho, serve, event_idle (service_other h owner)]

/-! ### Answers (R160, R161) -/

theorem respond_room {s : State} {x : Response} (h : s.responses.length < 8) :
    s.respond 0 x = { s with responses := s.responses ++ [x] } := by
  rw [State.respond, if_pos rfl]
  exact if_pos h

theorem respond_lost {s : State} {x : Response} (h : 8 ≤ s.responses.length) : s.respond 0 x = s.count (.lane 0 .lostResponses) := by
  rw [State.respond, if_pos rfl]
  exact if_neg (Nat.not_lt.mpr h)

theorem respond_trunk {s : State} {lane : LaneIx} (h : lane ≠ 0) (x : Response) :
    s.respond lane x = (s.emitTrunk lane (responseBody lane x)).count (.lane lane .responsesSent) := if_neg h

/-- Settles O45: a response by its lane, then a line evaluation that touches no queue, right, learnt address or response. -/
theorem answerReachesItsMaster : Obligations.AnswerReachesItsMaster := by
  intro s lane q a block owned t ht
  rw [ht]
  have frame := respond_frame owned lane { kind := q.kind, tag := q.tag, answer := a, block := block }
  have hl := frame .lanes (by decide)
  have hn := frame .notices (by decide)
  refine ⟨answered_frame s lane q a block owned, fun l => ?_, fun l => ?_, ?_, fun h => ⟨?_, ?_, ?_⟩⟩
  · rw [← hl]
    exact settle_laneQueue s.notices _ l
  · rw [answered, settle_notice, ← hn]
    split <;> rfl
  · rintro rfl h
    rw [answered, settle_responses, respond_room h]
  · rw [answered, settle_responses, respond_trunk h]
    rfl
  · rw [Counted, answered, settle_counter _ (by simp), respond_trunk h]
    exact count_counted _ _
  · obtain ⟨w, hw⟩ := (settle_lasting (owned.respond lane
      { kind := q.kind, tag := q.tag, answer := a, block := block }) s.notices).wire
    refine ⟨w, ?_⟩
    rw [answered, ← hw, respond_trunk h, State.count_wire, State.emitTrunk_wire, List.append_assoc]
    rfl

/-! ### Arrival (R155, R161, R176) -/

theorem arrive_room {s : State} {lane : LaneIx} {q : Request} (h : s.lanes[lane].queue.length < 8) :
    s.arrive lane q = { s with
      lanes := s.lanes.set lane { s.lanes[lane] with queue := s.lanes[lane].queue ++ [q] } }.count (.lane lane .requestsReceived) :=
  if_pos h

/-- A full lane's queue answers QUEUE_FULL (R155). -/
theorem arrive_full {s : State} {lane : LaneIx} {q : Request} (h : 8 ≤ s.lanes[lane].queue.length) :
    s.arrive lane q = (((s.count (.lane lane .requestsReceived)).count (.lane lane .queueFull)).note .laneOverflow).respond lane
      { kind := q.kind, tag := q.tag, answer := .queueFull, block := [] } :=
  if_neg (Nat.not_lt.mpr h)

theorem trunkLaneOf_misaddressed {b : Byte} (h : b = 0#8 ∨ 3 < b.toNat) : trunkLaneOf b = none := by
  unfold trunkLaneOf laneOf
  rcases h with rfl | h
  · decide
  · rw [dif_neg (by omega)]
    rfl

theorem trunkLaneOf_lane {l : LaneIx} (h : l ≠ 0) : trunkLaneOf (BitVec.ofNat 8 l.val) = some l := by
  simp [trunkLaneOf, Option.filter, h]

/-- The lane and the body type of a frame that a trunk lane does not take (R161). -/
theorem trunk_misaddressed {s : State} {src : Address} {b k : Byte} {rec : List Byte} (hr : s.inReset = false)
    (h : b = 0#8 ∨ 3 < b.toNat ∨ k ≠ 0#8) :
    exec (.trunkControlFrame true src (b :: k :: rec)) s = .next (s.count (.trunk .misaddressedFrames)) := by
  dsimp only [exec, execTrunkControlFrame]
  refine event_effect hr ?_ rfl
  rcases hl : trunkLaneOf b with _ | l
  · simp
  · have hk : k ≠ 0#8 := by
      rcases h with h | h | h
      · rw [trunkLaneOf_misaddressed (.inl h)] at hl; cases hl
      · rw [trunkLaneOf_misaddressed (.inr h)] at hl; cases hl
      · exact h
    simp [hk]

/-- A response counts a response sent on a trunk lane, or a lost one on lane 0, and nothing else. -/
theorem respond_counter (s : State) {lane : LaneIx} (x : Response) {c : Counter} (h1 : c ≠ .lane lane .responsesSent)
    (h2 : c ≠ .lane 0 .lostResponses) : (s.respond lane x).counter c = s.counter c := by
  unfold State.respond
  split
  · split
    · rfl
    · rw [count_counter, if_neg h2]
  · rw [count_counter, if_neg h1]; rfl

section
variable {s : State} {lane : LaneIx} {q : Request}

theorem arrive_full_lanes (h : 8 ≤ s.lanes[lane].queue.length) : (s.arrive lane q).lanes = s.lanes := by
  rw [arrive_full h, respond_lanes, State.note_lanes, State.count_lanes, State.count_lanes]

theorem arrive_full_noticed (h : 8 ≤ s.lanes[lane].queue.length) : Noticed (s.arrive lane q) .laneOverflow := by
  rw [arrive_full h]
  exact (respond_steady _ _ _).noticed (note_noticed _ _)

theorem arrive_full_counter (h : 8 ≤ s.lanes[lane].queue.length) {c : Counter} (h1 : c ≠ .lane lane .responsesSent)
    (h2 : c ≠ .lane 0 .lostResponses) :
    (s.arrive lane q).counter c = ((s.count (.lane lane .requestsReceived)).count (.lane lane .queueFull)).counter c := by
  rw [arrive_full h, respond_counter _ _ h1 h2]
  rfl

/-- What a QUEUE_FULL counts, after the line evaluation (R155). -/
theorem arrive_full_counted (h : 8 ≤ s.lanes[lane].queue.length) (before : Vector Notice 4) :
    Counted s ((s.arrive lane q).settle before) (.lane lane .requestsReceived) 1 ∧
      Counted s ((s.arrive lane q).settle before) (.lane lane .queueFull) 1 := by
  constructor
  · rw [Counted, settle_counter _ (by simp), arrive_full_counter h (by simp) (by simp), count_counter, if_neg (by simp),
      count_counter, if_pos rfl]
  · rw [Counted, settle_counter _ (by simp), arrive_full_counter h (by simp) (by simp), count_counter, if_pos rfl,
      count_counter, if_neg (by simp)]

end

/-- A QUEUE_FULL on lane 0 is placed in its list where that has room, and lost and counted where it has none. -/
theorem arrive_full_board {s : State} {q : Request} (h : 8 ≤ s.lanes[(0 : LaneIx)].queue.length) :
    (s.responses.length < 8 → (s.arrive 0 q).responses =
      s.responses ++ [{ kind := q.kind, tag := q.tag, answer := .queueFull, block := [] }]) ∧
    (8 ≤ s.responses.length → (s.arrive 0 q).responses = s.responses ∧
      (s.arrive 0 q).counter (.lane 0 .lostResponses) = min (s.counter (.lane 0 .lostResponses) + 1) Config.counterMax) := by
  rw [arrive_full h]
  have kept : (s.count (.lane 0 .requestsReceived)).counter (.lane 0 .lostResponses) = s.counter (.lane 0 .lostResponses) := by
    rw [count_counter, if_neg (by simp)]
  generalize hu : s.count (.lane 0 .requestsReceived) = u at kept ⊢
  have kept' : (u.count (.lane 0 .queueFull)).counter (.lane 0 .lostResponses) = s.counter (.lane 0 .lostResponses) := by
    rw [count_counter, if_neg (by simp), kept]
  have hr : (u.count (.lane 0 .queueFull)).responses = s.responses := hu ▸ rfl
  generalize u.count (.lane 0 .queueFull) = v at kept' hr ⊢
  refine ⟨fun hroom => ?_, fun hfull => ?_⟩
  · rw [respond_room (s := v.note .laneOverflow) (hr ▸ hroom), ← hr]
    rfl
  · rw [respond_lost (s := v.note .laneOverflow) (hr ▸ hfull), count_counter, if_pos rfl, ← kept']
    exact ⟨hr, rfl⟩

/-- A QUEUE_FULL on a trunk lane is one frame to the lane's master, and is counted. -/
theorem arrive_full_trunk {s : State} {lane : LaneIx} {q : Request} (h : 8 ≤ s.lanes[lane].queue.length) (hl : lane ≠ 0) :
    (s.arrive lane q).wire = s.wire ++ [.trunkFrame (s.lanes[lane].master.getD Config.broadcast)
      (responseBody lane { kind := q.kind, tag := q.tag, answer := .queueFull, block := [] })] ∧
    (s.arrive lane q).counter (.lane lane .responsesSent) =
      min (s.counter (.lane lane .responsesSent) + 1) Config.counterMax := by
  rw [arrive_full h, respond_trunk hl]
  constructor
  · simp only [State.count_wire, State.emitTrunk_wire, State.note_wire, State.note_lanes, State.count_lanes]
  · have kept : ((s.count (.lane lane .requestsReceived)).count (.lane lane .queueFull)).counter (.lane lane .responsesSent) =
        s.counter (.lane lane .responsesSent) := by
      rw [count_counter, if_neg (by simp), count_counter, if_neg (by simp)]
    rw [count_counter, if_pos rfl, ← kept]
    simp only [State.counter, State.emitTrunk_counters, State.note_counters]

theorem spiWriteRequest_full {bytes : List Byte} {s : State} {q : Request} (hr : s.inReset = false) (hq : requestOf bytes = some q)
    (h : 8 ≤ s.lanes[(0 : LaneIx)].queue.length) :
    ∃ t, exec (.spiWriteRequest bytes) s = .next t ∧ (∀ l : LaneIx, t.lanes[l].queue = s.lanes[l].queue) ∧ Noticed t .laneOverflow ∧
      Counted s t (.lane 0 .requestsReceived) 1 ∧ Counted s t (.lane 0 .queueFull) 1 ∧
      (s.responses.length < 8 →
        t.responses = s.responses ++ [{ kind := q.kind, tag := q.tag, answer := .queueFull, block := [] }]) ∧
      (8 ≤ s.responses.length → t.responses = s.responses ∧ Counted s t (.lane 0 .lostResponses) 1) := by
  have run : exec (.spiWriteRequest bytes) s = .next ((s.arrive 0 q).settle s.notices) := by
    dsimp only [exec, execSpiWriteRequest]
    rw [event_next _ hr]
    simp only [hq]
  obtain ⟨h1, h2⟩ := arrive_full_counted (q := q) h s.notices
  obtain ⟨hroom, hlost⟩ := arrive_full_board (q := q) h
  refine ⟨_, run, fun l => ?_, settle_noticed (arrive_full_noticed h), h1, h2, fun hl => ?_, fun hl => ?_⟩
  · rw [(settle_laneQueue s.notices _ l).1, arrive_full_lanes h]
  · rw [settle_responses]
    exact hroom hl
  · rw [Counted, settle_responses, settle_counter _ (by simp)]
    exact hlost hl

theorem trunkControlFrame_request {src : Address} {l : LaneIx} {rec : List Byte} {s : State} {q : Request} (hr : s.inReset = false)
    (hl : l ≠ 0) (hq : requestOf rec = some q) :
    exec (.trunkControlFrame true src (BitVec.ofNat 8 l.val :: 0#8 :: rec)) s =
      .next (((s.setLane l { s.lanes[l] with master := some src }).arrive l q).settle s.notices) := by
  dsimp only [exec, execTrunkControlFrame]
  rw [event_next _ hr]
  simp [trunkLaneOf_lane hl, hq]

theorem setLane_get (s : State) (l : LaneIx) (x : Lane) : (s.setLane l x).lanes[l] = x := by
  rw [State.setLane_lanes]
  exact Vector.getElem_set_self l.isLt

theorem trunkControlFrame_room {src : Address} {l : LaneIx} {rec : List Byte} {s : State} {q : Request} (hr : s.inReset = false)
    (hl : l ≠ 0) (hq : requestOf rec = some q) (h : s.lanes[l].queue.length < 8) :
    exec (.trunkControlFrame true src (BitVec.ofNat 8 l.val :: 0#8 :: rec)) s = .next ({ s with
      lanes := s.lanes.set l { s.lanes[l] with master := some src, queue := s.lanes[l].queue ++ [q] } }.count
        (.lane l .requestsReceived)) := by
  rw [trunkControlFrame_request hr hl hq, arrive_room (by rw [setLane_get]; exact h), setLane_get, State.setLane_lanes,
    Vector.set_set, settle_same (by rfl)]
  rfl

theorem trunkControlFrame_full {src : Address} {l : LaneIx} {rec : List Byte} {s : State} {q : Request} (hr : s.inReset = false)
    (hl : l ≠ 0) (hq : requestOf rec = some q) (h : 8 ≤ s.lanes[l].queue.length) :
    ∃ t, exec (.trunkControlFrame true src (BitVec.ofNat 8 l.val :: 0#8 :: rec)) s = .next t ∧
      t.lanes[l].queue = s.lanes[l].queue ∧ t.lanes[l].master = some src ∧ Noticed t .laneOverflow ∧
      Shown s t (.trunkFrame src (responseBody l { kind := q.kind, tag := q.tag, answer := .queueFull, block := [] })) ∧
      Counted s t (.lane l .queueFull) 1 ∧ Counted s t (.lane l .responsesSent) 1 := by
  have run := trunkControlFrame_request (src := src) hr hl hq
  generalize hu : s.setLane l { s.lanes[l] with master := some src } = u at run
  have hul : u.lanes[l] = { s.lanes[l] with master := some src } := hu ▸ setLane_get s l _
  have hfull : 8 ≤ u.lanes[l].queue.length := by rw [hul]; exact h
  have hwire : u.wire = s.wire := hu ▸ rfl
  have hcounters (c : Counter) : u.counter c = s.counter c := hu ▸ rfl
  refine ⟨_, run, ?_, ?_, settle_noticed (arrive_full_noticed hfull), ?_, ?_, ?_⟩
  · rw [(settle_laneQueue s.notices _ l).1, arrive_full_lanes hfull, hul]
  · rw [(settle_laneQueue s.notices _ l).2.2, arrive_full_lanes hfull, hul]
  · obtain ⟨w, hw⟩ := (settle_lasting (u.arrive l q) s.notices).wire
    refine ⟨[], w, ?_⟩
    rw [← hw, (arrive_full_trunk hfull hl).1, hul, hwire, List.append_nil, List.append_assoc]
    rfl
  · rw [Counted, ← hcounters]
    exact (arrive_full_counted hfull s.notices).2
  · rw [Counted, ← hcounters, settle_counter _ (by simp)]
    exact (arrive_full_trunk hfull hl).2

/-- Settles O43: the checks of an arriving request in their order, and the oldest response. -/
theorem requestsArriveAndResponsesAreRead : Obligations.RequestsArriveAndResponsesAreRead := by
  refine ⟨⟨fun bytes s hr hq => ?_, fun bytes s q hr hq h => ?_, fun bytes s q hr hq h => spiWriteRequest_full hr hq h,
    fun src body s hr => ?_, fun src s hr => ?_, fun src b rest s hr h => ?_, fun src l s hr h => ?_,
    fun src b k rec s hr h => trunk_misaddressed hr h, fun src l rec s hr h hq => ?_,
    fun src l rec s q hr h hq hroom => trunkControlFrame_room hr h hq hroom,
    fun src l rec s q hr h hq hfull => trunkControlFrame_full hr h hq hfull⟩, fun n s x rest hr h => ?_, fun n s hr h => ?_,
    fun c bytes s => rfl⟩
  · dsimp only [exec, execSpiWriteRequest]
    exact event_effect hr (by simp only [hq]) rfl
  · dsimp only [exec, execSpiWriteRequest]
    exact event_effect hr (by simp only [hq, arrive_room h]; rfl) rfl
  · exact event_effect (effect := fun s => _) hr rfl rfl
  · exact event_effect (effect := fun s => _) hr rfl rfl
  · dsimp only [exec, execTrunkControlFrame]
    exact event_effect hr (by simp [trunkLaneOf_misaddressed h]) rfl
  · dsimp only [exec, execTrunkControlFrame]
    exact event_effect hr (by simp [trunkLaneOf_lane h]) rfl
  · dsimp only [exec, execTrunkControlFrame]
    exact event_effect hr (by simp [trunkLaneOf_lane h, hq]) rfl
  · dsimp only [exec, execSpiReadResponse]
    exact event_effect hr (by simp only [h]; rfl) rfl
  · dsimp only [exec, execSpiReadResponse]
    have zero : be16 0 = [0#8, 0#8] := by decide
    refine event_effect hr ?_ rfl
    split
    · rw [zero]; rfl
    next hx => rw [h] at hx; cases hx

end Sys2Proof.Machine
end

section
/-! PROOFS. The requests on radio profiles, the seat map, the sector settings and the loading of passes (O46, O49, O51, O54), each
from what its owner replies. -/

namespace Sys2Proof.Machine

/- The whole text is elaborated in one process: its proofs in turn, so that their threads' stacks stay within its memory. -/
set_option Elab.async false

/-! ### What follows an owner, counted -/

/-- What an owner counts, its event counts: the service of the request and the line evaluation touch other counters. -/
theorem answered_counter (s : State) {lane : LaneIx} (q : Request) (a : Answer) (block : List Byte) (owned : State) {c : Counter}
    (h1 : ∀ l k, c ≠ .lane l k) : (answered s lane q a block owned).counter c = owned.counter c := by
  rw [answered, settle_counter _ (fun l => h1 l _), respond_counter _ _ (h1 _ _) (h1 _ _)]

theorem ready_counter {k : RequestKind} {lane : LaneIx} {q : Request} {s s0 : State} (h : Ready k lane q s s0) (c : Counter) :
    s0.counter c = s.counter c := by
  rw [State.counter, ready_frame h .counters (by decide), State.counter]

/-- A service changes what its owner changes and what every service changes. -/
theorem answered_changes {k : RequestKind} {lane : LaneIx} {q : Request} {s s0 owned : State} {fs : List Field}
    (hready : Ready k lane q s s0) (h : ChangesOnly fs s0 owned) (a : Answer) (block : List Byte) :
    ChangesOnly (fs ++ serviceFields) s (answered s lane q a block owned) := by
  refine ((ready_frame hready).mono ?_).trans ((h.mono (List.subset_append_left _ _)).trans
    ((answered_frame s lane q a block owned).mono (List.subset_append_right _ _)))
  intro f hf
  refine List.mem_append_right _ ?_
  revert hf; revert f; decide

/-! ### RADIO_PROFILE_SET (R41, R42) -/

theorem ownRadioProfileSet_params (r : RadioIx) (l : Byte) (refill cap bias : Half) (d : DetectMode) (strict : Bool) (s : State) :
    ownRadioProfileSet ([BitVec.ofNat 8 r.val, l] ++ be16 refill.toNat ++ be16 cap.toNat ++ be16 bias.toNat ++
      [BitVec.ofNat 8 d.ctorIdx, flagByte strict]) s =
      s.setProfile r l.toNat refill.toNat cap.toNat bias.toNat d strict := by
  conv_rhs => rw [← unsigned_be16 refill.isLt, ← unsigned_be16 cap.isLt, ← unsigned_be16 bias.isLt]
  simp only [be16_eq, List.cons_append, List.nil_append, ownRadioProfileSet, radioOf_byteOf, detectOf_ctorIdx, flagOf_flagByte]

/-- The clamped profile by its six fields (R41). -/
theorem eq_appliedProfile {p : Profile} {period limit refill cap bias : Nat} {d : DetectMode} {strict : Bool}
    (h1 : p.stationLimit = max 1 (min 255 limit)) (h2 : p.refill = min (min (period * 1000) 60000) refill)
    (h3 : p.cap = max p.refill (min 65535 cap)) (h4 : p.bias = min 1000 bias) (h5 : p.detect = d) (h6 : p.strict = strict) :
    appliedProfile period limit refill cap bias d strict = p := by
  obtain ⟨limit', refill', cap', bias', detect', strict'⟩ := p
  simp only at h1 h2 h3 h4 h5 h6
  simp only [appliedProfile, clampTo, Nat.zero_max, ← h2, ← h1, ← h3, ← h4, h5, h6]

/-- Settles O46: the clamped profile applied, or refused where the radio's count exceeds its limit. -/
theorem profileSetClampsAndApplies : Obligations.ProfileSetClampsAndApplies := by
  intro lane q s s0 r l refill cap bias d strict hready hparams p h1 h2 h3 h4 h5 h6
  have served : exec (.radioProfileSet lane) s = _ := serve_ready ownRadioProfileSet hready
  rw [served, hparams, ownRadioProfileSet_params, State.setProfile, eq_appliedProfile h1 h2 h3 h4 h5 h6]
  refine ⟨fun h => ?_, fun h credit hc => ?_⟩
  · rw [if_pos h]
    rfl
  · rw [if_neg h, hc]
    exact ⟨_, rfl⟩

/-! ### SEAT_MAP_WRITE (R104, R107) -/

theorem writeBlock_find (m : Table RadioIx) (b : Nat) (v : Option RadioIx) (k : Nat) :
    (writeBlock m b v).find k = if k = b then v else m.find k := by
  cases v with
  | none => exact Table.find_drop m b k
  | some r => exact Table.find_put m b k r

/-- Entries written in order: each block reads the value written to it, and the others read as before (R104). -/
theorem writeBlocks_find (values : List (Option RadioIx)) (m : Table RadioIx) (first k : Nat) :
    (writeBlocks m first values).find k =
      if first ≤ k ∧ k < first + values.length then values.getD (k - first) none else m.find k := by
  induction values generalizing m first with
  | nil => rw [writeBlocks, if_neg (by simp)]
  | cons v values ih =>
    rw [writeBlocks, ih, writeBlock_find, List.length_cons]
    by_cases hk : k = first
    · subst hk
      simp
    · by_cases hin : first ≤ k ∧ k < first + (values.length + 1)
      · obtain ⟨n, rfl⟩ : ∃ n, k = first + 1 + n := ⟨k - (first + 1), by omega⟩
        rw [if_pos (by omega), if_pos hin, show first + 1 + n - (first + 1) = n by omega,
          show first + 1 + n - first = n + 1 by omega, List.getD_cons_succ]
      · rw [if_neg (by omega), if_neg hk, if_neg hin]

theorem mapM_entryOf_length {bytes : List Byte} {values : List (Option RadioIx)} (h : bytes.mapM entryOf = some values) :
    values.length = bytes.length := by
  induction bytes generalizing values with
  | nil => simp at h; simp [h]
  | cons b bytes ih =>
    simp only [List.mapM_cons, Option.bind_eq_bind, Option.bind_eq_some_iff, Option.pure_def, Option.some.injEq] at h
    obtain ⟨x, -, xs, hxs, rfl⟩ := h
    simp [ih hxs]

theorem ownSeatMapWrite_params {first : Nat} {bytes : List Byte} (h1 : 1 ≤ bytes.length) (h2 : bytes.length ≤ 16)
    (h3 : first + bytes.length ≤ 1024) (s : State) :
    ownSeatMapWrite (be16 first ++ [BitVec.ofNat 8 bytes.length] ++ bytes) s =
      match bytes.mapM entryOf with
      | none => (Reply.badArg, s)
      | some vs => s.writeSeatMap first vs := by
  have hn : (BitVec.ofNat 8 bytes.length).toNat = bytes.length := ofNat8_toNat (by omega)
  have hf : unsigned [BitVec.ofNat 8 (first / 256), BitVec.ofNat 8 first] = first := unsigned_be16 (n := first) (by omega)
  simp only [be16_eq, List.cons_append, List.nil_append, ownSeatMapWrite, hn, hf]
  exact (if_pos ⟨trivial, (blocksOk_iff _ _).mpr ⟨h1, h2, h3⟩⟩).trans rfl

/-- A start of the zone sweep counts its start, and a restart where a run was under way (R107). -/
theorem startZoneSweep_counter (s : State) (c : Counter) :
    s.startZoneSweep.counter c =
      if c = .admission .sweepRestarts then
        if s.zoneSweep.running then min (s.counter c + 1) Config.counterMax else s.counter c
      else (s.count (.admission .sweepsStarted)).counter c := by
  have started (w : Sweep) (c : Counter) : ({ s with zoneSweep := w } : State).counter c = s.counter c := rfl
  unfold State.startZoneSweep
  dsimp only
  split <;> by_cases hc : c = .admission .sweepRestarts
  · rw [count_counter, if_pos hc, if_pos hc, count_counter, if_neg (by simp [hc]), started]
  · rw [count_counter, if_neg hc, if_neg hc, count_counter, count_counter, started]
  · rw [if_pos hc, count_counter, if_neg (by simp [hc]), started]
  · rw [if_neg hc, count_counter, count_counter, started]

/-- Settles O49: the entries by `writeBlocks`, the run by `startZoneSweep`. -/
theorem seatMapWriteStartsTheSweep : Obligations.SeatMapWriteStartsTheSweep := by
  intro lane q s s0 first bytes values hready h1 h2 h3 hparams
  have served : exec (.seatMapWrite lane) s = _ := serve_ready ownSeatMapWrite hready
  rw [served, hparams, ownSeatMapWrite_params h1 h2 h3]
  refine ⟨fun h => ?_, fun h => ?_⟩
  · rw [h]
    rfl
  · rw [h]
    have hmap : s0.seatMap = s.seatMap := ready_frame hready .seatMap (by decide)
    have hsweep : s0.zoneSweep = s.zoneSweep := ready_frame hready .zoneSweep (by decide)
    have hw : ((s0.writeSeatMap first values).2).seatMap = writeBlocks s.seatMap first values := by
      rw [State.writeSeatMap, State.count_seatMap, startZoneSweep_frame _ .seatMap (by decide), hmap]
    have counter (c : Counter) (hc : c ≠ .admission .seatMapWrites) : ((s0.writeSeatMap first values).2).counter c =
        ({ s0 with seatMap := writeBlocks s0.seatMap first values }.startZoneSweep).counter c := by
      rw [State.writeSeatMap, count_counter, if_neg hc]
    have last : ((s0.writeSeatMap first values).2).counter (.admission .seatMapWrites) = min
        (({ s0 with seatMap := writeBlocks s0.seatMap first values }.startZoneSweep).counter (.admission .seatMapWrites) + 1)
          Config.counterMax := by
      rw [State.writeSeatMap, count_counter, if_pos rfl]
    refine ⟨_, rfl, fun b => ?_, ?_, ?_, ?_, fun hrun => ?_, ?_⟩
    · rw [answered_frame _ _ _ _ _ _ .seatMap (by decide), hw, writeBlocks_find, mapM_entryOf_length h]
    · rw [answered_frame _ _ _ _ _ _ .zoneSweep (by decide)]
      exact startZoneSweep_zoneSweep _
    · rw [Counted, answered_counter _ _ _ _ _ (by simp), last, startZoneSweep_counter,
        if_neg (by simp), count_counter, if_neg (by simp), ← ready_counter hready]
      rfl
    · rw [Counted, answered_counter _ _ _ _ _ (by simp), counter _ (by simp), startZoneSweep_counter,
        if_neg (by simp), count_counter, if_pos rfl, ← ready_counter hready]
      rfl
    · rw [Counted, answered_counter _ _ _ _ _ (by simp), counter _ (by simp), startZoneSweep_counter,
        if_pos rfl, if_pos (hsweep ▸ hrun), ← ready_counter hready]
      rfl
    · refine (answered_changes hready (fs := [.seatMap, .zoneSweep, .counters]) ?_ _ _).mono (by decide)
      have set : ChangesOnly [.seatMap, .zoneSweep, .counters] s0 { s0 with seatMap := writeBlocks s0.seatMap first values } := by
        rintro (_ | _) h <;> first | rfl | simp at h
      exact (set.step (startZoneSweep_frame _)).step (count_frame _ _)

end Sys2Proof.Machine
end

section
/-! PROOFS. SECTOR_SET (O51) and PASS_LOAD (O54), each from what its owner replies. -/

namespace Sys2Proof.Machine

/- The whole text is elaborated in one process: its proofs in turn, so that their threads' stacks stay within its memory. -/
set_option Elab.async false

/-! ### SECTOR_SET (R138, R148) -/

theorem ownSectorSet_params (b : Byte) (v : Half) (s : State) :
    ownSectorSet (b :: be16 v.toNat) s =
      match settingOf b with
      | none => (Reply.badArg, s)
      | some k => s.setSector k v.toNat := by
  conv_rhs => rw [← unsigned_be16 v.isLt]
  rfl

/-- A setting other than the budget period clamps no radio. -/
theorem setSector_other {k : Setting} (hk : k ≠ .budgetPeriod) {n value : Nat} (hn : n = k.clamp value) (s : State) :
    s.setSector k value =
      (Reply.done ([byteOf k.ctorIdx] ++ be16 (s.settings.get k) ++ be16 n ++ [if n = value then 0#8 else 1#8]),
        { s with settings := s.settings.put k n }.count (.sector .settingsApplied)) := by
  have none_clamped : s.sectorClamps k n = [] := if_neg fun h => hk h.1
  simp only [State.setSector, ← hn, none_clamped, List.foldl_nil, if_neg hk, flagByte_bne, List.append_nil]

/-- The radios that a new budget period clamps, each once: refill and credit of those, and nothing of the others (R138). -/
theorem foldl_clampRadio (period : Nat) (rs : List RadioIx) (hn : rs.Nodup) (s : State) (r : RadioIx) :
    ((rs.foldl (State.clampRadio period) s).links[r] = if r ∈ rs then
        { s.links[r] with profile := { s.links[r].profile with refill := period * 1000 } } else s.links[r]) ∧
    ((rs.foldl (State.clampRadio period) s).credit[r] = if r ∈ rs then
        clampCredit (period * 1000) s.links[r].profile.cap s.credit[r] else s.credit[r]) := by
  induction rs generalizing s with
  | nil => exact ⟨rfl, rfl⟩
  | cons a rs ih =>
    obtain ⟨ha, hn⟩ := List.nodup_cons.mp hn
    obtain ⟨hl, hc⟩ := ih hn (s.clampRadio period a)
    rw [List.foldl_cons, hl, hc]
    have links : (s.clampRadio period a).links = s.links.set a
        { s.links[a] with profile := { s.links[a].profile with refill := period * 1000 } } := rfl
    have credit : (s.clampRadio period a).credit = s.credit.set a
        (clampCredit (period * 1000) s.links[a].profile.cap s.credit[a]) := rfl
    by_cases h : r = a
    · subst h
      rw [if_neg ha, if_neg ha, if_pos List.mem_cons_self, if_pos List.mem_cons_self, links, credit]
      exact ⟨Vector.getElem_set_self r.isLt, Vector.getElem_set_self r.isLt⟩
    · have hv : a.val ≠ r.val := fun e => h (Fin.ext e.symm)
      have hlr : (s.clampRadio period a).links[r] = s.links[r] := by rw [links]; exact Vector.getElem_set_ne a.isLt r.isLt hv
      have hcr : (s.clampRadio period a).credit[r] = s.credit[r] := by rw [credit]; exact Vector.getElem_set_ne a.isLt r.isLt hv
      simp only [hlr, hcr, List.mem_cons, h, false_or, and_self]

theorem mem_overRefilled {s : State} {period : Nat} {r : RadioIx} :
    r ∈ s.overRefilled period ↔ period * 1000 < s.links[r].profile.refill := by
  simp [State.overRefilled]

/-- The state that a SECTOR_SET of the budget period leaves (R138). -/
theorem setSector_budgetPeriod {n value : Nat} (hn : n = Setting.budgetPeriod.clamp value) (s : State) :
    ((s.setSector .budgetPeriod value).2).settings = { s.settings with budgetPeriod := n } ∧
    (s.settings.budgetPeriod = n → ((s.setSector .budgetPeriod value).2).links = s.links ∧
      ((s.setSector .budgetPeriod value).2).credit = s.credit) ∧
    (s.settings.budgetPeriod ≠ n → ∀ r : RadioIx,
      (s.links[r].profile.refill ≤ n * 1000 → ((s.setSector .budgetPeriod value).2).links[r] = s.links[r] ∧
        ((s.setSector .budgetPeriod value).2).credit[r] = s.credit[r]) ∧
      (n * 1000 < s.links[r].profile.refill →
        ((s.setSector .budgetPeriod value).2).links[r] =
          { s.links[r] with profile := { s.links[r].profile with refill := n * 1000 } } ∧
        ((s.setSector .budgetPeriod value).2).credit[r] = clampCredit (n * 1000) s.links[r].profile.cap s.credit[r])) := by
  have unfolded : (s.setSector .budgetPeriod value).2 = ((s.sectorClamps .budgetPeriod n).foldl (State.clampRadio n)
      { s with settings := { s.settings with budgetPeriod := n } }).count (.sector .settingsApplied) := by
    rw [hn]; rfl
  rw [unfolded]
  simp only [State.count_settings, State.count_links, State.count_credit, clampRadio_settings, true_and]
  refine ⟨fun h => ?_, fun h r => ?_⟩
  · rw [show s.sectorClamps .budgetPeriod n = [] from if_neg fun hc => hc.2 h.symm]
    exact ⟨rfl, rfl⟩
  · rw [show s.sectorClamps .budgetPeriod n = s.overRefilled n from if_pos ⟨rfl, fun hc => h hc.symm⟩]
    have nodup : (s.overRefilled n).Nodup := (List.nodup_finRange 64).filter _
    obtain ⟨hl, hc⟩ := foldl_clampRadio n _ nodup { s with settings := { s.settings with budgetPeriod := n } } r
    rw [hl, hc]
    simp only [mem_overRefilled]
    refine ⟨fun hle => ?_, fun hlt => ?_⟩
    · rw [if_neg (not_lt.mpr hle), if_neg (not_lt.mpr hle)]
      exact ⟨rfl, rfl⟩
    · rw [if_pos hlt, if_pos hlt]
      exact ⟨rfl, rfl⟩

theorem settingOf_none {b : Byte} (h : 3 < b.toNat) : settingOf b = none := by
  unfold settingOf
  split <;> first | omega | rfl

/-- Settles O51: each setting by `setSector`. -/
theorem sectorSetAppliesOneSetting : Obligations.SectorSetAppliesOneSetting := by
  intro lane q s s0 v hready clamped hclamped
  have served : exec (.sectorSet lane) s = _ := serve_ready ownSectorSet hready
  rw [served, hclamped]
  have named {b : Byte} {k : Setting} (hb : settingOf b = some k) (hp : q.params = b :: be16 v.toNat) :
      ownSectorSet q.params s0 = s0.setSector k v.toNat := by
    rw [hp, ownSectorSet_params, hb]
  refine ⟨fun n hn hp => ?_, fun n hn hp => ?_, fun n hn hp => ?_, fun n hn hp => ?_, fun b hb hp => ?_⟩
  · rw [named (k := .handoffTimeout) (by decide) hp, setSector_other (by decide) (by exact hn)]
    rfl
  · rw [named (k := .returnGuard) (by decide) hp, setSector_other (n := n) (by decide) (by rw [hn]; exact (Nat.zero_max _).symm)]
    rfl
  · rw [named (k := .orphanHold) (by decide) hp, setSector_other (by decide) (by exact hn)]
    rfl
  · have frame := ownSectorSet_frame s0 q.params
    rw [named (k := .budgetPeriod) (by decide) hp] at frame ⊢
    have hset : s0.settings = s.settings := ready_frame hready .settings (by decide)
    have hlinks : s0.links = s.links := ready_frame hready .links (by decide)
    have hcredit : s0.credit = s.credit := ready_frame hready .credit (by decide)
    obtain ⟨h1, h2, h3⟩ := setSector_budgetPeriod (by exact hn) s0
    have counted : ((s0.setSector .budgetPeriod v.toNat).2).counter (.sector .settingsApplied) =
        min (s0.counter (.sector .settingsApplied) + 1) Config.counterMax := by
      have kept (rs : List RadioIx) (p : Nat) (u : State) (c : Counter) :
          (rs.foldl (State.clampRadio p) u).counter c = u.counter c := by
        induction rs generalizing u with
        | nil => rfl
        | cons r rs ih => exact ih _
      rw [State.setSector, count_counter, if_pos rfl, kept]
      rfl
    rw [hset, hlinks, hcredit] at h2 h3
    rw [hset] at h1
    have answer := answered_frame s lane q (s0.setSector .budgetPeriod v.toNat).1.answer
      (s0.setSector .budgetPeriod v.toNat).1.block (s0.setSector .budgetPeriod v.toNat).2
    have aset := answer .settings (by decide)
    have alinks := answer .links (by decide)
    have acredit := answer .credit (by decide)
    refine ⟨_, rfl, aset.trans h1, ?_, fun h => ?_, fun h r => ?_, ?_⟩
    · rw [Counted, answered_counter _ _ _ _ _ (by simp), counted, ready_counter hready]
    · exact ⟨alinks.trans (h2 h).1, acredit.trans (h2 h).2⟩
    · rw [alinks, acredit]
      exact h3 h r
    · exact (answered_changes hready frame _ _).mono (by decide)
  · rw [hp, ownSectorSet_params, settingOf_none hb]
    rfl

/-! ### PASS_LOAD (R75, R76) -/

theorem passTierOf_some {t : Byte} (h1 : 1 ≤ t.toNat) (h3 : t.toNat ≤ 3) :
    ∃ tier, passTierOf t = some tier ∧ tier.ctorIdx = t.toNat ∧ tier ≠ .guest := by
  have ht : t = BitVec.ofNat 8 t.toNat := by simp
  rw [ht]
  generalize t.toNat = n at h1 h3
  interval_cases n
  · exact ⟨.general, rfl, rfl, by decide⟩
  · exact ⟨.club, rfl, rfl, by decide⟩
  · exact ⟨.suite, rfl, rfl, by decide⟩

/-- The checks of R75 that PASS_LOAD makes one by one pass exactly where its fields lie in their ranges. -/
theorem loadFault_none {t h w f u : Nat} : loadFault t h w f u = none ↔
    1 ≤ t ∧ t ≤ 3 ∧ 1 ≤ w ∧ w ≤ 16 ∧ h + w ≤ 1024 ∧ u ≤ 6 ∧ f ≤ u := by
  unfold loadFault
  split_ifs <;> simp <;> omega

theorem ownPassLoad_params (n : Word) (code home mask : Half) (t w f u : Byte) (s : State) :
    ownPassLoad (be32 n.toNat ++ be16 code.toNat ++ [t] ++ be16 home.toNat ++ [w] ++ be16 mask.toNat ++ [f, u]) s =
      match loadFault t.toNat home.toNat w.toNat f.toNat u.toNat with
      | some i => ({ answer := .badArg, block := [byteOf i] }, s)
      | none =>
        match passTierOf t, phaseOf f, phaseOf u with
        | some tier, some from_, some until_ =>
          s.loadPass { number := n, code := code, tier := tier, home := home.toNat, width := w.toNat, mask := mask,
                       validFrom := from_, validUntil := until_, state := loadState until_ s.phase, bound := [], mismatches := 0 }
        | _, _, _ => (Reply.badArg, s) := by
  have hn : BitVec.ofNat 32 (unsigned (be32 n.toNat)) = n := word_of_be32 n
  have hc : BitVec.ofNat 16 (unsigned (be16 code.toNat)) = code := half_of_be16 code
  have hm : BitVec.ofNat 16 (unsigned (be16 mask.toNat)) = mask := half_of_be16 mask
  have hh : unsigned (be16 home.toNat) = home.toNat := unsigned_be16 home.isLt
  rw [be32_eq] at hn
  rw [be16_eq] at hc hm hh
  simp only [be32_eq, be16_eq, List.cons_append, List.nil_append, ownPassLoad, hn, hc, hm, hh] <;> rfl

/-- A pass that fits, loaded into the lowest free slot and counted (R76). -/
theorem loadPass_free {s : State} {p : Pass} {slot : Nat} (hm : s.passMap.find p.number.toNat = none)
    (hf : s.passes.lowestFree 8192 = some slot) :
    ((s.loadPass p).2).passes = s.passes.put slot p ∧ ((s.loadPass p).2).passMap = s.passMap.put p.number.toNat slot ∧
      ((s.loadPass p).2).counter (.pass .loaded) = min (s.counter (.pass .loaded) + 1) Config.counterMax ∧
      (p.state = .expired →
        ((s.loadPass p).2).counter (.pass .loadedExpired) = min (s.counter (.pass .loadedExpired) + 1) Config.counterMax) := by
  have hf' : s.passes.lowestFree Config.passSlots = some slot := hf
  have loaded (c : Counter) : ({ s.setPass slot p with passMap := s.passMap.put p.number.toNat slot } : State).counter c =
    s.counter c := rfl
  simp only [State.loadPass, hm, hf']
  split
  · refine ⟨rfl, rfl, ?_, fun _ => ?_⟩
    · rw [count_counter, if_neg (by simp), count_counter, if_pos rfl, loaded]
    · rw [count_counter, if_pos rfl, count_counter, if_neg (by simp), loaded]
  next hs =>
    refine ⟨rfl, rfl, ?_, fun h => absurd h hs⟩
    rw [count_counter, if_pos rfl, loaded]

/-- Settles O54: PASS_LOAD by the checks of R75 and then by the pass map and the lowest free slot. -/
theorem passLoadFillsTheLowestSlot : Obligations.PassLoadFillsTheLowestSlot := by
  intro lane q s s0 n code home mask t w f u hready hparams ok hok
  have served : exec (.passLoad lane) s = _ := serve_ready ownPassLoad hready
  have frame := ownPassLoad_frame s0 q.params
  rw [served]
  rw [hparams, ownPassLoad_params] at frame ⊢
  rw [hok, ← loadFault_none]
  refine ⟨fun h => ?_, fun h slot hs => ?_, fun h hs hf => ?_, fun h slot hs hf => ?_⟩
  · obtain ⟨i, hi⟩ := Option.ne_none_iff_exists'.mp h
    rw [hi]
    exact ⟨_, rfl⟩
  all_goals
    obtain ⟨h1, h2, h3, h4, h5, h6, h7⟩ := loadFault_none.mp h
    obtain ⟨tier, htier, hidx, -⟩ := passTierOf_some h1 h2
    obtain ⟨from_, hfrom⟩ := exists_phase (b := f) (by omega)
    obtain ⟨until_, huntil⟩ := exists_phase (b := u) (by omega)
    rw [h, htier, phaseOf_byte hfrom, phaseOf_byte huntil] at frame ⊢
    dsimp only at frame ⊢
  · simp only [State.loadPass, hs]
    exact ⟨_, rfl⟩
  · have hf' : s0.passes.lowestFree Config.passSlots = none := hf
    simp only [State.loadPass, hs, hf']
    rfl
  · generalize hp : Pass.mk n code tier home.toNat w.toNat mask from_ until_ (loadState until_ s0.phase) [] 0 = p at frame ⊢
    have hnum : p.number = n := hp ▸ rfl
    have hphase : s0.phase = s.phase := ready_frame hready .phase (by decide)
    have hstate : p.state = if u.toNat < s.phase.value then .expired else .active := by
      rw [← hp, ← hphase, ← huntil]; rfl
    obtain ⟨hpasses, hmap, hloaded, hexpired⟩ := loadPass_free (p := p) (hnum ▸ hs) hf
    refine ⟨p, _, rfl, ?_, ?_, hnum, hp ▸ rfl, hp ▸ hidx, hp ▸ rfl, hp ▸ rfl, hp ▸ rfl, hp ▸ hfrom, hp ▸ huntil, hp ▸ rfl, hp ▸ rfl,
      hstate, ?_, fun hlt => ?_, ?_⟩
    · rw [answered_frame _ _ _ _ _ _ .passes (by decide), hpasses, ready_frame hready .passes (by decide)]
    · rw [answered_frame _ _ _ _ _ _ .passMap (by decide), hmap, hnum, ready_frame hready .passMap (by decide)]
    · rw [Counted, answered_counter _ _ _ _ _ (by simp), hloaded, ready_counter hready]
    · rw [Counted, answered_counter _ _ _ _ _ (by simp), hexpired (by rw [hstate, if_pos hlt]), ready_counter hready]
    · exact (answered_changes hready frame _ _).mono (by decide)

end Sys2Proof.Machine
end

section
/-! PROOFS. The requests that read back, and COUNTERS_CLEAR (O59). -/

namespace Sys2Proof.Machine

/- The whole text is elaborated in one process: its proofs in turn, so that their threads' stacks stay within its memory. -/
set_option Elab.async false

/-! ### What each owner answers to a block in form -/

theorem selectorParam_narrow {bytes : List Byte} {narrow : Nat} (wide : Nat) (h : bytes.length = narrow) :
    selectorParam narrow wide (0#8 :: bytes) = some (.inl (unsigned bytes)) := by
  simp [selectorParam, h]

theorem selectorParam_wide {bytes : List Byte} {wide : Nat} (narrow : Nat) (h : bytes.length = wide) :
    selectorParam narrow wide (1#8 :: bytes) = some (.inr (unsigned bytes)) := by
  simp [selectorParam, h]

theorem ownStationRead_index {ix : Nat} (h : ix < 65536) (s : State) :
    ownStationRead (0#8 :: be16 ix) s = if ix < 4096 then (Reply.done (s.stationRecord ix), s) else (Reply.badArg, s) := by
  rw [ownStationRead, selectorParam_narrow 6 (be16_length ix), unsigned_be16 h]
  rfl

theorem ownStationRead_address (a : Address) (s : State) :
    ownStationRead (1#8 :: be48 a) s =
      match s.lookup a with
      | none => (Reply.plain .notFound, s)
      | some ix => (Reply.done (s.stationRecord ix), s) := by
  rw [ownStationRead, selectorParam_wide 2 (be48_length a)]
  dsimp only
  rw [address_of_be48] <;> rfl

theorem ownPassRead_slot {slot : Nat} (h : slot < 65536) (s : State) :
    ownPassRead (0#8 :: be16 slot) s = if slot < 8192 then (Reply.done (s.slotRecord slot), s) else (Reply.badArg, s) := by
  rw [ownPassRead, selectorParam_narrow 4 (be16_length slot), unsigned_be16 h]
  rfl

theorem ownPassRead_number (n : Word) (s : State) :
    ownPassRead (1#8 :: be32 n.toNat) s =
      match s.passMap.find n.toNat with
      | none => (Reply.plain .notFound, s)
      | some slot => (Reply.done (s.slotRecord slot), s) := by
  rw [ownPassRead, selectorParam_wide 2 (be32_length _), unsigned_be32 n.isLt] <;> rfl

theorem ownRadioRead_radio (r : RadioIx) (s : State) :
    ownRadioRead [BitVec.ofNat 8 r.val] s = (Reply.done (s.radioRecord r), s) := by
  simp only [ownRadioRead, radioOf_byteOf]

theorem radioOf_none {b : Byte} (h : 64 ≤ b.toNat) : radioOf b = none := dif_neg (Nat.not_lt.mpr h)

theorem channelOf_none {b : Byte} (h : 16 ≤ b.toNat) : channelOf b = none := dif_neg (Nat.not_lt.mpr h)

theorem optionalParam_absent (n : Nat) (rest : List Byte) : optionalParam n (0#8 :: rest) = some (none, rest) := rfl

theorem optionalParam_present {n : Nat} {bytes : List Byte} (h : bytes.length = n) (rest : List Byte) :
    optionalParam n (1#8 :: (bytes ++ rest)) = some (some bytes, rest) := by
  subst h
  show (if bytes.length ≤ (bytes ++ rest).length then _ else none) = _
  rw [if_pos (by simp), List.take_left, List.drop_left]

theorem ownGroupRead_channel (c : ChannelIx) (s : State) :
    ownGroupRead [BitVec.ofNat 8 c.val, 0#8] s =
      (Reply.done (s.channels[c].record ++ [byteOf (s.groupRadios c).length] ++ (s.groupRadios c).map fun r => byteOf r.val), s) := by
  simp only [ownGroupRead, channelOf_byteOf, optionalParam_absent]

theorem ownGroupRead_group (c : ChannelIx) (r : RadioIx) (s : State) :
    ownGroupRead [BitVec.ofNat 8 c.val, 1#8, BitVec.ofNat 8 r.val] s =
      match s.group r c with
      | none => (Reply.plain .notFound, s)
      | some g => (Reply.done (s.channels[c].record ++ [byteOf g.delivery.ctorIdx, byteOf g.members.length] ++
          g.members.flatMap (s.memberRecord c)), s) := by
  have h : optionalParam 1 [1#8, BitVec.ofNat 8 r.val] = some (some [BitVec.ofNat 8 r.val], []) :=
    optionalParam_present (bytes := [_]) rfl []
  simp only [ownGroupRead, channelOf_byteOf, h, radioOf_byteOf] <;> rfl

/-- A channel byte above 15 is BAD_ARG, whatever follows it. -/
theorem ownGroupRead_badChannel {c : Byte} (h : 16 ≤ c.toNat) (rest : List Byte) (s : State) :
    ownGroupRead (c :: rest) s = (Reply.badArg, s) := by
  simp only [ownGroupRead, channelOf_none h]

theorem ownGroupRead_badRadio (c : Byte) {r : Byte} (h : 64 ≤ r.toNat) (s : State) :
    ownGroupRead [c, 1#8, r] s = (Reply.badArg, s) := by
  have hp : optionalParam 1 [1#8, r] = some (some [r], []) := optionalParam_present (bytes := [r]) rfl []
  rcases hc : channelOf c with _ | c
  · simp only [ownGroupRead, hc]
  · simp only [ownGroupRead, hc, hp, radioOf_none h]

theorem ownCountersRead_scope {p : List Byte} {k : Scope} (h : scopeOf p = some k) (s : State) :
    ownCountersRead p s = (Reply.done (s.scopeRecord k), s) := by
  simp only [ownCountersRead, h]

theorem ownCountersClear_scope {p : List Byte} {k : Scope} (h : scopeOf p = some k) (s : State) :
    ownCountersClear p s = (Reply.done (s.scopeRecord k), s.zero k.counters) := by
  simp only [ownCountersClear, h]

/-- A counter among those set to 0 reads 0, and every other one as before. -/
theorem zero_counter (s : State) (cs : List Counter) (c : Counter) :
    (s.zero cs).counter c = if c ∈ cs then 0 else s.counter c := by
  suffices ∀ t : Table Nat, ((cs.foldl (fun t d => t.drop d.key) t).find c.key).getD 0 =
      if c ∈ cs then 0 else (t.find c.key).getD 0 from this s.counters
  induction cs with
  | nil => intro t; rfl
  | cons d cs ih =>
    intro t
    rw [List.foldl_cons, ih, Table.find_drop]
    by_cases hd : c = d
    · simp [hd]
    · have hk : c.key ≠ d.key := fun h => hd (Counter.key_inj h)
      simp only [hk, if_false, List.mem_cons, hd, false_or]

/-! ### The statement -/

/-- Settles O59: each read by its block. -/
theorem readsReportAndChangeNothing : Obligations.ReadsReportAndChangeNothing := by
  refine ⟨fun lane q s s0 ix hready hix hparams => ?_, fun lane q s s0 a hready hparams => ⟨fun hnone => ?_, fun ix hsome => ?_⟩,
    fun lane q s s0 slot hready hslot hparams => ?_,
    fun lane q s s0 n hready hparams => ⟨fun hnone => ?_, fun slot hsome => ?_⟩,
    fun lane q s s0 r hready hparams => ?_, fun lane q s s0 c radios hready hparams hradios => ?_,
    fun lane q s s0 c r hready hparams => ⟨fun hnone => ?_, fun g hsome => ?_⟩, fun lane q s s0 hready hparams => ?_,
    fun lane q s s0 k hk => ⟨fun hready => ?_, fun hready => ?_⟩,
    fun lane q s s0 => ⟨fun hready ix h1 h2 hparams => ?_, fun hready slot h1 h2 hparams => ?_, fun hready b hb hparams => ?_,
      fun hready c r h hparams => ?_, fun hready c h hparams => ?_, fun hnone => ⟨fun hready => ?_, fun hready => ?_⟩⟩⟩
  · rw [show exec (.stationRead lane) s = _ from serve_ready ownStationRead hready, hparams, ownStationRead_index (by omega),
      if_pos hix]
    rfl
  · rw [show exec (.stationRead lane) s = _ from serve_ready ownStationRead hready, hparams, ownStationRead_address, hnone]
    rfl
  · rw [show exec (.stationRead lane) s = _ from serve_ready ownStationRead hready, hparams, ownStationRead_address, hsome]
    rfl
  · rw [show exec (.passRead lane) s = _ from serve_ready ownPassRead hready, hparams, ownPassRead_slot (by omega), if_pos hslot]
    rfl
  · rw [show exec (.passRead lane) s = _ from serve_ready ownPassRead hready, hparams, ownPassRead_number, hnone]
    rfl
  · rw [show exec (.passRead lane) s = _ from serve_ready ownPassRead hready, hparams, ownPassRead_number, hsome]
    rfl
  · rw [show exec (.radioRead lane) s = _ from serve_ready ownRadioRead hready, hparams, ownRadioRead_radio]
    rfl
  · rw [show exec (.groupRead lane) s = _ from serve_ready ownGroupRead hready, hparams, ownGroupRead_channel, hradios]
    rfl
  · rw [show exec (.groupRead lane) s = _ from serve_ready ownGroupRead hready, hparams, ownGroupRead_group, hnone]
    rfl
  · rw [show exec (.groupRead lane) s = _ from serve_ready ownGroupRead hready, hparams, ownGroupRead_group, hsome]
    rfl
  · rw [show exec (.sectorRead lane) s = _ from serve_ready ownSectorRead hready, hparams]
    simp only [ownSectorRead, State.sectorRecord, Sweep.record, List.append_assoc]
    rfl
  · rw [show exec (.countersRead lane) s = _ from serve_ready ownCountersRead hready, ownCountersRead_scope hk]
    rfl
  · rw [show exec (.countersClear lane) s = _ from serve_ready ownCountersClear hready, ownCountersClear_scope hk]
    exact ⟨_, rfl, zero_frame s0 _, fun c hc => by rw [zero_counter, if_pos hc], fun c hc => by rw [zero_counter, if_neg hc]⟩
  · rw [show exec (.stationRead lane) s = _ from serve_ready ownStationRead hready, hparams, ownStationRead_index h2,
      if_neg (Nat.not_lt.mpr h1)]
    rfl
  · rw [show exec (.passRead lane) s = _ from serve_ready ownPassRead hready, hparams, ownPassRead_slot h2,
      if_neg (Nat.not_lt.mpr h1)]
    rfl
  · rw [show exec (.radioRead lane) s = _ from serve_ready ownRadioRead hready, hparams]
    simp only [ownRadioRead, radioOf_none hb]
    rfl
  · rw [show exec (.groupRead lane) s = _ from serve_ready ownGroupRead hready, hparams]
    rcases h with h | h
    · rw [ownGroupRead_badChannel h]; rfl
    · rw [ownGroupRead_badRadio c h]; rfl
  · rw [show exec (.groupRead lane) s = _ from serve_ready ownGroupRead hready, hparams, ownGroupRead_badChannel h]
    rfl
  · rw [show exec (.countersRead lane) s = _ from serve_ready ownCountersRead hready]
    simp only [ownCountersRead, hnone]
    rfl
  · rw [show exec (.countersClear lane) s = _ from serve_ready ownCountersClear hready]
    simp only [ownCountersClear, hnone]
    rfl

end Sys2Proof.Machine
end

section
/-! PROOFS. Replay packets: their ingress, and the mode, the cost and the outcome of a group's decision (O39, O41, O42). -/

namespace Sys2Proof.Machine

/- The whole text is elaborated in one process: its proofs in turn, so that their threads' stacks stay within its memory. -/
set_option Elab.async false

/-! ### The mode (R130, R131) -/

/-- The lowest rate class of a fold lies below its start and every rate, and is one of them. -/
theorem foldl_lowest (m : List Recipient) (r : RateClass) :
    let low := m.foldl (fun r m => if m.rate < r then m.rate else r) r
    low ≤ r ∧ (∀ x ∈ m, low ≤ x.rate) ∧ (low = r ∨ ∃ x ∈ m, low = x.rate) := by
  induction m generalizing r with
  | nil => simp
  | cons x m ih =>
    obtain ⟨hle, hall, hex⟩ := ih (if x.rate < r then x.rate else r)
    have hx : (if x.rate < r then x.rate else r) ≤ r ∧ (if x.rate < r then x.rate else r) ≤ x.rate := by
      split
      next h => exact ⟨h.le, le_rfl⟩
      next h => exact ⟨le_rfl, not_lt.mp h⟩
    refine ⟨hle.trans hx.1, ?_, ?_⟩
    · rintro y hy
      rcases List.mem_cons.mp hy with rfl | hy
      · exact hle.trans hx.2
      · exact hall y hy
    · rcases hex with he | ⟨y, hy, he⟩
      · by_cases h : x.rate < r
        · exact .inr ⟨x, List.mem_cons_self, by rw [List.foldl_cons, he, if_pos h]⟩
        · exact .inl (by rw [List.foldl_cons, he, if_neg h])
      · exact .inr ⟨y, List.mem_cons_of_mem _ hy, he⟩

theorem lowestRate_le {m : List Recipient} {x : Recipient} (h : x ∈ m) : lowestRate m ≤ x.rate := (foldl_lowest m 11).2.1 x h

theorem lowestRate_mem {m : List Recipient} (h : m ≠ []) : ∃ x ∈ m, lowestRate m = x.rate := by
  rcases (foldl_lowest m 11).2.2 with he | hx
  · obtain ⟨x, hx⟩ := List.exists_mem_of_ne_nil m h
    have h1 : lowestRate m = 11 := he
    exact ⟨x, hx, le_antisymm (lowestRate_le hx) (h1 ▸ Fin.le_last x.rate)⟩
  · exact hx

theorem choosesUnicast_iff (length bias : Nat) (m : List Recipient) :
    choosesUnicast length bias m = true ↔ m.length ≤ 8 ∧ unicastTotal length m ≤ multicastCost length m + bias := by
  simp only [choosesUnicast, Bool.and_eq_true, decide_eq_true_eq]
  rfl

/-- Settles O42: by the choice of the mode. -/
theorem modeWeighsUnicastAgainstMulticast : Obligations.ModeWeighsUnicastAgainstMulticast := by
  intro c p bias m hm
  refine ⟨fun x hx => lowestRate_le hx, lowestRate_mem hm, rfl, rfl, fun h1 h2 => ?_, fun h => ?_⟩
  · have hu := (choosesUnicast_iff p.contents.length bias m).mpr ⟨h1, h2⟩
    exact ⟨if_pos hu, if_pos hu⟩
  · have hu : ¬ choosesUnicast p.contents.length bias m = true := by
      rw [choosesUnicast_iff]
      omega
    exact ⟨if_neg hu, if_neg hu⟩

/-! ### The groups of a channel -/

theorem groupKey_inj {r r' : RadioIx} {c c' : ChannelIx} : groupKey r c = groupKey r' c' ↔ r = r' ∧ c = c' := by
  simp only [groupKey, Fin.ext_iff]
  omega

/-- A group whose delivery state is written; every other group stands. -/
theorem deliver_group (s : State) (r r' : RadioIx) (c c' : ChannelIx) (d : Delivery) :
    (s.deliver r c d).group r' c' =
      if r' = r ∧ c' = c then (s.group r c).map fun g => { g with delivery := d } else s.group r' c' := by
  unfold State.deliver
  split
  next h =>
    split
    next he => rw [he.1, he.2, h]; rfl
    next => rfl
  next g h =>
    show Table.find (Table.put s.groups _ _) _ = _
    rw [Table.find_put]
    simp only [groupKey_inj, h]
    rfl

theorem mem_groupRadios {s : State} {r : RadioIx} {c : ChannelIx} : r ∈ s.groupRadios c ↔ (s.group r c).isSome = true := by
  simp [State.groupRadios]

/-- After a channel's skip every group of it is in SKIP_TO_KEY (R126). -/
theorem skipChannel_group (s : State) (r : RadioIx) (c c' : ChannelIx) :
    (s.skipChannel c).group r c' =
      if c' = c then (s.group r c').map fun g => { g with delivery := .skipToKey } else s.group r c' := by
  suffices ∀ (rs : List RadioIx) (u : State), (rs.foldl (fun s r => s.deliver r c .skipToKey) u).group r c' =
        if c' = c ∧ r ∈ rs then (u.group r c').map fun g => { g with delivery := .skipToKey } else u.group r c' by
    rw [State.skipChannel, this]
    simp only [mem_groupRadios]
    by_cases hc : c' = c
    · subst hc
      rcases hg : s.group r c' with _ | g <;> simp
    · simp [hc]
  intro rs
  induction rs with
  | nil => intro u; simp
  | cons a rs ih =>
    intro u
    rw [List.foldl_cons, ih, deliver_group]
    by_cases hc : c' = c
    · subst hc
      by_cases hr : r = a
      · subst hr
        cases u.group r c' <;> simp
      · simp [hr]
    · simp [hc]

/-! ### Ingress (R125, R126) -/

theorem gap_delta {s : State} {p : Packet} (h : p.cls = .delta) :
    s.gap p = (((s.count (.channel p.channel .sequenceGaps)).note .replaySequenceGap).skipChannel p.channel).count
      (.channel p.channel .gapDeltaDrops) := by
  simp only [State.gap, h]

theorem gap_key {s : State} {p : Packet} (h : p.cls = .key) :
    s.gap p = ((s.count (.channel p.channel .sequenceGaps)).note .replaySequenceGap).offer p := by
  simp only [State.gap, h]

/-- A gap of a packet of either class: counted and noticed, with no effect on the channels. -/
theorem gap_counted (s : State) (p : Packet) : Counted s (s.gap p) (.channel p.channel .sequenceGaps) 1 ∧
    Noticed (s.gap p) .replaySequenceGap ∧ (s.gap p).channels = s.channels ∧
    (s.gap p).counter (.channel p.channel .packetsReceived) = s.counter (.channel p.channel .packetsReceived) := by
  generalize hu : (s.count (.channel p.channel .sequenceGaps)).note .replaySequenceGap = u
  have hcount (c : Counter) : u.counter c = (s.count (.channel p.channel .sequenceGaps)).counter c := by
    rw [← hu]; rfl
  have hnote : Noticed u .replaySequenceGap := hu ▸ note_noticed _ _
  have hch : u.channels = s.channels := by rw [← hu, State.note_channels, State.count_channels]
  cases h : p.cls with
  | delta =>
    rw [gap_delta h, hu]
    have frame := skipChannel_frame u p.channel
    have hc (c : Counter) : (u.skipChannel p.channel).counter c = u.counter c := by
      rw [State.counter, frame .counters (by decide), State.counter]
    refine ⟨?_, ?_, ?_, ?_⟩
    · rw [Counted, count_counter, if_neg (by simp), hc, hcount]
      exact count_counted _ _
    · intro l
      rw [State.count_notices, frame .notices (by decide)]
      exact hnote l
    · rw [State.count_channels, frame .channels (by decide), hch]
    · rw [count_counter, if_neg (by simp), hc, hcount, count_counter, if_neg (by simp)]
  | key =>
    rw [gap_key h, hu]
    refine ⟨?_, hnote, hch, ?_⟩
    · show u.counter _ = _
      rw [hcount]
      exact count_counted _ _
    · show u.counter _ = _
      rw [hcount, count_counter, if_neg (by simp)]

theorem gap_delta_effect {s : State} {p : Packet} (h : p.cls = .delta) :
    (s.gap p).offers = s.offers ∧ Counted s (s.gap p) (.channel p.channel .gapDeltaDrops) 1 ∧
    ∀ r c, (s.gap p).group r c =
      if c = p.channel then (s.group r c).map fun g => { g with delivery := .skipToKey } else s.group r c := by
  generalize hu : (s.count (.channel p.channel .sequenceGaps)).note .replaySequenceGap = u
  have hcount (c : Counter) : u.counter c = (s.count (.channel p.channel .sequenceGaps)).counter c := by
    rw [← hu]; rfl
  have hgroups : u.groups = s.groups := by rw [← hu, State.note_groups, State.count_groups]
  have hoffers : u.offers = s.offers := by rw [← hu, State.note_offers, State.count_offers]
  rw [gap_delta h, hu]
  have frame := skipChannel_frame u p.channel
  refine ⟨?_, ?_, fun r c => ?_⟩
  · rw [State.count_offers, frame .offers (by decide), hoffers]
  · rw [Counted, count_counter, if_pos rfl, State.counter, frame .counters (by decide), ← State.counter, hcount, count_counter,
      if_neg (by simp)]
  · have hg (t : State) (c' : Counter) : (t.count c').group r c = t.group r c := rfl
    rw [hg, skipChannel_group, State.group, hgroups, ← State.group]

theorem gap_key_effect {s : State} {p : Packet} (h : p.cls = .key) :
    (s.gap p).groups = s.groups ∧ (s.gap p).offers = s.offers ++
      (s.groupRadios p.channel).map fun r => { radio := r, channel := p.channel, packet := p } := by
  rw [gap_key h]
  exact ⟨rfl, rfl⟩

theorem ingress_closed {s : State} {p : Packet} (h : s.channels[p.channel].state = .closed) :
    s.ingress p = (s.count (.replay .closedDrops)).note .closedChannel := if_pos h

theorem ingress_expected {s : State} {p : Packet} (h : s.channels[p.channel].state = .live)
    (hx : s.channels[p.channel].expected = none ∨ s.channels[p.channel].expected = some p.sequence) :
    s.ingress p = (s.takePacket p).offer p := by
  rw [State.ingress, if_neg (by rw [h]; decide)]
  rcases hx with hx | hx <;> simp only [hx, if_true]

theorem ingress_gap {s : State} {p : Packet} {x : Half} (h : s.channels[p.channel].state = .live)
    (hx : s.channels[p.channel].expected = some x) (hne : p.sequence ≠ x) :
    s.ingress p = if (p.sequence - x).toNat < 32768 then (s.takePacket p).gap p
      else s.count (.channel p.channel .stalePackets) := by
  rw [State.ingress, if_neg (by rw [h]; decide)]
  simp only [hx, if_neg hne]

/-- Settles O39: the checks of R125 in their order, and what a gap does. -/
theorem ingressFollowsTheSequence : Obligations.IngressFollowsTheSequence := by
  refine ⟨fun body s hr => ?_, fun body s hr hp => ?_, fun body s p hr hp => ?_⟩
  · dsimp only [exec, execReplayPacket]
    exact event_effect hr rfl rfl
  · dsimp only [exec, execReplayPacket]
    exact event_effect hr (by simp [hp]) rfl
  have taken_ingress : exec (.replayPacket true body) s = event s fun s => s.ingress p := by
    dsimp only [exec, execReplayPacket]
    simp [hp]
  rw [taken_ingress]
  refine ⟨fun hc => ?_, fun hl taken htaken => ⟨fun hx => ?_, fun x hx hne => ⟨fun hs => ?_, fun hg => ?_⟩⟩⟩
  · rw [event_next _ hr, ingress_closed hc]
  · refine (event_effect (u := (s.takePacket p).offer p) hr (ingress_expected hl hx) rfl).trans ?_
    rw [htaken]
    rfl
  · exact event_effect hr ((ingress_gap hl hx hne).trans (if_neg (Nat.not_lt.mpr hs))) rfl
  · have htake : s.takePacket p = taken := htaken.symm
    have frame : ChangesOnly [.channels, .counters] s taken := htake ▸ takePacket_frame s p
    have hcounter (c : Counter) (h : c ≠ .channel p.channel .packetsReceived) : taken.counter c = s.counter c := by
      rw [htaken, count_counter, if_neg h]
      rfl
    refine ⟨_, event_next _ hr, ?_⟩
    rw [(ingress_gap hl hx hne).trans (if_pos hg), htake]
    obtain ⟨hgap, hnoticed, hch, hrec⟩ := gap_counted taken p
    refine ⟨?_, ?_, ?_, settle_noticed hnoticed, fun hd => ?_, fun hk => ?_⟩
    · rw [settle_channels, hch]
    · rw [Counted, settle_counter _ (by simp), hrec, htaken]
      exact count_counted _ _
    · rw [Counted, settle_counter _ (by simp), hgap, hcounter _ (by simp)]
    · obtain ⟨hoffers, hdrops, hgroup⟩ := gap_delta_effect (s := taken) hd
      refine ⟨?_, ?_, fun r c => ?_⟩
      · rw [settle_offers, hoffers, frame .offers (by decide)]
      · rw [Counted, settle_counter _ (by simp), hdrops, hcounter _ (by simp)]
      · rw [State.group, settle_groups, ← State.group, hgroup, State.group, frame .groups (by decide), ← State.group]
    · obtain ⟨hgroups, hoffers⟩ := gap_key_effect (s := taken) hk
      have hradios : taken.groupRadios p.channel = s.groupRadios p.channel := by
        have hg : taken.groups = s.groups := frame .groups (by decide)
        simp only [State.groupRadios, State.group, hg]
      exact ⟨by rw [settle_groups, hgroups, frame .groups (by decide)],
        by rw [settle_offers, hoffers, frame .offers (by decide), hradios]⟩

/-! ### Decisions (R129 to R134) -/

/-- A station whose entry for a channel no longer awaits a key (R134). -/
def Station.keyed (c : ChannelIx) (st : Station) : Station :=
  { st with subs := st.subs.map fun e => if e.channel = c then { e with awaitingKey := false } else e }

theorem Station.keyed_keyed (c : ChannelIx) (st : Station) : (st.keyed c).keyed c = st.keyed c := by
  simp only [Station.keyed, List.map_map, Station.mk.injEq, true_and]
  refine List.map_congr_left fun e _ => ?_
  by_cases h : e.channel = c <;> simp [h]

theorem clearAwaiting_find (c : ChannelIx) (s : State) (i ix : Nat) :
    (State.clearAwaiting c s i).stations.find ix =
      (s.stations.find ix).map fun st => if ix = i then st.keyed c else st := by
  unfold State.clearAwaiting
  split
  next h =>
    by_cases hi : ix = i
    · rw [hi, h]; rfl
    · simp [hi]
  next st h =>
    rw [State.setStation_stations, Table.find_put]
    by_cases hi : ix = i
    · rw [hi, h]; simp [Station.keyed]
    · simp [hi]

/-- Awaiting key is cleared for each station listed (R134). -/
theorem foldl_clearAwaiting_find (c : ChannelIx) (l : List Nat) (s : State) (ix : Nat) :
    (l.foldl (State.clearAwaiting c) s).stations.find ix =
      (s.stations.find ix).map fun st => if ix ∈ l then st.keyed c else st := by
  induction l generalizing s with
  | nil => simp
  | cons i l ih =>
    rw [List.foldl_cons, ih, clearAwaiting_find, Option.map_map]
    congr 1
    funext st
    by_cases hi : ix = i <;> by_cases hl : ix ∈ l <;> simp [hi, hl, Station.keyed_keyed]

theorem deliver_eq {s : State} {r : RadioIx} {c : ChannelIx} {g : Group} (h : s.group r c = some g) (d : Delivery) :
    s.deliver r c d = { s with groups := s.groups.put (groupKey r c) { g with delivery := d } } := by
  simp only [State.deliver, h]

theorem creditAfter_none {p : Profile} {credit : Int} {cls : ReplayClass} {cost : Nat}
    (h : p.refill = 0 ∨ (credit < cost ∧ (cls = .delta ∨ credit - cost < -((p.refill / 2 : Nat) : Int)))) :
    creditAfter p credit cls cost = none := by
  unfold creditAfter
  rcases h with h | ⟨h1, h2⟩
  · exact if_pos h
  · have h3 : ¬ (cls = .key ∧ -((p.refill / 2 : Nat) : Int) ≤ credit - cost) := by
      rintro ⟨rfl, h⟩
      rcases h2 with h2 | h2
      · exact absurd h2 (by decide)
      · omega
    rw [if_neg (by omega : ¬ (cost : Int) ≤ credit), if_neg h3, ite_self]

theorem creditAfter_some {p : Profile} {credit : Int} {cls : ReplayClass} {cost : Nat} (h0 : p.refill ≠ 0)
    (h : (cost : Int) ≤ credit ∨ (cls = .key ∧ -((p.refill / 2 : Nat) : Int) ≤ credit - cost)) :
    creditAfter p credit cls cost = some (credit - cost) := by
  unfold creditAfter
  rw [if_neg h0]
  split
  · rfl
  next hc => rw [if_pos (h.resolve_left hc)]

theorem afterSend_frame (s : State) (r : RadioIx) (c : ChannelIx) (cls : ReplayClass) (m : List Recipient) :
    ChangesOnly [.groups, .stations] s (s.afterSend r c cls m) := by
  unfold State.afterSend
  split
  · exact .refl _ _
  · exact ((deliver_frame s r c .inStep).le).step (.foldl _ (fun s ix => clearAwaiting_frame s c ix) _ _)

/-- After a KEY the group is in step and no recipient awaits a key (R134). -/
theorem afterSend_key {s : State} {r : RadioIx} {c : ChannelIx} {g : Group} (hg : s.group r c = some g) (m : List Recipient) :
    (s.afterSend r c .key m).groups = s.groups.put (groupKey r c) { g with delivery := .inStep } ∧
    ∀ ix, (s.afterSend r c .key m).stations.find ix = (s.stations.find ix).map fun st =>
      if ix ∈ m.map Recipient.station then st.keyed c else st := by
  have hd := deliver_eq hg .inStep
  refine ⟨?_, fun ix => ?_⟩
  · have frame : ChangesOnly [.stations] (s.deliver r c .inStep) (s.afterSend r c .key m) :=
      .foldl _ (fun s ix => clearAwaiting_frame s c ix) _ _
    rw [frame .groups (by decide), hd]
  · rw [State.afterSend, foldl_clearAwaiting_find, hd]

/-- A send beside its counts (R133, R134). -/
theorem sendCopies_counted (s : State) (r : RadioIx) (c : ChannelIx) (p : Packet) (m : List Recipient) (credit : Int) :
    ChangesOnly [.counters]
      (((s.setCredit r credit).enqueue r (copies c p s.links[r].profile.bias m)).afterSend r c p.cls m)
      (s.sendCopies r c p m credit) ∧
    Counted s (s.sendCopies r c p m credit) (.airtime r .airtimeCharged)
      (decisionCost p.contents.length s.links[r].profile.bias m) ∧
    (s.credit[r] < decisionCost p.contents.length s.links[r].profile.bias m →
      Counted s (s.sendCopies r c p m credit) (.airtime r .keyBorrows) 1) := by
  unfold State.sendCopies
  dsimp only
  generalize ht : ((s.setCredit r credit).enqueue r (copies c p s.links[r].profile.bias m)).afterSend r c p.cls m = t
  have hc (d : Counter) : t.counter d = s.counter d := by
    rw [← ht, State.counter, afterSend_frame _ _ _ _ _ .counters (by decide)]
    rfl
  refine ⟨?_, ?_, fun h => ?_⟩
  · exact ((ChangesOnly.ite (.refl _ _) (count_frame _ _)).step (addTo_frame _ _ _)).step (count_frame _ _) |>.step
      (addTo_frame _ _ _)
  · rw [Counted, addTo_counter, if_neg (by simp), count_counter, if_neg (by simp; split <;> simp), addTo_counter, if_pos rfl]
    split
    · rw [hc]
    · rw [count_counter, if_neg (by simp), hc]
  · rw [if_neg (by omega), Counted, addTo_counter, if_neg (by simp), count_counter, if_neg (by simp; split <;> simp), addTo_counter,
      if_neg (by simp), count_counter, if_pos rfl, hc]

/-- What a send leaves (R133, R134): the credit, the queue, the offers; and for a KEY the group and its recipients. -/
theorem sendCopies_effect {s : State} {r : RadioIx} {c : ChannelIx} {p : Packet} {g : Group} (hg : s.group r c = some g)
    (m : List Recipient) (credit : Int) :
    (s.sendCopies r c p m credit).credit = s.credit.set r credit ∧
    (s.sendCopies r c p m credit).links =
      s.links.set r { s.links[r] with queue := s.links[r].queue ++ copies c p s.links[r].profile.bias m } ∧
    (p.cls = .key → (s.sendCopies r c p m credit).groups = s.groups.put (groupKey r c) { g with delivery := .inStep } ∧
      ∀ ix, (s.sendCopies r c p m credit).stations.find ix = (s.stations.find ix).map fun st =>
        if ix ∈ m.map Recipient.station then st.keyed c else st) ∧
    (p.cls = .delta → (s.sendCopies r c p m credit).groups = s.groups ∧ (s.sendCopies r c p m credit).stations = s.stations) := by
  have counted := (sendCopies_counted s r c p m credit).1
  have after := afterSend_frame ((s.setCredit r credit).enqueue r (copies c p s.links[r].profile.bias m)) r c p.cls m
  refine ⟨?_, ?_, fun hk => ?_, fun hd => ?_⟩
  · exact (counted .credit (by decide)).trans (after .credit (by decide))
  · exact (counted .links (by decide)).trans (after .links (by decide))
  · rw [counted .groups (by decide), counted .stations (by decide), hk]
    exact afterSend_key (s := (s.setCredit r credit).enqueue r (copies c p s.links[r].profile.bias m)) hg m
  · rw [counted .groups (by decide), counted .stations (by decide), hd]
    exact ⟨rfl, rfl⟩

/-- A decision that is due, for its group. -/
theorem groupDecision_due {s : State} {r : RadioIx} {c : ChannelIx} {k : Nat} {p : Packet} {rest : List Offer} {g : Group}
    (hr : s.inReset = false) (hp : takeOffer s.offers r c k = some (p, rest)) (hg : s.group r c = some g) :
    exec (.groupDecision r c k) s = .next (({ s with offers := rest }.decideGroup r c g p).settle s.notices) := by
  dsimp only [exec, execGroupDecision]
  rw [event_next _ hr]
  simp only [hp, hg]

/-- Settles O41: by the outcome of the decision. -/
theorem decisionSendsOrDrops : Obligations.DecisionSendsOrDrops := by
  intro r c k s p rest g hr hp hg s1 hs1 m hm cost hcost room hroom
  have hg1 : s1.group r c = some g := by rw [hs1]; exact hg
  have hrec : s1.recipients c p.cls g.members = m := by rw [hs1]; exact hm.symm
  have hlinks : s1.links = s.links := by rw [hs1]
  have hcredit : s1.credit = s.credit := by rw [hs1]
  have hnotices : s1.notices = s.notices := by rw [hs1]
  rw [groupDecision_due hr hp hg, ← hs1]
  have decided (h : ¬(p.cls = .delta ∧ g.delivery = .skipToKey)) (hne : m ≠ []) : s1.decideGroup r c g p = s1.decideFor r c p m := by
    rw [State.decideGroup, if_neg h, hrec, if_neg hne]
  have fits (h : (copies c p s.links[r].profile.bias m).length ≤ room) {x : Option Int}
      (hx : creditAfter s.links[r].profile s.credit[r] p.cls cost = x) :
      s1.decideFor r c p m = x.elim (s1.dropForBudget r c) (s1.sendCopies r c p m) := by
    rw [hcost] at hx
    rw [State.decideFor, hlinks, hcredit, State.room, hlinks, if_neg (by rw [hroom] at h; exact Nat.not_lt.mpr h)]
    cases x <;> simp only [hx, Option.elim]
  refine ⟨fun h1 h2 => ?_, fun h hnil => ?_, fun h hne hfull => ?_, fun h hne hfit hpoor => ?_, fun h hne hfit h0 hrich => ?_⟩
  · rw [State.decideGroup, if_pos ⟨h1, h2⟩, settle_same]
    exact hnotices
  · rw [State.decideGroup, if_neg h, hrec, if_pos hnil, settle_same]
    exact hnotices
  · rw [decided h hne, State.decideFor]
    rw [hlinks, State.room, hlinks, if_pos (by rw [hroom] at hfull; exact hfull), State.dropForRoom, deliver_eq hg1, hs1]
  · rw [decided h hne, fits hfit (creditAfter_none hpoor), Option.elim, State.dropForBudget, deliver_eq hg1, hs1]
  · rw [decided h hne, fits hfit (creditAfter_some h0 hrich), Option.elim]
    have frame := sendCopies_frame s1 r c p m (s.credit[r] - cost)
    have hquiet : (s1.sendCopies r c p m (s.credit[r] - cost)).notices = s.notices :=
      (frame .notices (by decide)).trans hnotices
    obtain ⟨hcr, hli, hkey, hdelta⟩ := sendCopies_effect hg1 m (s.credit[r] - cost) (p := p)
    obtain ⟨-, hcharged, hborrow⟩ := sendCopies_counted s1 r c p m (s.credit[r] - cost)
    rw [settle_same hquiet]
    rw [hlinks, ← hcost] at hcharged hborrow
    rw [hcredit] at hborrow hcr
    rw [hlinks] at hli
    have hs (x : Counter) : s1.counter x = s.counter x := by rw [hs1]; rfl
    refine ⟨_, rfl, hcr, hli, ?_, fun hk => ?_, fun hd => ?_, ?_, fun hb => ?_, hquiet⟩
    · rw [frame .offers (by decide), hs1]
    · obtain ⟨h1, h2⟩ := hkey hk
      exact ⟨by rw [h1, hs1], fun ix => by rw [h2, hs1]; rfl⟩
    · obtain ⟨h1, h2⟩ := hdelta hd
      exact ⟨by rw [h1, hs1], by rw [h2, hs1]⟩
    · rw [Counted, hcharged, hs]
    · rw [Counted, hborrow hb, hs]

end Sys2Proof.Machine
end

section
/-! PROOFS. Control messages: their bytes as the command they arrive as, and how one is numbered and injected (O20, O21). -/

namespace Sys2Proof.Machine

/- The whole text is elaborated in one process: its proofs in turn, so that their threads' stacks stay within its memory. -/
set_option Elab.async false

/-! ### The bytes of a head's message (section 11.3) -/

theorem withCrc_length (bytes : List Byte) : (withCrc bytes).length = bytes.length + 2 := by
  rw [withCrc, List.length_append, be16_length]

/-- A message with its own CRC in its last two bytes passes the CRC check where it is long enough (R177). -/
theorem crcFails_withCrc {bytes : List Byte} (h : 5 ≤ bytes.length) : crcFails (withCrc bytes) = false := by
  have hl := withCrc_length bytes
  rw [crcFails, hl, Nat.add_sub_cancel, withCrc, List.drop_left, List.take_left, unsigned_be16 (crc16 bytes).isLt]
  simp only [bne_self_eq_false, Bool.or_false, decide_eq_false_iff_not]
  omega

theorem payloadLength_le {kind : Byte} {p : Nat} (h : payloadLength kind = some p) : p ≤ 8 := by
  unfold payloadLength at h
  split at h <;> cases h <;> decide

theorem headMessage_eq (kind q : Byte) (st : Half) (payload : List Byte) :
    ∃ crc : List Byte, crc.length = 2 ∧ headMessage kind q st payload =
      kind :: q :: BitVec.ofNat 8 (st.toNat / 256) :: BitVec.ofNat 8 st.toNat :: byteOf payload.length :: (payload ++ crc) :=
  ⟨be16 _, be16_length _, rfl⟩

/-- A message of one of the nine kinds, with the payload length of its kind, arrives as the command of its fields. -/
theorem arrival_headMessage (r : RadioIx) {kind : Byte} (q : Byte) (st : Half) {payload : List Byte} {p : Nat}
    (hk : payloadLength kind = some p) (hp : payload.length = p) {i : Instr}
    (hm : messageOf r kind q st payload = some i) : arrival r (headMessage kind q st payload) = i := by
  have hcrc : crcFails (headMessage kind q st payload) = false :=
    crcFails_withCrc (by simp only [be16_eq, List.length_append, List.length_cons, List.length_nil]; omega)
  obtain ⟨crc, hl, hform⟩ := headMessage_eq kind q st payload
  have hst : halfOf [BitVec.ofNat 8 (st.toNat / 256), BitVec.ofNat 8 st.toNat] = st := half_of_be16 st
  have hlen : (byteOf payload.length).toNat = p := by
    have := payloadLength_le hk
    rw [byteOf_toNat (by omega), hp]
  have hshape : shapeFails (headMessage kind q st payload) = false := by
    simp only [hform, shapeFails, hk, hlen, List.length_cons, List.length_append, hl, bne_self_eq_false, Bool.false_or]
    rw [bne_eq_false_iff_eq, hp]
    omega
  have htake : (payload ++ crc).take ((payload ++ crc).length - 2) = payload := by
    rw [List.length_append, hl, Nat.add_sub_cancel, List.take_left]
  simp only [arrival, hcrc, hshape, Bool.false_eq_true, if_false]
  rw [hform]
  dsimp only
  rw [htake, hst, hm, Option.getD_some]

theorem take_be48 (a : Address) (rest : List Byte) : (be48 a ++ rest).take 6 = be48 a := by
  rw [← be48_length a, List.take_left]

theorem drop_be48 (a : Address) (rest : List Byte) : (be48 a ++ rest).drop 6 = rest := by
  rw [← be48_length a, List.drop_left]

theorem getD_be48 (a : Address) (rest : List Byte) (n : Nat) : (be48 a ++ rest).getD (6 + n) 0#8 = rest.getD n 0#8 := by
  rw [List.getD_append_right _ _ _ _ (by rw [be48_length]; omega), be48_length, Nat.add_sub_cancel_left]

theorem addressOf_be48 (a : Address) : addressOf (be48 a) = a := address_of_be48 a

/-- A kind with a payload length is one of the nine. -/
theorem messageOf_isSome {kind : Byte} {p : Nat} (h : payloadLength kind = some p) (r : RadioIx) (q : Byte) (st : Half)
    (payload : List Byte) : ∃ i, messageOf r kind q st payload = some i ∧ i.wellFormed = true := by
  unfold payloadLength at h
  unfold messageOf
  generalize kind.toNat = k at h ⊢
  split at h <;> cases h <;> exact ⟨_, rfl, rfl⟩

theorem exists_of_shape {bytes : List Byte} (h : shapeFails bytes = false) : ∃ kind q s1 s0 n rest,
    bytes = kind :: q :: s1 :: s0 :: n :: rest ∧ payloadLength kind = some n.toNat := by
  unfold shapeFails at h
  split at h
  next kind q s1 s0 n rest =>
    rw [Bool.or_eq_false_iff, bne_eq_false_iff_eq] at h
    exact ⟨kind, q, s1, s0, n, rest, rfl, h.1⟩
  next => cases h

/-- What arrives is a command whose operands fit its row. -/
theorem arrival_wellFormed (r : RadioIx) (bytes : List Byte) : (arrival r bytes).wellFormed = true := by
  unfold arrival
  split
  next h => exact h
  next h =>
    split
    next hs => simp [Instr.wellFormed, h, hs]
    next hs =>
      obtain ⟨kind, q, s1, s0, n, rest, rfl, hk⟩ := exists_of_shape (Bool.not_eq_true _ ▸ hs)
      obtain ⟨i, hi, hw⟩ := messageOf_isSome hk r q (halfOf [s1, s0]) (rest.take (rest.length - 2))
      dsimp only
      rw [hi]
      exact hw

/-- Settles O20: each message by its kind, its payload length and its fields. -/
theorem headMessagesArriveAsTheirCommands : Obligations.HeadMessagesArriveAsTheirCommands := by
  refine ⟨fun i r bytes h => ?_, arrival_wellFormed⟩
  cases i with
  | join r' q a c =>
    obtain ⟨rfl, rfl⟩ := Prod.mk.inj (Option.some.inj h)
    refine arrival_headMessage r' q _ rfl rfl ?_
    show some (Instr.join r' q (addressOf _) ((be48 a ++ [c]).getD (6 + 0) 0#8)) = _
    rw [take_be48, getD_be48, addressOf_be48]
    rfl
  | roam r' q a c f =>
    obtain ⟨rfl, rfl⟩ := Prod.mk.inj (Option.some.inj h)
    refine arrival_headMessage r' q _ rfl rfl ?_
    show some (Instr.roam r' q (addressOf _) ((be48 a ++ [c, f]).getD (6 + 0) 0#8) ((be48 a ++ [c, f]).getD (6 + 1) 0#8)) = _
    rw [take_be48, getD_be48, getD_be48, addressOf_be48]
    rfl
  | leave r' q st =>
    obtain ⟨rfl, rfl⟩ := Prod.mk.inj (Option.some.inj h)
    exact arrival_headMessage r' q st rfl rfl rfl
  | rate r' q st c =>
    obtain ⟨rfl, rfl⟩ := Prod.mk.inj (Option.some.inj h)
    exact arrival_headMessage r' q st rfl rfl rfl
  | claim r' q st p k =>
    obtain ⟨rfl, rfl⟩ := Prod.mk.inj (Option.some.inj h)
    refine arrival_headMessage r' q st rfl rfl ?_
    show some (Instr.claim r' q st (wordOf (be32 p.toNat)) (halfOf (be16 k.toNat))) = _
    rw [wordOf, word_of_be32, halfOf, half_of_be16]
  | subscribe r' q st c =>
    obtain ⟨rfl, rfl⟩ := Prod.mk.inj (Option.some.inj h)
    exact arrival_headMessage r' q st rfl rfl rfl
  | unsubscribe r' q st c =>
    obtain ⟨rfl, rfl⟩ := Prod.mk.inj (Option.some.inj h)
    exact arrival_headMessage r' q st rfl rfl rfl
  | released r' q st a n =>
    obtain ⟨rfl, rfl⟩ := Prod.mk.inj (Option.some.inj h)
    refine arrival_headMessage r' q st rfl rfl ?_
    show some (Instr.released r' q st (addressOf _) (halfOf _)) = _
    rw [take_be48, drop_be48, addressOf_be48, halfOf, half_of_be16]
  | keepalive r' q f =>
    obtain ⟨rfl, rfl⟩ := Prod.mk.inj (Option.some.inj h)
    exact arrival_headMessage r' q _ rfl rfl rfl
  | _ => cases h

/-! ### Sending (R36, R39, R40) -/

/-- A message that an arm's position does not reach is sent whole and counted by the arm (R39). -/
theorem send_counts {s : State} {r : RadioIx} {a : FaultArm} (m : ControlOut) (hu : s.links[r].state = .up)
    (ha : s.links[r].arm = some a) (hp : a.count + 1 ≠ a.position) :
    s.send r m = (s.transmit r { s.links[r] with arm := some { a with count := a.count + 1 } } m).count (.link r .messagesSent) := by
  unfold State.send
  dsimp only
  rw [if_pos hu, ha]
  exact if_neg hp

/-- A message that an arm's position reaches is acted on as the arm's kind says (R40). -/
theorem send_injects {s : State} {r : RadioIx} {a : FaultArm} (m : ControlOut) (hu : s.links[r].state = .up)
    (ha : s.links[r].arm = some a) (hp : a.count + 1 = a.position) :
    s.send r m = ((s.inject r { s.links[r] with arm := none } a.kind m).count (.link r .faultInjections)).count
      (.link r .messagesSent) := by
  unfold State.send
  dsimp only
  rw [if_pos hu, ha]
  exact if_pos hp

theorem inject_counters (s : State) (r : RadioIx) (l : SeatLink) (kind : FaultKind) (m : ControlOut) :
    (s.inject r l kind m).counters = s.counters := by
  cases kind <;> rfl

theorem header_length (m : ControlOut) (q : Byte) : 5 ≤ (m.header q).length := by
  simp only [ControlOut.header, be16_eq, List.length_append, List.length_cons, List.length_nil]
  omega

/-- A message with a wrong CRC keeps its bytes before it, and fails the CRC check (R40). -/
theorem crcFails_damaged (m : ControlOut) (q : Byte) (draw : Nat) :
    (m.damaged q draw).take ((m.damaged q draw).length - 2) = m.header q ∧ crcFails (m.damaged q draw) = true := by
  have hl : (m.damaged q draw).length = (m.header q).length + 2 := by rw [ControlOut.damaged, List.length_append, be16_length]
  have htake : (m.damaged q draw).take ((m.header q).length) = m.header q := by rw [ControlOut.damaged, List.take_left]
  refine ⟨by rw [hl, Nat.add_sub_cancel, htake], ?_⟩
  rw [crcFails, hl, Nat.add_sub_cancel, htake, ControlOut.damaged, List.drop_left, unsigned_be16 (BitVec.isLt _)]
  have hd := (Config.crcDamage draw).isLt
  have hne : crc16 (m.header q) ^^^ BitVec.ofNat 16 ((Config.crcDamage draw).val + 1) ≠ crc16 (m.header q) := by
    intro h
    have h0 := congrArg (crc16 (m.header q) ^^^ ·) h
    simp only [← BitVec.xor_assoc, BitVec.xor_self, BitVec.zero_xor] at h0
    have := congrArg BitVec.toNat h0
    simp only [BitVec.toNat_ofNat] at this
    omega
  rw [Bool.or_eq_true]
  exact .inr (bne_iff_ne.mpr fun h => hne (BitVec.eq_of_toNat_eq h))

/-- Settles O21: a message by its link's state and its arm. -/
theorem messagesAreNumberedAndInjected : Obligations.MessagesAreNumberedAndInjected := by
  refine fun s r m => ⟨send_down m, send_up m, fun a hu ha hp => send_counts m hu ha hp, fun a hu ha hp => ?_⟩
  rw [send_injects m hu ha hp]
  have hcount (c : Counter) : (s.inject r { s.links[r] with arm := none } a.kind m).counter c = s.counter c := by
    rw [State.counter, inject_counters, State.counter]
  refine ⟨?_, ?_, ?_, fun hk => ?_, fun hk => ?_, fun hk => ?_⟩
  · rw [State.count_links, State.count_links]
    cases hk : a.kind <;> rfl
  · rw [Counted, count_counter, if_neg (by simp), count_counter, if_pos rfl, hcount]
  · rw [Counted, count_counter, if_pos rfl, count_counter, if_neg (by simp), hcount]
  · rw [State.count_wire, State.count_wire, hk]
    rfl
  · rw [State.count_wire, State.count_wire, hk]
    rfl
  · rw [State.count_wire, State.count_wire, hk]
    exact ⟨_, rfl, crcFails_damaged m s.links[r].txSequence s.draws⟩

end Sys2Proof.Machine
end

section
/-! PROOFS. The timers, fan frames, carrier, samples and the requests on seat links (O25, O26, O27, O33, O47). -/

namespace Sys2Proof.Machine

/- The whole text is elaborated in one process: its proofs in turn, so that their threads' stacks stay within its memory. -/
set_option Elab.async false

/-! ### Timers (R136, R144, R146, R147) -/

/-- Settles O27: each timer by whether it is due. -/
theorem timersCountAndRefill : Obligations.TimersCountAndRefill := by
  refine ⟨fun s hr h => ?_, fun s hr h => ?_, fun s hr h => ?_, fun s h => ?_, fun r s hr h => ?_, fun r s h => ?_⟩
  · dsimp only [exec, execSectorTimeTick]
    exact event_effect hr (if_pos (show s.samplePosition + 1 < 100 by omega)) rfl
  · dsimp only [exec, execSectorTimeTick]
    exact event_effect hr (if_neg (show ¬ s.samplePosition + 1 < 100 by omega)) rfl
  · dsimp only [exec, execBudgetPeriodExpiry]
    exact event_effect hr (if_pos h) rfl
  · dsimp only [exec, execBudgetPeriodExpiry]
    exact event_idle (if_neg (by simp [h]))
  · dsimp only [exec, execRefill]
    exact event_effect hr (if_neg h) rfl
  · dsimp only [exec, execRefill]
    exact event_idle (if_pos h)

/-! ### Fan frames (R19 to R21, R63) -/

theorem downlink_unknown {s : State} {f : FanFrame} (hr : s.inReset = false) (h : s.mapped f.destination = none) :
    exec (.downlinkFanFrame f) s = .next (s.count (.station .downlinkUnknown)) := by
  dsimp only [exec, execDownlinkFanFrame]
  exact event_effect hr (by simp only [h]) rfl

/-- A downlink frame for a station that the address map names. -/
theorem downlink_mapped {s : State} {f : FanFrame} {ix : Nat} {st : Station} (hm : s.mapped f.destination = some (ix, st)) :
    exec (.downlinkFanFrame f) s = event s fun s =>
      match st.place with
      | .associated r _ =>
        if s.links[r].queue.length < Config.transmitQueue then (s.enqueue r [.fan f]).count (.station .downlinkForwarded)
        else s.count (.station .downlinkTransmitFull)
      | .handoff o n d p held => s.hold ix st o n d p held f
      | .orphan _ _ => s.count (.station .downlinkOrphan) := by
  dsimp only [exec, execDownlinkFanFrame]
  simp only [event, hm] <;> rfl

/-- Settles O33: a frame by where its station is. -/
theorem fanFramesFollowTheStation : Obligations.FanFramesFollowTheStation := by
  refine ⟨fun f s hr h => downlink_unknown hr h, fun f s ix st r p hr hm hp => ?_, fun f s ix st o n d p held hr hm hp => ?_,
    fun f s ix st o d hr hm hp => ?_, fun r f s ix st hr hm => ?_, fun r f s hr hm => ?_, fun r s e rest hr hq => ?_⟩
  · rw [downlink_mapped hm, hp]
    dsimp only
    split
    next h => exact event_effect hr (if_pos h) rfl
    next h => exact event_effect hr (if_neg h) rfl
  · rw [downlink_mapped hm, hp]
    dsimp only
    refine ⟨fun hd hf => ?_, fun hd hf => ?_, fun hd => ?_⟩
    · exact event_effect hr ((if_pos hd).trans (if_neg hf)) rfl
    · rw [event_next _ hr, State.hold, if_pos hd, if_pos hf]
    · exact event_effect hr (if_neg hd) rfl
  · rw [downlink_mapped hm, hp]
    exact event_effect hr rfl rfl
  · dsimp only [exec, execUplinkFanFrame]
    split
    next h => exact event_effect hr (by simp only [hm, h, if_true]; rfl) rfl
    next h => exact event_effect hr (by simp only [hm, h]; rfl) rfl
  · dsimp only [exec, execUplinkFanFrame]
    exact event_effect hr (by simp only [hm]) rfl
  · dsimp only [exec, execTransmitComplete]
    exact event_effect hr (by simp only [hq]; rfl) rfl

/-! ### What a message and a flush change of a link -/

theorem set_link_same (v : Vector SeatLink 64) (r : RadioIx) (l : SeatLink) : (v.set r l)[r] = l := by simp

theorem set_link_other (v : Vector SeatLink 64) {r r' : RadioIx} (h : r' ≠ r) (l : SeatLink) : (v.set r l)[r'] = v[r'] := by
  simp only [Fin.getElem_fin]
  exact Vector.getElem_set_ne _ _ fun he => h (Fin.ext he.symm)

theorem link_congr {s t : State} (h : t.links = s.links) (r : RadioIx) : t.links[r] = s.links[r] := by rw [h]

theorem inject_links (s : State) (r : RadioIx) (l : SeatLink) (kind : FaultKind) (m : ControlOut) :
    ∃ q, (s.inject r l kind m).links = s.links.set r { l with txSequence := q } := by
  cases kind <;> exact ⟨_, rfl⟩

/-- A message changes nothing of its link but its transmit sequence and its arm, and nothing of any other link. -/
theorem send_links (s : State) (r : RadioIx) (m : ControlOut) :
    ∃ q a, (s.send r m).links = s.links.set r { s.links[r] with txSequence := q, arm := a } ∧
      (a = s.links[r].arm ∨ a = none ∨ ∃ b, s.links[r].arm = some b ∧ b.count + 1 ≠ b.position ∧
        a = some { b with count := b.count + 1 }) := by
  by_cases hu : s.links[r].state = .up
  · rcases ha : s.links[r].arm with _ | b
    · rw [send_up m hu ha]
      exact ⟨_, none, by rw [← ha]; rfl, .inl rfl⟩
    · by_cases hp : b.count + 1 = b.position
      · rw [send_injects m hu ha hp]
        obtain ⟨q, hq⟩ := inject_links s r { s.links[r] with arm := none } b.kind m
        exact ⟨q, none, by rw [State.count_links, State.count_links, hq], .inr (.inl rfl)⟩
      · rw [send_counts m hu ha hp]
        exact ⟨_, _, rfl, .inr (.inr ⟨b, rfl, hp, rfl⟩)⟩
  · rw [send_down m hu]
    exact ⟨s.links[r].txSequence, s.links[r].arm, (Vector.set_getElem_self r.isLt).symm, .inl rfl⟩

theorem send_link_other (s : State) {r r' : RadioIx} (h : r' ≠ r) (m : ControlOut) : (s.send r m).links[r'] = s.links[r'] := by
  obtain ⟨q, a, hl, -⟩ := send_links s r m
  rw [hl, set_link_other _ h]

theorem sendAdmit_link_other (s : State) {r r' : RadioIx} (h : r' ≠ r) (ix : Nat) :
    (s.sendAdmit r ix).links[r'] = s.links[r'] := by
  unfold State.sendAdmit
  split
  · rfl
  · exact send_link_other s h _

theorem flush_links (s : State) (r : RadioIx) (held : List FanFrame) :
    (s.flush r held).links = s.links.set r
      { s.links[r] with queue := s.links[r].queue ++ (held.take (64 - s.links[r].queue.length)).map TxEntry.fan } := rfl

theorem flush_link_other (s : State) {r r' : RadioIx} (h : r' ≠ r) (held : List FanFrame) :
    (s.flush r held).links[r'] = s.links[r'] := by
  rw [flush_links, set_link_other _ h]

/-- The completion of a handoff touches the links with its ADMIT and its flush alone (R51). -/
theorem complete_links (s : State) (ix : Nat) (st : Station) (o n : RadioIx) (held : List FanFrame) :
    (s.complete ix st o n held).links = ((((s.setStation ix
      { st with place := .associated n (s.priorAfter o),
                subs := st.subs.map fun e => { e with awaitingKey := true } }).lowerCount o).sendAdmit n ix).flush n held).links := by
  rw [State.complete, State.count_links, repause_frame _ _ .links (by decide), State.addTo_links, joinGroups_links,
    leaveGroups_links]

theorem complete_link_other (s : State) (ix : Nat) (st : Station) (o : RadioIx) {n r : RadioIx} (h : r ≠ n) (held : List FanFrame) :
    (s.complete ix st o n held).links[r] = s.links[r] := by
  rw [complete_links, flush_link_other _ h, sendAdmit_link_other _ h]
  rfl

theorem abandonToOld_link_other (s : State) (ix : Nat) (st : Station) {o r : RadioIx} (n : RadioIx) (h : r ≠ o) (p : Option Prior)
    (held : List FanFrame) : (s.abandonToOld ix st o n p held).links[r] = s.links[r] := by
  rw [State.abandonToOld, State.count_links, sendAdmit_link_other _ h, flush_link_other _ h]
  rfl

theorem orphan_links (s : State) (ix : Nat) (st : Station) : (s.orphan ix st).links = s.links :=
  orphan_frame s ix st .links (by decide)

/-- What an exit of a link does to a station leaves that link's record (R60 to R62). -/
theorem exitStation_link (s : State) (r : RadioIx) (ix : Nat) : (State.exitStation r s ix).links[r] = s.links[r] := by
  unfold State.exitStation
  split
  · rfl
  next st _ =>
    split
    · split
      · exact link_congr (orphan_links s ix st) r
      · rfl
    next o n d p held _ =>
      split_ifs with h1 h2 h3
      · have hforce : (s.force ix st o n held false).links = (s.complete ix st o n held).links := by
          rw [State.force, State.note_links, State.count_links, if_neg Bool.false_ne_true]
        exact (link_congr hforce r).trans (complete_link_other s ix st o (Ne.symm h1.2.1) held)
      · exact abandonToOld_link_other s ix st n (Ne.symm h2.2.1) p held
      · exact link_congr ((discardHeld_frame _ _ .links (by decide)).trans ((lowerCounts_links _ _).trans (orphan_links s ix st))) r
      · rfl
    · rfl

/-- The exit of a link leaves its record, with an empty transmit queue (R29). -/
theorem exitUp_link (s : State) (r : RadioIx) : (s.exitUp r).links[r] = { s.links[r] with queue := [] } := by
  have hfold (l : List Nat) (t : State) : (l.foldl (State.exitStation r) t).links[r] = t.links[r] := by
    induction l generalizing t with
    | nil => rfl
    | cons ix l ih => rw [List.foldl_cons, ih, exitStation_link]
  unfold State.exitUp
  dsimp only
  rw [discardGroups_links, hfold]
  show (s.links.set r { s.links[r] with queue := [] })[r] = _
  rw [set_link_same]

/-! ### Carrier (R25, R31) -/

/-- Settles O25: by the link's state. -/
theorem carrierDrivesTheLink : Obligations.CarrierDrivesTheLink := by
  refine ⟨fun r s hr h => ?_, fun r s h => ?_, fun r s hr h => ?_, fun r s h => ?_, fun r s hr h => ?_⟩
  · dsimp only [exec, execCarrierAppear]
    rw [event_next _ hr]
    refine ⟨_, rfl, ?_⟩
    rw [if_pos h]
    generalize hl : s.setLink r
      { s.links[r] with state := .detected, carrier := true, sample := .none, filter := 0, rxSequence := 0, txSequence := 0,
                        keepaliveSeen := false, alertSeen := false, awaitingFirstUp := true } = u
    have hlinks : u.links = _ := hl ▸ State.setLink_links _ _ _
    have hcount : u.counter (.link r .carrierAppears) = s.counter (.link r .carrierAppears) := by rw [← hl]; rfl
    have hnotices : u.notices = s.notices := by rw [← hl]; rfl
    refine ⟨?_, ?_, fun hd => ?_, fun hd => ?_⟩
    · rw [settle_links, ← hlinks]
      split <;> rfl
    · rw [Counted, settle_counter _ (by simp), ← hcount]
      split <;> exact count_counted _ _
    · rw [if_pos hd]
      exact settle_noticed (note_noticed _ _)
    · rw [if_neg (by rw [hd]; decide), settle_same (hnotices ▸ rfl), State.count_notices, hnotices]
  · dsimp only [exec, execCarrierAppear]
    exact event_idle (if_neg h)
  · dsimp only [exec, execCarrierLoss]
    have habsent : s.links[r].state ≠ .absent := by rcases h with h | h <;> rw [h] <;> decide
    have hup : s.links[r].state ≠ .up := by rcases h with h | h <;> rw [h] <;> decide
    exact event_effect hr ((if_neg habsent).trans (if_neg hup)) rfl
  · dsimp only [exec, execCarrierLoss]
    exact event_idle (if_pos h)
  · dsimp only [exec, execCarrierLoss]
    rw [event_next _ hr]
    refine ⟨_, rfl, ?_⟩
    rw [if_neg (by rw [h]; decide), if_pos h]
    refine (link_congr (settle_links _ _) r).trans ((exitUp_link _ r).trans ?_)
    rw [State.count_links, State.setLink_links, set_link_same]

/-! ### Samples (R27, R28, R30) -/

theorem sampled_eq {l : SeatLink} {kind : SampleKind} {n : Nat} (hk : kind = if l.keepaliveSeen then SampleKind.good else .miss)
    (hn : n = if l.sample = kind then min (l.filter + 1) 3 else 1) :
    l.sampled = { l with keepaliveSeen := false, sample := kind, filter := n } := by
  rw [SeatLink.sampled, ← hk, ← hn]

/-- A due sample of a link with carrier. -/
theorem sampleExpiry_due {s : State} {r : RadioIx} (hr : s.inReset = false) (hd : s.samplesDue[r] ≠ 0)
    (h : s.links[r].state ≠ .absent) :
    exec (.sampleExpiry r) s = .next
      (({ s with samplesDue := s.samplesDue.set r (s.samplesDue[r] - 1) }.applyFilter r s.links[r].sampled).settle s.notices) := by
  dsimp only [exec, execSampleExpiry]
  rw [event_next _ hr, if_neg hd, if_neg h]

theorem applyFilter_keep {s : State} {r : RadioIx} {l : SeatLink}
    (h : (l.state = .up ∧ ¬(l.sample = .miss ∧ l.filter = 3)) ∨
      ((l.state = .detected ∨ l.state = .down) ∧ ¬(l.sample = .good ∧ l.filter = 3))) : s.applyFilter r l = s.setLink r l := by
  unfold State.applyFilter
  rcases h with ⟨h, hn⟩ | ⟨h | h, hn⟩ <;> simp only [h, if_neg hn]

theorem applyFilter_enters {s : State} {r : RadioIx} {l : SeatLink} (h : l.state = .detected ∨ l.state = .down)
    (hs : l.sample = .good) (hf : l.filter = 3) : s.applyFilter r l = s.enterUp r l := by
  unfold State.applyFilter
  rcases h with h | h <;> simp only [h, hs, hf, and_self, if_true]

theorem applyFilter_exits {s : State} {r : RadioIx} {l : SeatLink} (h : l.state = .up) (hs : l.sample = .miss) (hf : l.filter = 3) :
    s.applyFilter r l = (s.setLink r { l with state := .down, sample := .none, filter := 0 }).exitUp r := by
  unfold State.applyFilter
  simp only [h, hs, hf, and_self, if_true]

/-- The entry of a link to UP (R30, R31). -/
theorem enterUp_effect (s : State) (r : RadioIx) (l : SeatLink) :
    (s.enterUp r l).links = s.links.set r { l with state := .up, sample := .none, filter := 0, awaitingFirstUp := false } ∧
    Noticed (s.enterUp r l) .linkUp ∧ Counted s (s.enterUp r l) (.link r .linkUpEntries) 1 ∧
    (l.profile.detect = .onUp → l.awaitingFirstUp = true → Noticed (s.enterUp r l) .linkDetected) ∧
    ChangesOnly [.links, .notices, .counters] s (s.enterUp r l) := by
  unfold State.enterUp
  dsimp only
  generalize hu : s.setLink r { l with state := .up, sample := .none, filter := 0, awaitingFirstUp := false } = u
  have hlinks : u.links = _ := hu ▸ State.setLink_links _ _ _
  have hcount : u.counter (.link r .linkUpEntries) = s.counter (.link r .linkUpEntries) := by rw [← hu]; rfl
  have frame : ChangesOnly [.links] s u := hu ▸ setLink_frame s _ _
  have hup : Noticed ((u.note .linkUp).count (.link r .linkUpEntries)) .linkUp := note_noticed u .linkUp
  refine ⟨?_, ?_, ?_, fun h1 h2 => ?_, ?_⟩
  · rw [← hlinks]
    split <;> rfl
  · split
    · exact (note_steady _ _).noticed hup
    · exact hup
  · rw [Counted, ← hcount]
    split <;> exact count_counted (u.note .linkUp) _
  · rw [if_pos ⟨h1, h2⟩]
    exact note_noticed _ _
  · have h : ChangesOnly [.links, .notices, .counters] s ((u.note .linkUp).count (.link r .linkUpEntries)) :=
      (frame.le.step (note_frame _ _)).step (count_frame _ _)
    exact .ite (h.step (note_frame _ _)) h

/-- Settles O26: by the transition of the filter. -/
theorem samplesFilterTheLink : Obligations.SamplesFilterTheLink := by
  intro r s kind n hr hd hk hn
  have hsampled := sampled_eq hk hn
  refine ⟨fun h => ?_, fun h => ?_, fun h hgood h3 => ?_, fun h hmiss h3 => ?_⟩
  · dsimp only [exec, execSampleExpiry]
    exact event_effect hr ((if_neg hd).trans (if_pos h)) rfl
  · have habsent : s.links[r].state ≠ .absent := by rcases h with ⟨h, -⟩ | ⟨h | h, -⟩ <;> rw [h] <;> decide
    rw [sampleExpiry_due hr hd habsent, hsampled, applyFilter_keep h]
    exact congrArg _ (settle_same rfl)
  · have habsent : s.links[r].state ≠ .absent := by rcases h with h | h <;> rw [h] <;> decide
    rw [sampleExpiry_due hr hd habsent, hsampled,
      applyFilter_enters (l := { s.links[r] with keepaliveSeen := false, sample := kind, filter := n }) h hgood h3]
    generalize hu : ({ s with samplesDue := s.samplesDue.set r (s.samplesDue[r] - 1) } : State) = u
    have hcount : u.counter (.link r .linkUpEntries) = s.counter (.link r .linkUpEntries) := by rw [← hu]; rfl
    have hframe : ChangesOnly [.samplesDue] s u := by
      rw [← hu]
      rintro (_ | _) h <;> first | rfl | simp at h
    obtain ⟨hlinks, hnoticed, hcounted, hdetected, frame⟩ :=
      enterUp_effect u r { s.links[r] with keepaliveSeen := false, sample := kind, filter := n }
    refine ⟨_, rfl, ?_, ?_, settle_noticed hnoticed, ?_, fun h1 h2 => settle_noticed (hdetected h1 h2), ?_⟩
    · rw [settle_links, hlinks, ← hu]
    · rw [settle_samplesDue, frame .samplesDue (by decide), ← hu]
    · rw [Counted, settle_counter _ (by simp), hcounted, hcount]
    · exact (hframe.le.step frame).step (settle_frame _ _)
  · rw [sampleExpiry_due hr hd (by rw [h]; decide), hsampled,
      applyFilter_exits (l := { s.links[r] with keepaliveSeen := false, sample := kind, filter := n }) h hmiss h3]
    refine ⟨_, rfl, (link_congr (settle_links _ _) r).trans ((exitUp_link _ r).trans ?_)⟩
    rw [State.setLink_links, set_link_same]

/-! ### LINK_FAULT_ARM and LINK_RESTART (R39, R43) -/

theorem discardQueue_link (s : State) (r : RadioIx) : (s.discardQueue r).links[r] = { s.links[r] with queue := [] } := by
  show (s.links.set r { s.links[r] with queue := [] })[r] = _
  rw [set_link_same]

theorem ownLinkFaultArm_params (r : RadioIx) (k : FaultKind) {n : Nat} (h1 : 1 ≤ n) (h8 : n ≤ 8) (s : State) :
    ownLinkFaultArm [BitVec.ofNat 8 r.val, BitVec.ofNat 8 k.ctorIdx, BitVec.ofNat 8 n] s =
      (Reply.done (match s.links[r].arm with
          | none => [flagByte false]
          | some a => [flagByte true, byteOf a.kind.ctorIdx, byteOf a.position]),
        s.setLink r { s.links[r] with arm := some { kind := k, position := n, count := 0 } }) := by
  have hn : (BitVec.ofNat 8 n).toNat = n := ofNat8_toNat (by omega)
  simp only [ownLinkFaultArm, radioOf_byteOf, faultKindOf_ctorIdx, hn, h1, h8, and_self, if_true] <;> rfl

theorem faultKindOf_none {k : Byte} (h : 2 < k.toNat) : faultKindOf k = none := by
  unfold faultKindOf
  rw [if_neg (by rintro rfl; simp at h), if_neg (by rintro rfl; simp at h), if_neg (by rintro rfl; simp at h)]

theorem ownLinkFaultArm_refused (r : RadioIx) {k n : Byte} (h : 2 < k.toNat ∨ n.toNat = 0 ∨ 8 < n.toNat) (s : State) :
    ownLinkFaultArm [BitVec.ofNat 8 r.val, k, n] s = (Reply.badArg, s) := by
  simp only [ownLinkFaultArm, radioOf_byteOf]
  rcases hk : faultKindOf k with _ | kind
  · rfl
  · have h2 : ¬ 2 < k.toNat := fun h2 => by rw [faultKindOf_none h2] at hk; cases hk
    exact if_neg (by omega)

/-- A restarted link (R43): its record, its count, and "link detected" where its detect mode says so. -/
theorem restartLink_effect (s : State) (r : RadioIx) :
    (s.restartLink r).links[r] = { s.links[r] with
      state := (if s.links[r].carrier then .detected else .absent), sample := .none, filter := 0, keepaliveSeen := false,
      alertSeen := false, awaitingFirstUp := s.links[r].carrier, rxSequence := 0, txSequence := 0, arm := none, queue := [] } ∧
    (s.links[r].carrier = true → s.links[r].profile.detect = .onCarrier → Noticed (s.restartLink r) .linkDetected) := by
  unfold State.restartLink
  dsimp only
  generalize hu : (s.setLink r { s.links[r] with
    state := (if s.links[r].carrier then .detected else .absent), sample := .none, filter := 0, keepaliveSeen := false,
    alertSeen := false, awaitingFirstUp := s.links[r].carrier, rxSequence := 0, txSequence := 0, arm := none }).count
      (.link r .restarts) = u
  have hlink : u.links[r] = { s.links[r] with
      state := (if s.links[r].carrier then .detected else .absent), sample := .none, filter := 0, keepaliveSeen := false,
      alertSeen := false, awaitingFirstUp := s.links[r].carrier, rxSequence := 0, txSequence := 0, arm := none } := by
    rw [← hu, State.count_links, State.setLink_links, set_link_same]
  have hqueue : (if s.links[r].state = .up then u.exitUp r else u.discardQueue r).links[r] = { u.links[r] with queue := [] } := by
    split
    · exact exitUp_link u r
    · exact discardQueue_link u r
  rw [hlink] at hqueue
  generalize (if s.links[r].state = .up then u.exitUp r else u.discardQueue r) = v at hqueue
  refine ⟨?_, fun h1 h2 => ?_⟩
  · rw [← hqueue]
    split <;> rfl
  · rw [if_pos ⟨h1, h2⟩]
    exact note_noticed _ _

end Sys2Proof.Machine
end

section
/-! PROOFS. Which counters each shared operation can change, and LINK_RESTART with its count (O47). -/

namespace Sys2Proof.Machine

/- The whole text is elaborated in one process: its proofs in turn, so that their threads' stacks stay within its memory. -/
set_option Elab.async false

/-! ### Classes of counters -/

/-- The counters of control messages sent, injected and suppressed (R36, R40). -/
def Counter.sending : Counter → Bool
  | .link _ .messagesSent | .link _ .faultInjections | .link _ .suppressedMessages => true
  | _ => false

/-- The counters of groups created and discarded (R116). -/
def Counter.grouping : Counter → Bool
  | .replay .groupsCreated | .replay .groupsDiscarded => true
  | _ => false

/-- The counters that the end of a binding, or its reload, can change (R65, R99, R123). -/
def Counter.unbinding : Counter → Bool
  | .replay .pruned | .station .holdShrinkDrops | .admission .unbindings | .admission .reloads => true
  | c => c.grouping

/-- The counters that the completion of a handoff can change (R51, R66, R120). -/
def Counter.completing : Counter → Bool
  | .station .downlinkForwarded | .station .flushDrops | .station .handoffsCompleted | .replay .migrations => true
  | c => c.sending || c.grouping

/-- The counters that the exit of a link can change beside its own (R29). -/
def Counter.exiting : Counter → Bool
  | .station _ | .replay _ => true
  | c => c.sending

variable (s : State) {c : Counter}

theorem addTo_other {d : Counter} (h : c ≠ d) (n : Nat) : (s.addTo d n).counter c = s.counter c := by
  rw [addTo_counter, if_neg h]

theorem count_other {d : Counter} (h : c ≠ d) : (s.count d).counter c = s.counter c := addTo_other s h 1

theorem send_other (h : c.sending = false) (r : RadioIx) (m : ControlOut) : (s.send r m).counter c = s.counter c :=
  send_counter s m (by rintro rfl; cases h) (by rintro rfl; cases h) (by rintro rfl; cases h)

theorem sendAdmit_other (h : c.sending = false) (r : RadioIx) (ix : Nat) : (s.sendAdmit r ix).counter c = s.counter c := by
  unfold State.sendAdmit
  split
  · rfl
  · exact send_other s h r _

/-! ### Groups -/

theorem discardGroup_other (h : c.grouping = false) (r : RadioIx) (d : ChannelIx) :
    (s.discardGroup r d).counter c = s.counter c := by
  rw [State.discardGroup, count_other _ (by rintro rfl; cases h)]
  rfl

theorem joinGroup_other (h : c.grouping = false) (r : RadioIx) (d : ChannelIx) (ix : Nat) :
    (s.joinGroup r d ix).counter c = s.counter c := by
  unfold State.joinGroup
  split
  · rw [count_other _ (by rintro rfl; cases h)]
    rfl
  · rfl

theorem leaveGroup_other (h : c.grouping = false) (r : RadioIx) (d : ChannelIx) (ix : Nat) :
    (s.leaveGroup r d ix).counter c = s.counter c := by
  unfold State.leaveGroup
  split
  · rfl
  · split
    · exact discardGroup_other s h r d
    · rfl

theorem foldl_other {α : Type} {f : State → α → State} (h : ∀ s a, (f s a).counter c = s.counter c) (l : List α) (s : State) :
    (l.foldl f s).counter c = s.counter c := by
  induction l generalizing s with
  | nil => rfl
  | cons a l ih => rw [List.foldl_cons, ih, h]

theorem leaveGroups_other (h : c.grouping = false) (r : Option RadioIx) (es : List Subscription) (ix : Nat) :
    (s.leaveGroups r es ix).counter c = s.counter c := by
  unfold State.leaveGroups
  split
  · rfl
  · exact foldl_other (fun s e => leaveGroup_other s h _ _ _) es s

theorem joinGroups_other (h : c.grouping = false) (r : RadioIx) (es : List Subscription) (ix : Nat) :
    (s.joinGroups r es ix).counter c = s.counter c :=
  foldl_other (fun s _ => joinGroup_other s h _ _ _) es s

theorem discardGroups_other (h : c.grouping = false) (r : RadioIx) : (s.discardGroups r).counter c = s.counter c :=
  foldl_other (fun s d => by split; exacts [discardGroup_other s h r d, rfl]) _ s

/-! ### Handoffs -/

theorem counter_congr {s t : State} (h : t.counters = s.counters) (c : Counter) : t.counter c = s.counter c := by
  rw [State.counter, h, State.counter]

theorem discardHeld_other (h : c ≠ .station .holdDiscards) (held : List FanFrame) : (s.discardHeld held).counter c = s.counter c := by
  rw [State.discardHeld, addTo_other _ h]
  rfl

theorem flush_counter (r : RadioIx) (held : List FanFrame) :
    (s.flush r held).counter c =
      if c = .station .flushDrops then min (s.counter c + (held.length - (64 - s.links[r].queue.length))) Config.counterMax
      else if c = .station .downlinkForwarded then
        min (s.counter c + (held.take (64 - s.links[r].queue.length)).length) Config.counterMax
      else s.counter c := by
  rw [State.flush, counter_congr (returnBuffers_frame _ _ .counters (by decide)), addTo_counter]
  split
  next h =>
    rw [addTo_other _ (by rw [h]; decide), List.length_drop]
    rfl
  next h =>
    rw [addTo_counter]
    rfl

theorem flush_other (h : c.completing = false) (r : RadioIx) (held : List FanFrame) : (s.flush r held).counter c = s.counter c := by
  rw [flush_counter, if_neg (by rintro rfl; cases h), if_neg (by rintro rfl; cases h)]

theorem Counter.completing_parts (h : c.completing = false) : c.sending = false ∧ c.grouping = false := by
  unfold Counter.completing at h
  split at h
  · cases h
  · cases h
  · cases h
  · cases h
  · simpa using h

theorem complete_other (h : c.completing = false) (ix : Nat) (st : Station) (o n : RadioIx) (held : List FanFrame) :
    (s.complete ix st o n held).counter c = s.counter c := by
  obtain ⟨hs, hg⟩ := Counter.completing_parts h
  rw [State.complete, count_other _ (by rintro rfl; cases h), counter_congr (repause_frame _ _ .counters (by decide)),
    addTo_other _ (by rintro rfl; cases h), joinGroups_other _ hg, leaveGroups_other _ hg, flush_other _ h, sendAdmit_other _ hs]
  rfl

theorem Counter.exiting_parts (h : c.exiting = false) :
    c.completing = false ∧ c.sending = false ∧ c.grouping = false ∧ (∀ k, c ≠ .station k) ∧ ∀ k, c ≠ .replay k := by
  unfold Counter.exiting at h
  split at h
  · cases h
  · cases h
  next h1 h2 =>
    have hg : c.grouping = false := by
      unfold Counter.grouping
      split
      · exact absurd rfl (h2 _)
      · exact absurd rfl (h2 _)
      · rfl
    refine ⟨?_, h, hg, h1, h2⟩
    unfold Counter.completing
    split
    · exact absurd rfl (h1 _)
    · exact absurd rfl (h1 _)
    · exact absurd rfl (h1 _)
    · exact absurd rfl (h2 _)
    · rw [h, hg, Bool.or_false]

theorem orphan_other (hg : c.grouping = false) (h : c ≠ .station .orphaned) (ix : Nat) (st : Station) :
    (s.orphan ix st).counter c = s.counter c := by
  rw [State.orphan, count_other _ h, leaveGroups_other _ hg]
  rfl

theorem force_other (h : c.completing = false) (h1 : c ≠ .station .forcedCompletions) (ix : Nat) (st : Station) (o n : RadioIx)
    (held : List FanFrame) (withDrop : Bool) : (s.force ix st o n held withDrop).counter c = s.counter c := by
  rw [State.force, counter_congr (note_frame _ _ .counters (by decide)), count_other _ h1, complete_other _ h]
  split
  · exact send_other s (Counter.completing_parts h).1 _ _
  · rfl

theorem abandonToOld_other (h : c.completing = false) (h1 : c ≠ .station .abandonmentsToOld) (ix : Nat) (st : Station) (o n : RadioIx)
    (p : Option Prior) (held : List FanFrame) : (s.abandonToOld ix st o n p held).counter c = s.counter c := by
  rw [State.abandonToOld, count_other _ h1, sendAdmit_other _ (Counter.completing_parts h).1, flush_other _ h]
  rfl

theorem exitStation_other (h : c.exiting = false) (r : RadioIx) (ix : Nat) :
    (State.exitStation r s ix).counter c = s.counter c := by
  obtain ⟨hc, -, hg, hst, -⟩ := Counter.exiting_parts h
  unfold State.exitStation
  split
  · rfl
  next st _ =>
    split
    · split
      · rw [counter_congr (lowerCount_frame _ _ .counters (by decide)), orphan_other _ hg (hst _)]
      · rfl
    · split_ifs
      · exact force_other s hc (hst _) _ _ _ _ _ _
      · exact abandonToOld_other s hc (hst _) _ _ _ _ _ _
      · rw [discardHeld_other _ (hst _), counter_congr (lowerCounts_frame _ _ .counters (by decide)), orphan_other _ hg (hst _)]
      · rfl
    · rfl

/-- An exit of a link counts the exit and the frames it discards beside what it counts of its stations (R29). -/
theorem exitUp_counter (h : c.exiting = false) (r : RadioIx) (h1 : c ≠ .link r .transmitDiscards) :
    (s.exitUp r).counter c =
      if c = .link r .linkDownExits then min (s.counter c + 1) Config.counterMax else s.counter c := by
  unfold State.exitUp
  dsimp only
  rw [discardGroups_other _ (Counter.exiting_parts h).2.2.1, foldl_other (fun s ix => exitStation_other s h r ix)]
  show ((((s.note .linkDown).count (.link r .linkDownExits)).discardQueue r)).counter c = _
  rw [State.discardQueue, addTo_other _ h1]
  show ((s.note .linkDown).count (.link r .linkDownExits)).counter c = _
  rw [count_counter]
  rfl

theorem restartLink_restarts (r : RadioIx) : Counted s (s.restartLink r) (.link r .restarts) 1 := by
  unfold State.restartLink
  dsimp only
  generalize hu : (s.setLink r { s.links[r] with
    state := (if s.links[r].carrier then .detected else .absent), sample := .none, filter := 0, keepaliveSeen := false,
    alertSeen := false, awaitingFirstUp := s.links[r].carrier, rxSequence := 0, txSequence := 0, arm := none }).count
      (.link r .restarts) = u
  have hcount : u.counter (.link r .restarts) = min (s.counter (.link r .restarts) + 1) Config.counterMax := by
    rw [← hu, count_counter, if_pos rfl]
    rfl
  have hstep : (if s.links[r].state = .up then u.exitUp r else u.discardQueue r).counter (.link r .restarts) =
      u.counter (.link r .restarts) := by
    split
    · rw [exitUp_counter _ rfl _ (by simp), if_neg (by simp)]
    · rw [State.discardQueue, addTo_other _ (by simp)]
      rfl
  rw [hcount] at hstep
  generalize (if s.links[r].state = .up then u.exitUp r else u.discardQueue r) = v at hstep
  rw [Counted, ← hstep]
  split <;> rfl

/-- Settles O47: the arm and the restarted link, each by its owner. -/
theorem faultArmAndRestart : Obligations.FaultArmAndRestart := by
  refine ⟨fun lane q s s0 r k n hready h1 h8 hparams => ?_, fun lane q s s0 r k n hready hparams hbad => ?_,
    fun lane q s s0 r hready hparams => ?_⟩
  · rw [show exec (.linkFaultArm lane) s = _ from serve_ready ownLinkFaultArm hready, hparams, ownLinkFaultArm_params r k h1 h8]
    rfl
  · rw [show exec (.linkFaultArm lane) s = _ from serve_ready ownLinkFaultArm hready, hparams, ownLinkFaultArm_refused r hbad]
    rfl
  · have hlinks : s0.links = s.links := ready_frame hready .links (by decide)
    obtain ⟨hlink, hdetected⟩ := restartLink_effect s0 r
    have hcounted := restartLink_restarts s0 r
    rw [hlinks] at hlink hdetected
    rw [Counted, ready_counter hready] at hcounted
    have hown : ownLinkRestart [BitVec.ofNat 8 r.val] s0 =
        (Reply.done [byteOf s0.links[r].state.ctorIdx, byteOf (s0.restartLink r).links[r].state.ctorIdx], s0.restartLink r) := by
      simp only [ownLinkRestart, radioOf_byteOf]
    rw [show exec (.linkRestart lane) s = _ from serve_ready ownLinkRestart hready, hparams, hown]
    refine ⟨_, rfl, ?_, ?_, fun h1 h2 => ?_⟩
    · exact (link_congr (answered_frame _ _ _ _ _ _ .links (by decide)) r).trans hlink
    · rw [Counted, answered_counter _ _ _ _ _ (by simp), hcounted]
    · exact settle_noticed ((respond_steady _ _ _).noticed (hdetected h1 h2))

end Sys2Proof.Machine
end

section
/-! PROOFS. Power-on reset: what it starts with, and that every invariant holds then (O4, O5). -/

namespace Sys2Proof.Machine

/- The whole text is elaborated in one process: its proofs in turn, so that their threads' stacks stay within its memory. -/
set_option Elab.async false

variable (carrier : BitVec 64)

theorem group_powerOn (r : RadioIx) (c : ChannelIx) : (State.powerOn carrier).group r c = none := rfl

theorem powerOn_channel (c : ChannelIx) : (State.powerOn carrier).channels[c] = Channel.closed := by
  simp [State.powerOn]

theorem powerOn_stationCount (r : RadioIx) : (State.powerOn carrier).stationCount[r] = 0 := by
  simp [State.powerOn]

theorem powerOn_credit (r : RadioIx) : (State.powerOn carrier).credit[r] = 3000 := by
  simp [State.powerOn]

theorem powerOn_lane (l : LaneIx) : (State.powerOn carrier).lanes[l].queue = [] ∧ (State.powerOn carrier).lanes[l].armed = true ∧
    (State.powerOn carrier).lanes[l].master = none := by
  show powerOnLanes[l].queue = [] ∧ powerOnLanes[l].armed = true ∧ powerOnLanes[l].master = none
  revert l
  decide

/-- Every command but power-on reset and an ignored transaction is one event. -/
theorem exec_event {i : Instr} (h : ∀ e, i ≠ .powerOnReset e) (h2 : ∀ c b, i ≠ .spiOtherCommand c b) :
    ∃ effect, ∀ s, exec i s = event s effect := by
  cases i with
  | powerOnReset e => exact absurd rfl (h e)
  | spiOtherCommand c b => exact absurd rfl (h2 c b)
  | _ => exact ⟨_, fun _ => rfl⟩

/-- A command that arrives while the device is held in reset is lost (R152). -/
theorem exec_lost {i : Instr} {s : State} (hr : s.inReset = true) (h : ∀ e, i ≠ .powerOnReset e) : exec i s = .next s := by
  by_cases h2 : ∃ c b, i = .spiOtherCommand c b
  · obtain ⟨c, b, rfl⟩ := h2
    rfl
  · obtain ⟨effect, he⟩ := exec_event h fun c b hi => h2 ⟨c, b, hi⟩
    rw [he, event_lost effect hr]

/-- Settles O4: the state that the device leaves reset with, and what is lost while it is held. -/
theorem powerOnResetStartsEveryBlock : Obligations.PowerOnResetStartsEveryBlock := by
  refine ⟨fun s => rfl, fun s hr => ⟨?_, ?_, fun i h => exec_lost hr h⟩, fun carrier s => ?_⟩
  · simp [State.readyPin, hr]
  · simp [State.noticePin, hr]
  · refine ⟨_, rfl, rfl, rfl, rfl, powerOn_stationCount carrier, rfl, rfl, rfl, rfl, powerOn_channel carrier, rfl, rfl, fun r => ?_,
      rfl, rfl, rfl, rfl, rfl, rfl, rfl, rfl, rfl, rfl, rfl, rfl, powerOn_lane carrier, rfl, powerOn_notices carrier, rfl, ?_,
      fun c => rfl, rfl, rfl⟩
    · have hl := powerOn_link carrier r
      have hc := powerOn_credit carrier r
      dsimp only
      rw [hl, hc]
      exact ⟨rfl, rfl, rfl, rfl, rfl, rfl, rfl, rfl, rfl, rfl, rfl, rfl, rfl⟩
    · show (!false && (State.powerOn carrier).notices[(0 : LaneIx)].lineUp) = false
      rw [powerOn_notices]
      rfl

theorem powerOn_linksSound : (State.powerOn carrier).LinksSound := by
  refine ⟨fun r => ?_, fun e he => by cases he⟩
  rw [powerOn_link]
  cases carrier.getLsbD r.val <;> exact ⟨by decide, by decide, by decide, by decide, by simp [SeatLink.powerOn]⟩

theorem powerOn_inv : (State.powerOn carrier).Inv where
  canonical := ⟨rfl, rfl, rfl, rfl, rfl, rfl, rfl⟩
  keys := ⟨by simp [State.powerOn], by simp [State.powerOn], by simp [State.powerOn], by simp [State.powerOn]⟩
  addresses := ⟨by simp [State.powerOn], by simp [State.powerOn]⟩
  counts := fun r => by
    rw [powerOn_stationCount]
    exact ⟨rfl, Nat.zero_le _⟩
  bindings := ⟨by simp [State.powerOn], by simp [State.powerOn]⟩
  entitlements := by simp [State.EntitlementLaw, State.powerOn]
  subscriptions := by simp [State.SubscriptionLaw, State.powerOn]
  groups := ⟨fun r c => by simp [group_powerOn], by simp [State.powerOn]⟩
  profiles := fun r => by
    rw [powerOn_link]
    show Profile.default.InRange 10
    decide
  credits := fun r => by
    rw [powerOn_link, powerOn_credit]
    show -((Profile.default.refill / 2 : Nat) : Int) ≤ 3000 ∧ (3000 : Int) ≤ (Profile.default.cap : Int)
    decide
  holds := ⟨rfl, by simp [State.powerOn]⟩
  nests := powerOn_nestLaw carrier
  config := powerOn_configLaw carrier
  zones := by simp [State.ZoneLaw, State.powerOn]
  passMap := ⟨by simp [State.powerOn], by simp [State.powerOn]⟩
  passes := by simp [State.PassesInRange, State.powerOn]
  overdue := by simp [State.OverdueLaw, State.powerOn]
  sweeps := ⟨⟨show 0 < 8192 by decide, fun _ => rfl⟩, ⟨show 0 < 4096 by decide, fun _ => rfl⟩⟩
  closed := fun c _ => powerOn_channel carrier c
  queues := powerOn_queuesBounded carrier
  lines := powerOn_lineLaw carrier
  settings := show Settings.default.InRange by decide
  counters := by simp [State.CountersInRange, State.powerOn]
  links := powerOn_linksSound carrier

/-- Settles O5: each law of the state that reset leaves. -/
theorem everyLawHoldsAtReset : Obligations.EveryLawHoldsAtReset := ⟨rfl, powerOn_inv⟩

end Sys2Proof.Machine
end

section
/-! PROOFS. Sparse tables further: writes that follow each other, entries as reads, and the sum of a weight over the entries. -/

namespace Sys2Proof.Machine

/- The whole text is elaborated in one process: its proofs in turn, so that their threads' stacks stay within its memory. -/
set_option Elab.async false

namespace Table

variable {α β : Type}

/-! ### Writes that follow each other -/

theorem put_put (t : Table α) (k : Nat) (v w : α) : (Table.put t k v).put k w = Table.put t k w := by
  induction t with
  | nil => simp [Table.put]
  | cons e t ih =>
    obtain ⟨k', v'⟩ := e
    by_cases h1 : k < k'
    · simp [Table.put, h1]
    · by_cases h2 : k = k'
      · simp [Table.put, h2]
      · simp [Table.put, h1, h2, ih]

theorem drop_put (t : Table α) (k : Nat) (v : α) : (Table.put t k v).drop k = Table.drop t k := by
  induction t with
  | nil => simp [Table.put, Table.drop]
  | cons e t ih =>
    obtain ⟨k', v'⟩ := e
    rw [Table.put]
    split
    · simp [Table.drop]
    · split
      next h => simp [Table.drop, h]
      next h =>
        simp only [Table.drop, List.filter_cons] at ih ⊢
        rw [ih]

theorem put_same {t : Table α} {k : Nat} {v : α} (hw : t.wf = true) (h : t.find k = some v) : Table.put t k v = t :=
  Table.ext_of_find (Table.wf_put k v hw) hw fun j => by
    rw [Table.find_put]
    split
    next hj => rw [hj, h]
    next => rfl

/-! ### Entries as reads -/

theorem mem_iff_find {t : Table α} (hw : t.wf = true) (k : Nat) (v : α) : (k, v) ∈ t ↔ t.find k = some v :=
  ⟨Table.find_of_mem hw, Table.mem_of_find⟩

/-- What holds of every entry is what holds of every read. -/
theorem forall_iff {t : Table α} (hw : t.wf = true) {P : Nat → α → Prop} :
    (∀ e ∈ t, P e.1 e.2) ↔ ∀ k v, t.find k = some v → P k v :=
  ⟨fun h k v hf => h (k, v) (Table.mem_of_find hf), fun h e he => h e.1 e.2 (Table.find_of_mem hw he)⟩

theorem find_eq_none_of_lt {t : Table α} {k : Nat} (h : ∀ e ∈ t, k < e.1) : t.find k = none := by
  rcases hf : t.find k with _ | v
  · rfl
  · exact absurd (h _ (Table.mem_of_find hf)) (Nat.lt_irrefl k)

/-- Every key that is read lies in a range exactly when every key listed does. -/
theorem key_lt_of_find {t : Table α} {k n : Nat} {v : α} (h : ∀ e ∈ t, e.1 < n) (hf : t.find k = some v) : k < n :=
  h _ (Table.mem_of_find hf)

theorem keys_put {t : Table α} {k n : Nat} (v : α) (h : ∀ e ∈ t, e.1 < n) (hk : k < n) : ∀ e ∈ Table.put t k v, e.1 < n := by
  intro e he
  rcases Table.mem_put he with rfl | he
  · exact hk
  · exact h e he

theorem keys_drop {t : Table α} {n : Nat} (k : Nat) (h : ∀ e ∈ t, e.1 < n) : ∀ e ∈ Table.drop t k, e.1 < n :=
  fun e he => h e (Table.mem_drop.mp he).1

/-! ### Sums -/

/-- The sum of a weight over the entries of a table. -/
def total (f : α → Nat) (t : Table α) : Nat := (t.map fun e => f e.2).sum

/-- The weight of an entry that may be absent. -/
def weight (f : α → Nat) : Option α → Nat
  | none => 0
  | some v => f v

theorem total_cons (f : α → Nat) (e : Nat × α) (t : Table α) : total f (e :: t) = f e.2 + total f t := by
  simp [total]

/-- A write changes the sum by the weights of the entry before it and of the one written. -/
theorem total_put (f : α → Nat) {t : Table α} (hw : t.wf = true) (k : Nat) (v : α) :
    total f (Table.put t k v) + weight f (t.find k) = total f t + f v := by
  induction t with
  | nil => simp [Table.put, total, weight]
  | cons e t ih =>
    obtain ⟨k', v'⟩ := e
    obtain ⟨hlt, hwf⟩ := (Table.wf_cons k' v' t).mp hw
    rw [Table.put, Table.find_cons]
    dsimp only
    split
    next h1 =>
      have hnone : Table.find t k = none := find_eq_none_of_lt fun e he => h1.trans (hlt e he)
      rw [if_neg (Nat.ne_of_gt h1), hnone, total_cons]
      simp only [weight]
      omega
    next h1 =>
      split
      next h2 =>
        subst h2
        rw [if_pos rfl, total_cons, total_cons]
        simp only [weight]
        omega
      next h2 =>
        rw [if_neg (Ne.symm h2), total_cons, total_cons]
        have := ih hwf
        omega

theorem total_drop (f : α → Nat) {t : Table α} (hw : t.wf = true) (k : Nat) :
    total f (Table.drop t k) + weight f (t.find k) = total f t := by
  have h := total_put f (Table.wf_drop k hw)
  rcases hf : t.find k with _ | v
  · have hdrop : Table.drop t k = t := Table.ext_of_find (Table.wf_drop k hw) hw fun j => by
      rw [Table.find_drop]
      split
      next hj => rw [hj, hf]
      next => rfl
    rw [hdrop]
    rfl
  · have hput : (Table.drop t k).put k v = t := Table.ext_of_find (Table.wf_put k v (Table.wf_drop k hw)) hw fun j => by
      rw [Table.find_put, Table.find_drop]
      split
      next hj => rw [hj, hf]
      next => rfl
    have hd := h k v
    rw [hput, Table.find_drop, if_pos rfl] at hd
    simpa [weight] using hd.symm

theorem total_congr {f g : α → Nat} {t : Table α} (h : ∀ e ∈ t, f e.2 = g e.2) : total f t = total g t := by
  rw [total, total, List.map_congr_left h]

theorem total_map (f : β → Nat) (g : α → β) (t : Table α) : total f (t.map fun e => (e.1, g e.2)) = total (fun a => f (g a)) t := by
  simp [total, Function.comp_def]

/-- An entry's weight is at most the sum. -/
theorem weight_le_total (f : α → Nat) {t : Table α} (hw : t.wf = true) (k : Nat) : weight f (t.find k) ≤ total f t := by
  have := total_drop f hw k
  omega

end Table

/-! ### The sums that the laws speak of -/

/-- 1 for a station on a radio, 0 for one that is not. -/
def Station.load (r : RadioIx) (st : Station) : Nat := (st.isOn r).toNat

theorem stationsOn_length (s : State) (r : RadioIx) : (s.stationsOn r).length = Table.total (Station.load r) s.stations := by
  rw [State.stationsOn, List.length_map, Table.total, ← List.countP_eq_length_filter]
  induction s.stations with
  | nil => rfl
  | cons e t ih =>
    rw [List.countP_cons, List.map_cons, List.sum_cons, ← ih, Station.load]
    cases e.2.isOn r <;> simp [Nat.add_comm]

theorem heldFrames_eq (s : State) : s.heldFrames = Table.total (fun st => st.held.length) s.stations := rfl

theorem vector_set_get {α : Type} {n : Nat} (v : Vector α n) (i j : Fin n) (x : α) : (v.set i x)[j] = if j = i then x else v[j] := by
  rw [Fin.getElem_fin, Vector.getElem_set]
  simp only [Fin.ext_iff, eq_comm]
  rfl

end Sys2Proof.Machine
end

section
/-! PROOFS. Replay groups (R116): what each group is after a station joins or leaves it and after groups are discarded, and that the
groups stay sound. -/

namespace Sys2Proof.Machine

/- The whole text is elaborated in one process: its proofs in turn, so that their threads' stacks stay within its memory. -/
set_option Elab.async false

/-! ### Single groups -/

/-- The table of groups is canonical, and its keys are pairs of radio and channel (R116). -/
structure State.GroupsFormed (s : State) : Prop where
  wf : s.groups.wf = true
  keys : ∀ e ∈ s.groups, e.1 < 1024

/-- The groups by themselves are as R116 has them: none is empty, and no member stands twice. -/
structure State.GroupsSound (s : State) : Prop where
  members : ∀ r c g, s.group r c = some g → g.members ≠ [] ∧ g.members.Nodup

/-- A station is a member of the group of a radio and a channel. -/
def State.inGroup (s : State) (r : RadioIx) (c : ChannelIx) (ix : Nat) : Prop := ∃ g, s.group r c = some g ∧ ix ∈ g.members

/-- The group that a station's joining leaves: itself appended, or a new group in SKIP_TO_KEY. -/
def Group.joined (ix : Nat) : Option Group → Group
  | none => { members := [ix], delivery := .skipToKey }
  | some g => { g with members := g.members ++ [ix] }

theorem groupKey_lt (r : RadioIx) (c : ChannelIx) : groupKey r c < 1024 := by
  rw [groupKey]
  omega

theorem group_congr {s t : State} (h : t.groups = s.groups) (r : RadioIx) (c : ChannelIx) : t.group r c = s.group r c := by
  rw [State.group, State.group, h]

@[simp] theorem State.addTo_group (s : State) (k : Counter) (n : Nat) (r : RadioIx) (c : ChannelIx) :
    (s.addTo k n).group r c = s.group r c := rfl
@[simp] theorem State.count_group (s : State) (k : Counter) (r : RadioIx) (c : ChannelIx) : (s.count k).group r c = s.group r c := rfl
@[simp] theorem State.note_group (s : State) (src : Source) (r : RadioIx) (c : ChannelIx) : (s.note src).group r c = s.group r c := rfl
@[simp] theorem State.setStation_group (s : State) (ix : Nat) (st : Station) (r : RadioIx) (c : ChannelIx) :
    (s.setStation ix st).group r c = s.group r c := rfl

theorem groupWithout_congr {s t : State} {ix : Nat} {r : RadioIx} {c : ChannelIx} (h : t.group r c = s.group r c) :
    t.groupWithout ix r c = s.groupWithout ix r c := by
  rw [State.groupWithout, State.groupWithout, h]

theorem inGroup_congr {s t : State} {r : RadioIx} {c : ChannelIx} (h : t.group r c = s.group r c) (ix : Nat) :
    t.inGroup r c ix ↔ s.inGroup r c ix := by
  rw [State.inGroup, State.inGroup, h]

theorem State.GroupsSound.congr {s t : State} (h : t.groups = s.groups) (hs : s.GroupsSound) : t.GroupsSound where
  members r c g hg := hs.members r c g (group_congr h r c ▸ hg)

theorem group_put {s t : State} {r : RadioIx} {c : ChannelIx} {g : Group} (h : t.groups = s.groups.put (groupKey r c) g)
    (r' : RadioIx) (c' : ChannelIx) : t.group r' c' = if r' = r ∧ c' = c then some g else s.group r' c' := by
  rw [State.group, h, Table.find_put]
  simp only [groupKey_inj, State.group]

theorem State.GroupsSound.put {s t : State} {r : RadioIx} {c : ChannelIx} {g : Group} (hs : s.GroupsSound)
    (h : t.groups = s.groups.put (groupKey r c) g) (h0 : g.members ≠ []) (hn : g.members.Nodup) : t.GroupsSound where
  members r' c' g' hg := by
    rw [group_put h] at hg
    split at hg
    · cases hg
      exact ⟨h0, hn⟩
    · exact hs.members r' c' g' hg

/-! ### A group without a station -/

theorem Group.keeping_keeping (keep : Nat → Bool) (g : Group) : (g.keeping keep).bind (Group.keeping keep) = g.keeping keep := by
  unfold Group.keeping
  split
  · rfl
  next h => simp only [Option.bind_some, List.filter_filter, Bool.and_self, if_neg h]

/-- Taking a station out of a group twice is taking it out once. -/
theorem groupWithout_again {s t : State} {ix : Nat} {r : RadioIx} {c : ChannelIx} (h : t.group r c = s.groupWithout ix r c) :
    t.groupWithout ix r c = s.groupWithout ix r c := by
  rw [State.groupWithout, h, State.groupWithout]
  rcases s.group r c with _ | g
  · rfl
  · exact g.keeping_keeping _

/-- A group that a station is no member of is the same without it. -/
theorem groupWithout_of_not_mem {s : State} (hs : s.GroupsSound) {ix : Nat} {r : RadioIx} {c : ChannelIx}
    (h : ¬ s.inGroup r c ix) : s.groupWithout ix r c = s.group r c := by
  rw [State.groupWithout]
  rcases hg : s.group r c with _ | g
  · rfl
  · have hm : ix ∉ g.members := fun hm => h ⟨g, hg, hm⟩
    have hf : g.members.filter (fun j => j != ix) = g.members :=
      List.filter_eq_self.mpr fun j hj => by simpa using ne_of_mem_of_not_mem hj hm
    rw [Option.bind_some, Group.keeping, hf, if_neg (hs.members r c g hg).1]

theorem groupWithout_members {s : State} (hs : s.GroupsSound) {ix : Nat} {r : RadioIx} {c : ChannelIx} {g : Group}
    (h : s.groupWithout ix r c = some g) : g.members ≠ [] ∧ g.members.Nodup := by
  rw [State.groupWithout, Option.bind_eq_some_iff] at h
  obtain ⟨g0, hg0, hk⟩ := h
  rw [Group.keeping] at hk
  split at hk
  · cases hk
  next hne =>
    cases hk
    exact ⟨hne, ((hs.members r c g0 hg0).2).filter _⟩

theorem groupWithout_mem {s t : State} {ix : Nat} {r : RadioIx} {c : ChannelIx} (h : t.group r c = s.groupWithout ix r c) (j : Nat) :
    t.inGroup r c j ↔ s.inGroup r c j ∧ j ≠ ix := by
  rw [State.inGroup, State.inGroup, h, State.groupWithout]
  rcases s.group r c with _ | g
  · simp
  · simp only [Option.bind_some, Group.keeping, Option.some.injEq, exists_eq_left']
    split
    next he =>
      have := List.filter_eq_nil_iff.mp he j
      simp only [reduceCtorEq, false_and, exists_false, false_iff]
      rintro ⟨hj, hne⟩
      exact this hj (by simpa using hne)
    next => simp

/-! ### Discarding -/

theorem discardGroup_group (s : State) (r r' : RadioIx) (c c' : ChannelIx) :
    (s.discardGroup r c).group r' c' = if r' = r ∧ c' = c then none else s.group r' c' := by
  rw [State.group, State.discardGroup, State.count_groups, Table.find_drop]
  simp only [groupKey_inj, State.group]

theorem State.GroupsSound.discardGroup {s : State} (hs : s.GroupsSound) (r : RadioIx) (c : ChannelIx) :
    (s.discardGroup r c).GroupsSound where
  members r' c' g hg := by
    rw [discardGroup_group] at hg
    split at hg
    · cases hg
    · exact hs.members r' c' g hg

/-- Every group of the radio is gone after the channels of a list, and no other. -/
theorem foldl_discardGroup_group (r : RadioIx) (l : List ChannelIx) (s : State) (r' : RadioIx) (c' : ChannelIx) :
    (l.foldl (fun s c => if (s.group r c).isSome then s.discardGroup r c else s) s).group r' c' =
      if r' = r ∧ c' ∈ l then none else s.group r' c' := by
  induction l generalizing s with
  | nil => simp
  | cons c l ih =>
    have hc : (if (s.group r c).isSome then s.discardGroup r c else s).group r' c' =
        if r' = r ∧ c' = c then none else s.group r' c' := by
      split
      · exact discardGroup_group s r r' c c'
      next h =>
        split
        next he =>
          rw [he.1, he.2]
          simpa using h
        · rfl
    rw [List.foldl_cons, ih, hc]
    by_cases hr : r' = r <;> by_cases h1 : c' = c <;> by_cases h2 : c' ∈ l <;> simp [hr, h1, h2]

theorem discardGroups_group (s : State) (r r' : RadioIx) (c' : ChannelIx) :
    (s.discardGroups r).group r' c' = if r' = r then none else s.group r' c' := by
  rw [State.discardGroups, foldl_discardGroup_group]
  simp

/-- A property of states that each step of a loop keeps holds at its end. -/
theorem foldl_induction {α : Type} {P : State → Prop} {f : State → α → State} (h : ∀ s a, P s → P (f s a)) (l : List α) {s : State}
    (hs : P s) : P (l.foldl f s) := by
  induction l generalizing s with
  | nil => exact hs
  | cons a l ih => exact ih (h s a hs)

theorem State.GroupsSound.discardGroups {s : State} (hs : s.GroupsSound) (r : RadioIx) : (s.discardGroups r).GroupsSound :=
  foldl_induction (fun s c hs => by split <;> [exact hs.discardGroup r c; exact hs]) _ hs

theorem foldl_discardChannel_group (c : ChannelIx) (l : List RadioIx) (s : State) (r' : RadioIx) (c' : ChannelIx) :
    (l.foldl (fun s r => s.discardGroup r c) s).group r' c' = if c' = c ∧ r' ∈ l then none else s.group r' c' := by
  induction l generalizing s with
  | nil => simp
  | cons r l ih =>
    rw [List.foldl_cons, ih, discardGroup_group]
    by_cases h0 : c' = c <;> by_cases h1 : r' = r <;> by_cases h2 : r' ∈ l <;> simp [h0, h1, h2]

theorem discardChannel_group (s : State) (c : ChannelIx) (r' : RadioIx) (c' : ChannelIx) :
    (s.discardChannel c).group r' c' = if c' = c then none else s.group r' c' := by
  rw [State.discardChannel, foldl_discardChannel_group]
  by_cases h0 : c' = c
  · subst h0
    by_cases h1 : r' ∈ s.groupRadios c'
    · simp [h1]
    · have hn : s.group r' c' = none := by simpa [mem_groupRadios] using h1
      simp [hn]
  · simp [h0]

theorem State.GroupsSound.discardChannel {s : State} (hs : s.GroupsSound) (c : ChannelIx) : (s.discardChannel c).GroupsSound :=
  foldl_induction (fun _ r hs => hs.discardGroup r c) _ hs

/-! ### Leaving -/

theorem leaveGroup_group {s : State} (hs : s.GroupsSound) (r : RadioIx) (c : ChannelIx) (ix : Nat) (r' : RadioIx) (c' : ChannelIx) :
    (s.leaveGroup r c ix).group r' c' = if r' = r ∧ c' = c then s.groupWithout ix r' c' else s.group r' c' := by
  unfold State.leaveGroup
  split
  next hg =>
    split
    next he =>
      rw [he.1, he.2, State.groupWithout, hg]
      rfl
    next => rfl
  next g hg =>
    have hf : g.members.erase ix = g.members.filter fun j => j != ix := (hs.members r c g hg).2.erase_eq_filter ix
    have hk : s.groupWithout ix r c = g.keeping fun j => j != ix := by rw [State.groupWithout, hg, Option.bind_some]
    split
    next he =>
      rw [discardGroup_group]
      refine if_ctx_congr Iff.rfl (fun h => ?_) fun _ => rfl
      rw [h.1, h.2, hk, Group.keeping, ← hf, if_pos he]
    next he =>
      rw [group_put (s := s) (by rfl)]
      refine if_ctx_congr Iff.rfl (fun h => ?_) fun _ => rfl
      rw [h.1, h.2, hk, Group.keeping, ← hf, if_neg he]

theorem State.GroupsSound.leaveGroup {s : State} (hs : s.GroupsSound) (r : RadioIx) (c : ChannelIx) (ix : Nat) :
    (s.leaveGroup r c ix).GroupsSound := by
  unfold State.leaveGroup
  split
  · exact hs
  next g hg =>
    split
    · exact hs.discardGroup r c
    next he => exact hs.put (by rfl) he ((hs.members r c g hg).2.sublist List.erase_sublist)

theorem foldl_leaveGroup_group (r : RadioIx) (ix : Nat) (es : List Subscription) {s : State} (hs : s.GroupsSound) (r' : RadioIx)
    (c' : ChannelIx) :
    (es.foldl (fun s e => s.leaveGroup r e.channel ix) s).group r' c' =
      if r' = r ∧ c' ∈ es.map Subscription.channel then s.groupWithout ix r' c' else s.group r' c' := by
  induction es generalizing s with
  | nil => simp
  | cons e es ih =>
    rw [List.foldl_cons, ih (hs.leaveGroup r e.channel ix)]
    have hg := leaveGroup_group hs r e.channel ix r' c'
    by_cases h1 : r' = r ∧ c' = e.channel
    · rw [if_pos h1] at hg
      rw [groupWithout_again hg, hg, ite_self, if_pos ⟨h1.1, by simp [h1.2]⟩]
    · rw [if_neg h1] at hg
      rw [groupWithout_congr hg, hg]
      refine if_congr ?_ rfl rfl
      rw [List.map_cons, List.mem_cons]
      tauto

/-- A station that leaves the groups of a radio for a list of entries is out of each of them; every other group stands. -/
theorem leaveGroups_group {s : State} (hs : s.GroupsSound) (ro : Option RadioIx) (es : List Subscription) (ix : Nat) (r : RadioIx)
    (c : ChannelIx) : (s.leaveGroups ro es ix).group r c =
      if ro = some r ∧ c ∈ es.map Subscription.channel then s.groupWithout ix r c else s.group r c := by
  rcases ro with _ | r0
  · simp [State.leaveGroups]
  · rw [State.leaveGroups, foldl_leaveGroup_group r0 ix es hs]
    simp only [Option.some.injEq, eq_comm]

theorem State.GroupsSound.leaveGroups {s : State} (hs : s.GroupsSound) (ro : Option RadioIx) (es : List Subscription) (ix : Nat) :
    (s.leaveGroups ro es ix).GroupsSound := by
  rcases ro with _ | r
  · exact hs
  · exact foldl_induction (fun _ e hs => hs.leaveGroup r e.channel ix) _ hs

/-! ### Joining -/

theorem joinGroup_group (s : State) (r : RadioIx) (c : ChannelIx) (ix : Nat) (r' : RadioIx) (c' : ChannelIx) :
    (s.joinGroup r c ix).group r' c' = if r' = r ∧ c' = c then some (Group.joined ix (s.group r' c')) else s.group r' c' := by
  unfold State.joinGroup
  split
  next hg =>
    rw [group_put (s := s) (by rfl)]
    refine if_ctx_congr Iff.rfl (fun h => ?_) fun _ => rfl
    rw [h.1, h.2, hg]
    rfl
  next g hg =>
    rw [group_put (s := s) (by rfl)]
    refine if_ctx_congr Iff.rfl (fun h => ?_) fun _ => rfl
    rw [h.1, h.2, hg]
    rfl

theorem State.GroupsSound.joinGroup {s : State} (hs : s.GroupsSound) (r : RadioIx) (c : ChannelIx) {ix : Nat} (h : ¬ s.inGroup r c ix) :
    (s.joinGroup r c ix).GroupsSound := by
  unfold State.joinGroup
  split
  · exact hs.put (by rfl) (List.cons_ne_nil _ _) (List.nodup_singleton ix)
  next g hg =>
    have hm : ix ∉ g.members := fun hm => h ⟨g, hg, hm⟩
    refine hs.put (by rfl) (by simp) ?_
    exact List.nodup_append.mpr ⟨(hs.members r c g hg).2, List.nodup_singleton ix, fun a ha b hb => by
      rw [List.mem_singleton.mp hb]
      exact ne_of_mem_of_not_mem ha hm⟩

theorem joined_mem {s t : State} {ix : Nat} {r : RadioIx} {c : ChannelIx}
    (h : t.group r c = some (Group.joined ix (s.group r c))) (j : Nat) :
    t.inGroup r c j ↔ s.inGroup r c j ∨ j = ix := by
  rw [State.inGroup, State.inGroup, h]
  rcases s.group r c with _ | g <;> simp [Group.joined]

/-- A station that joins the groups of a radio for entries of different channels is appended to each of them; every other group
stands. -/
theorem joinGroups_group (r : RadioIx) (ix : Nat) (es : List Subscription) (s : State) (hn : (es.map Subscription.channel).Nodup)
    (r' : RadioIx) (c' : ChannelIx) : (s.joinGroups r es ix).group r' c' =
      if r' = r ∧ c' ∈ es.map Subscription.channel then some (Group.joined ix (s.group r' c')) else s.group r' c' := by
  rw [State.joinGroups]
  induction es generalizing s with
  | nil => simp
  | cons e es ih =>
    rw [List.map_cons, List.nodup_cons] at hn
    rw [List.foldl_cons, ih _ hn.2, joinGroup_group, List.map_cons]
    by_cases hr : r' = r
    · by_cases hc : c' = e.channel
      · simp [hr, hc, hn.1]
      · simp [hr, hc]
    · simp [hr]

theorem State.GroupsSound.joinGroups {s : State} (r : RadioIx) (ix : Nat) (es : List Subscription) (hs : s.GroupsSound)
    (hn : (es.map Subscription.channel).Nodup) (h : ∀ e ∈ es, ¬ s.inGroup r e.channel ix) : (s.joinGroups r es ix).GroupsSound := by
  unfold State.joinGroups
  induction es generalizing s with
  | nil => exact hs
  | cons e es ih =>
    rw [List.map_cons, List.nodup_cons] at hn
    rw [List.foldl_cons]
    refine ih (hs.joinGroup r e.channel (h e List.mem_cons_self)) hn.2 fun x hx => ?_
    have hxe : x.channel ≠ e.channel := fun hc => hn.1 (hc ▸ List.mem_map_of_mem hx)
    rw [inGroup_congr (s := s) (by rw [joinGroup_group, if_neg fun hp => hxe hp.2])]
    exact h x (List.mem_cons_of_mem _ hx)

/-! ### The sixth law by membership -/

/-- A group's members are the stations that belong to it (R116). -/
def State.Membered (s : State) : Prop :=
  ∀ r c ix, s.inGroup r c ix ↔ ∃ st, s.stations.find ix = some st ∧ st.belongs r c = true

theorem entry_isSome_iff (st : Station) (c : ChannelIx) : (st.entry c).isSome = true ↔ c ∈ st.subs.map Subscription.channel := by
  simp [Station.entry, List.find?_isSome]

theorem belongs_iff (st : Station) (r : RadioIx) (c : ChannelIx) :
    st.belongs r c = true ↔ st.groupRadio = some r ∧ c ∈ st.subs.map Subscription.channel := by
  rw [Station.belongs, Bool.and_eq_true, beq_iff_eq, entry_isSome_iff]

theorem groupLaw_sound {s : State} (h : s.GroupLaw) : s.GroupsSound := ⟨fun r c g hg => ⟨(h.1 r c g hg).1, (h.1 r c g hg).2.1⟩⟩

theorem groupLaw_membered {s : State} (h : s.GroupLaw) : s.Membered := by
  obtain ⟨h1, h2⟩ := h
  refine fun r c ix => ⟨?_, ?_⟩
  · rintro ⟨g, hgr, hm⟩
    obtain ⟨st, hf, hb⟩ := (h1 r c g hgr).2.2 ix hm
    exact ⟨st, hf, hb⟩
  · rintro ⟨st, hf, hb⟩
    obtain ⟨hr, hc⟩ := (belongs_iff st r c).mp hb
    obtain ⟨x, hx, rfl⟩ := List.mem_map.mp hc
    obtain ⟨g, hgr, hm⟩ := h2 (ix, st) (Table.mem_of_find hf) r hr x hx
    exact ⟨g, hgr, hm⟩

theorem groupLaw_of {s : State} (hw : s.stations.wf = true) (hs : s.GroupsSound) (hm : s.Membered) : s.GroupLaw := by
  refine ⟨fun r c g hgr => ⟨(hs.members r c g hgr).1, (hs.members r c g hgr).2, fun ix hix => ?_⟩, fun e he r hr x hx => ?_⟩
  · obtain ⟨st, hf, hb⟩ := (hm r c ix).mp ⟨g, hgr, hix⟩
    exact ⟨st, hf, hb⟩
  · obtain ⟨g, hgr, hix⟩ := (hm r x.channel e.1).mpr
      ⟨e.2, Table.find_of_mem hw he, (belongs_iff _ _ _).mpr ⟨hr, List.mem_map_of_mem hx⟩⟩
    exact ⟨g, hgr, hix⟩

/-! ### The form of the table -/

section formed
variable {s t : State}

theorem State.GroupsFormed.congr (h : t.groups = s.groups) (hs : s.GroupsFormed) : t.GroupsFormed := ⟨h ▸ hs.wf, h ▸ hs.keys⟩

theorem State.GroupsFormed.put {r : RadioIx} {c : ChannelIx} {g : Group} (hs : s.GroupsFormed)
    (h : t.groups = s.groups.put (groupKey r c) g) : t.GroupsFormed :=
  ⟨h ▸ Table.wf_put _ _ hs.wf, h ▸ Table.keys_put g hs.keys (groupKey_lt r c)⟩

theorem State.GroupsFormed.discardGroup (hs : s.GroupsFormed) (r : RadioIx) (c : ChannelIx) : (s.discardGroup r c).GroupsFormed :=
  ⟨Table.wf_drop _ hs.wf, Table.keys_drop _ hs.keys⟩

theorem State.GroupsFormed.discardGroups (hs : s.GroupsFormed) (r : RadioIx) : (s.discardGroups r).GroupsFormed :=
  foldl_induction (fun _ c hs => by split <;> [exact hs.discardGroup r c; exact hs]) _ hs

theorem State.GroupsFormed.discardChannel (hs : s.GroupsFormed) (c : ChannelIx) : (s.discardChannel c).GroupsFormed :=
  foldl_induction (fun _ r hs => hs.discardGroup r c) _ hs

theorem State.GroupsFormed.joinGroup (hs : s.GroupsFormed) (r : RadioIx) (c : ChannelIx) (ix : Nat) :
    (s.joinGroup r c ix).GroupsFormed := by
  unfold State.joinGroup
  split <;> exact hs.put (by rfl)

theorem State.GroupsFormed.leaveGroup (hs : s.GroupsFormed) (r : RadioIx) (c : ChannelIx) (ix : Nat) :
    (s.leaveGroup r c ix).GroupsFormed := by
  unfold State.leaveGroup
  split
  · exact hs
  · split
    · exact hs.discardGroup r c
    · exact hs.put (by rfl)

theorem State.GroupsFormed.joinGroups (hs : s.GroupsFormed) (r : RadioIx) (es : List Subscription) (ix : Nat) :
    (s.joinGroups r es ix).GroupsFormed := foldl_induction (fun _ e hs => hs.joinGroup r e.channel ix) es hs

theorem State.GroupsFormed.leaveGroups (hs : s.GroupsFormed) (ro : Option RadioIx) (es : List Subscription) (ix : Nat) :
    (s.leaveGroups ro es ix).GroupsFormed := by
  rcases ro with _ | r
  · exact hs
  · exact foldl_induction (fun _ e hs => hs.leaveGroup r e.channel ix) es hs

end formed

end Sys2Proof.Machine
end

section
/-! PROOFS. What the station operations leave of the seat links: their state, their profile, and that a sound record stays sound. -/

namespace Sys2Proof.Machine

/- The whole text is elaborated in one process: its proofs in turn, so that their threads' stacks stay within its memory. -/
set_option Elab.async false

/-- From `l` to `l'` a link keeps its state and its profile, and stays sound if it was. -/
structure SeatLink.Carries (l l' : SeatLink) : Prop where
  state : l'.state = l.state
  profile : l'.profile = l.profile
  sound : l.Sound → l'.Sound

/-- From `s` to `t` every link keeps its state and its profile, and stays sound if it was. -/
def LinksCarry (s t : State) : Prop := ∀ r : RadioIx, s.links[r].Carries t.links[r]

theorem SeatLink.Carries.refl (l : SeatLink) : l.Carries l := ⟨rfl, rfl, id⟩

theorem LinksCarry.refl (s : State) : LinksCarry s s := fun _ => .refl _

theorem LinksCarry.trans {s t u : State} (h : LinksCarry s t) (k : LinksCarry t u) : LinksCarry s u := fun r =>
  ⟨(k r).state.trans (h r).state, (k r).profile.trans (h r).profile, fun hs => (k r).sound ((h r).sound hs)⟩

theorem LinksCarry.same {s t : State} (h : t.links = s.links) : LinksCarry s t := fun r => by
  rw [link_congr h]
  exact .refl _

theorem ChangesOnly.linksCarry {fs : List Field} {s t : State} (h : ChangesOnly fs s t) (hf : Field.links ∉ fs := by decide) :
    LinksCarry s t := .same (h .links hf)

theorem LinksCarry.set {s t : State} {r : RadioIx} {l : SeatLink} (h : t.links = s.links.set r l) (hl : s.links[r].Carries l) :
    LinksCarry s t := fun r' => by
  rw [show t.links[r'] = (s.links.set r l)[r'] by rw [h]]
  by_cases hr : r' = r
  · subst hr
    rw [set_link_same]
    exact hl
  · rw [set_link_other _ hr]
    exact .refl _

theorem LinksCarry.foldl {α : Type} {f : State → α → State} (h : ∀ s a, LinksCarry s (f s a)) (l : List α) (s : State) :
    LinksCarry s (l.foldl f s) :=
  foldl_induction (P := LinksCarry s) (fun t a ht => ht.trans (h t a)) l (.refl s)

theorem LinksCarry.isUp {s t : State} (h : LinksCarry s t) (r : RadioIx) : t.isUp r = s.isUp r := by
  rw [State.isUp, State.isUp, (h r).state]

theorem isUp_iff (s : State) (r : RadioIx) : s.isUp r = true ↔ s.links[r].state = .up := by simp [State.isUp]

theorem LinksCarry.up {s t : State} (h : LinksCarry s t) {r : RadioIx} : t.links[r].state = .up ↔ s.links[r].state = .up := by
  rw [(h r).state]

theorem LinksCarry.profile {s t : State} (h : LinksCarry s t) (r : RadioIx) : t.links[r].profile = s.links[r].profile := (h r).profile

/-! ### Messages, received and sent -/

/-- The sequence numbers and the marks of messages have no part in a record's soundness. -/
theorem checkSequence_carry (s : State) (r : RadioIx) (q : Byte) : LinksCarry s (s.checkSequence r q) := by
  have h : (s.checkSequence r q).links = s.links.set r { s.links[r] with rxSequence := q + 1 } := by
    unfold State.checkSequence
    dsimp only
    split <;> rfl
  exact .set h ⟨rfl, rfl, id⟩

theorem takeKeepalive_carry (s : State) (r : RadioIx) (alert : Bool) : LinksCarry s (s.takeKeepalive r alert) := by
  have h : (s.takeKeepalive r alert).links = s.links.set r { s.links[r] with keepaliveSeen := true, alertSeen := alert } := by
    unfold State.takeKeepalive
    dsimp only
    split <;> rfl
  exact .set h ⟨rfl, rfl, id⟩

theorem send_carry (s : State) (r : RadioIx) (m : ControlOut) : LinksCarry s (s.send r m) := by
  obtain ⟨q, a, hl, ha⟩ := send_links s r m
  refine .set hl ⟨rfl, rfl, fun ⟨h1, h2, h3, h4, h5⟩ => ⟨h1, h2, h3, h4, fun x hx => ?_⟩⟩
  rcases ha with rfl | rfl | ⟨b, hb, hne, rfl⟩
  · exact h5 x hx
  · cases hx
  · cases hx
    obtain ⟨k1, k2, k3⟩ := h5 b hb
    exact ⟨k1, k2, lt_of_le_of_ne k3 hne⟩

theorem sendAdmit_carry (s : State) (r : RadioIx) (ix : Nat) : LinksCarry s (s.sendAdmit r ix) := by
  unfold State.sendAdmit
  split
  · exact .refl s
  · exact send_carry s r _

theorem send_queue (s : State) (r : RadioIx) (m : ControlOut) (r' : RadioIx) : (s.send r m).links[r'].queue = s.links[r'].queue := by
  obtain ⟨q, a, hl, -⟩ := send_links s r m
  rw [show (s.send r m).links[r'] = (s.links.set r { s.links[r] with txSequence := q, arm := a })[r'] by rw [hl]]
  by_cases hr : r' = r
  · subst hr
    rw [set_link_same]
  · rw [set_link_other _ hr]

theorem sendAdmit_queue (s : State) (r : RadioIx) (ix : Nat) (r' : RadioIx) :
    (s.sendAdmit r ix).links[r'].queue = s.links[r'].queue := by
  unfold State.sendAdmit
  split
  · rfl
  · exact send_queue s r _ r'

/-! ### Transmit queues -/

/-- An UP link's queue has no part in its record's soundness. -/
theorem SeatLink.carries_queue {l : SeatLink} (h : l.state = .up) (queue : List TxEntry) : l.Carries { l with queue := queue } :=
  ⟨rfl, rfl, fun ⟨h1, h2, h3, _, h5⟩ => ⟨h1, h2, h3, fun hu => absurd h hu, h5⟩⟩

theorem enqueue_carry {s : State} {r : RadioIx} (h : s.links[r].state = .up) (entries : List TxEntry) :
    LinksCarry s (s.enqueue r entries) :=
  .set (by rfl) (SeatLink.carries_queue h _)

theorem flush_carry {s : State} {r : RadioIx} (h : s.links[r].state = .up) (held : List FanFrame) : LinksCarry s (s.flush r held) :=
  .set (flush_links s r held) (SeatLink.carries_queue h _)

/-! ### The life of a handoff -/

theorem complete_carry {s : State} {n : RadioIx} (h : s.links[n].state = .up) (ix : Nat) (st : Station) (o : RadioIx)
    (held : List FanFrame) : LinksCarry s (s.complete ix st o n held) := by
  refine LinksCarry.trans ?_ (.same (complete_links s ix st o n held))
  generalize hu : (s.setStation ix _).lowerCount o = u
  have hs : LinksCarry s u := .same (by rw [← hu]; rfl)
  have ha := hs.trans (sendAdmit_carry u n ix)
  exact ha.trans (flush_carry (ha.up.mpr h) held)

theorem force_carry {s : State} {n : RadioIx} (h : s.links[n].state = .up) (ix : Nat) (st : Station) (o : RadioIx)
    (held : List FanFrame) (withDrop : Bool) : LinksCarry s (s.force ix st o n held withDrop) := by
  unfold State.force
  generalize hu : (if withDrop then s.send o (.drop ix st.device) else s) = u
  have hs : LinksCarry s u := by
    rw [← hu]
    split
    · exact send_carry s o _
    · exact .refl s
  exact (hs.trans (complete_carry (hs.up.mpr h) ix st o held)).trans (.same (by rfl))

theorem endReturn_carry {s : State} {o : RadioIx} (h : s.links[o].state = .up) (ix : Nat) (st : Station) (p : Option Prior)
    (held : List FanFrame) : LinksCarry s (s.endReturn ix st o p held) := by
  unfold State.endReturn
  generalize hu : s.setStation ix _ = u
  have hs : LinksCarry s u := .same (by rw [← hu]; rfl)
  have ha := hs.trans (sendAdmit_carry u o ix)
  exact (ha.trans (flush_carry (ha.up.mpr h) held)).trans (.same (by rfl))

theorem abandonToOld_carry {s : State} {o : RadioIx} (h : s.links[o].state = .up) (ix : Nat) (st : Station) (n : RadioIx)
    (p : Option Prior) (held : List FanFrame) : LinksCarry s (s.abandonToOld ix st o n p held) := by
  unfold State.abandonToOld
  generalize hu : (s.setStation ix _).lowerCount n = u
  have hs : LinksCarry s u := .same (by rw [← hu]; rfl)
  exact ((hs.trans (flush_carry (hs.up.mpr h) held)).trans (sendAdmit_carry _ o ix)).trans (.same (by rfl))

theorem orphan_carry (s : State) (ix : Nat) (st : Station) : LinksCarry s (s.orphan ix st) := .same (orphan_links s ix st)

theorem discardHeld_carry (s : State) (held : List FanFrame) : LinksCarry s (s.discardHeld held) :=
  (discardHeld_frame s held).linksCarry

theorem exitStation_carry (r : RadioIx) (s : State) (ix : Nat) : LinksCarry s (State.exitStation r s ix) := by
  unfold State.exitStation
  split
  · exact .refl s
  next st _ =>
    split
    · split
      · exact (orphan_carry s ix st).trans (.same (by rfl))
      · exact .refl s
    next o n d p held _ =>
      split_ifs with h1 h2 h3
      · exact force_carry ((isUp_iff s n).mp h1.2.2) ix st o held false
      · exact abandonToOld_carry ((isUp_iff s o).mp h2.2.2) ix st n p held
      · exact ((orphan_carry s ix st).trans (lowerCounts_frame _ _).linksCarry).trans (discardHeld_carry _ held)
      · exact .refl s
    · exact .refl s

end Sys2Proof.Machine
end

section
/-! PROOFS. What the operations on bindings do to a station (R96, R99, R101, R123): the context they leave, the hold pool, the
groups, and the bound lists. -/

namespace Sys2Proof.Machine

/- The whole text is elaborated in one process: its proofs in turn, so that their threads' stacks stay within its memory. -/
set_option Elab.async false

/-! ### One station -/

/-- A station with another binding, or none, and the tier that goes with it (R92). -/
def Station.bindTo : Option Binding → Station → Station
  | none, st => { st with binding := none, tier := .guest }
  | some b, st => { st with binding := some b, tier := b.tier }

/-- A station without the entries that are not permitted to it (R123). -/
def Station.pruned (channels : Vector Channel 16) (st : Station) : Station :=
  { st with subs := st.subs.filter fun e => permitted channels st.binding e.channel }

/-- The entries of a station that are not permitted to it (R123). -/
def Station.unpermitted (channels : Vector Channel 16) (st : Station) : List Subscription :=
  st.subs.filter fun e => !permitted channels st.binding e.channel

/-- A place whose hold queue keeps the newest frames down to a depth (R65). -/
def Place.shrunk (depth : Nat) : Place → Place
  | .handoff o n d p held => .handoff o n d p (held.drop (held.length - depth))
  | .associated r p => .associated r p
  | .orphan r d => .orphan r d

/-- A station whose hold queue keeps the newest frames down to its hold depth (R65). -/
def Station.shrunk (st : Station) : Station := { st with place := st.place.shrunk st.tier.holdDepth }

/-- A station brought into line with another binding, or none: pruned, its entries evaluated, its hold queue shrunk (R99, R101). -/
def Station.realigned (channels : Vector Channel 16) (b : Option Binding) (st : Station) : Station :=
  (((st.bindTo b).pruned channels).reflagged channels).shrunk

theorem bindTo_device (b : Option Binding) (st : Station) : (st.bindTo b).device = st.device := by cases b <;> rfl
theorem bindTo_place (b : Option Binding) (st : Station) : (st.bindTo b).place = st.place := by cases b <;> rfl
theorem bindTo_rate (b : Option Binding) (st : Station) : (st.bindTo b).rate = st.rate := by cases b <;> rfl
theorem bindTo_subs (b : Option Binding) (st : Station) : (st.bindTo b).subs = st.subs := by cases b <;> rfl
theorem bindTo_binding (b : Option Binding) (st : Station) : (st.bindTo b).binding = b := by cases b <;> rfl

theorem groupRadio_congr {st st' : Station} (h : st'.place = st.place) : st'.groupRadio = st.groupRadio := by
  rw [Station.groupRadio, Station.groupRadio, h]

theorem held_congr {st st' : Station} (h : st'.place = st.place) : st'.held = st.held := by
  rw [Station.held, Station.held, h]

theorem isOn_congr {st st' : Station} (h : st'.place = st.place) (r : RadioIx) : st'.isOn r = st.isOn r := by
  rw [Station.isOn, Station.isOn, h]

theorem current_congr {st st' : Station} (h : st'.place = st.place) : st'.current = st.current := by
  rw [Station.current, Station.current, h]

theorem shrunk_groupRadio (st : Station) : st.shrunk.groupRadio = st.groupRadio := by
  obtain ⟨_, place, _, _, _, _⟩ := st
  cases place <;> rfl

theorem shrunk_isOn (st : Station) (r : RadioIx) : st.shrunk.isOn r = st.isOn r := by
  obtain ⟨_, place, _, _, _, _⟩ := st
  cases place <;> rfl

theorem shrunk_current (st : Station) : st.shrunk.current = st.current := by
  obtain ⟨_, place, _, _, _, _⟩ := st
  cases place <;> rfl

theorem shrunk_held (st : Station) : st.shrunk.held = st.held.drop (st.held.length - st.tier.holdDepth) := by
  obtain ⟨_, place, _, tier, _, _⟩ := st
  cases place with
  | handoff => rfl
  | associated => exact (List.drop_nil).symm
  | orphan => exact (List.drop_nil).symm

variable (channels : Vector Channel 16) (b : Option Binding) (st : Station)

theorem realigned_device : (st.realigned channels b).device = st.device := bindTo_device b st
theorem realigned_rate : (st.realigned channels b).rate = st.rate := bindTo_rate b st
theorem realigned_binding : (st.realigned channels b).binding = b := bindTo_binding b st
theorem realigned_tier : (st.realigned channels b).tier = (st.bindTo b).tier := rfl

theorem realigned_groupRadio : (st.realigned channels b).groupRadio = st.groupRadio :=
  (shrunk_groupRadio _).trans (groupRadio_congr (bindTo_place b st))

theorem realigned_isOn (r : RadioIx) : (st.realigned channels b).isOn r = st.isOn r :=
  (shrunk_isOn _ r).trans (isOn_congr (bindTo_place b st) r)

theorem realigned_current : (st.realigned channels b).current = st.current :=
  (shrunk_current _).trans (current_congr (bindTo_place b st))

theorem realigned_held :
    (st.realigned channels b).held = st.held.drop (st.held.length - (st.bindTo b).tier.holdDepth) := by
  have hb : (((st.bindTo b).pruned channels).reflagged channels).held = st.held := held_congr (bindTo_place b st)
  rw [Station.realigned, shrunk_held, hb]
  rfl

theorem reflagged_channels : (st.reflagged channels).subs.map Subscription.channel = st.subs.map Subscription.channel := by
  simp [Station.reflagged, Function.comp_def, reflag]

theorem realigned_channels : (st.realigned channels b).subs.map Subscription.channel =
    (st.subs.map Subscription.channel).filter fun c => permitted channels b c := by
  show (((st.bindTo b).pruned channels).reflagged channels).subs.map Subscription.channel = _
  rw [reflagged_channels, Station.pruned, bindTo_subs, bindTo_binding, List.filter_map]
  rfl

theorem unpermitted_channels (c : ChannelIx) : c ∈ ((st.bindTo b).unpermitted channels).map Subscription.channel ↔
    c ∈ st.subs.map Subscription.channel ∧ permitted channels b c = false := by
  rw [Station.unpermitted, bindTo_subs, bindTo_binding]
  simp only [List.mem_map, List.mem_filter, Bool.not_eq_true']
  constructor
  · rintro ⟨e, ⟨he, hp⟩, rfl⟩
    exact ⟨⟨e, he, rfl⟩, hp⟩
  · rintro ⟨⟨e, he, rfl⟩, hp⟩
    exact ⟨e, ⟨he, hp⟩, rfl⟩

theorem found_of_put {s t : State} {ix : Nat} {st : Station} (h : t.stations = s.stations.put ix st) : t.stations.find ix = some st := by
  rw [h]
  exact Table.find_put_same _ _ _

/-! ### The state: the steps of an unbinding or a reload -/

section steps
variable {s : State} {ix : Nat} {st : Station}

theorem prune_found (h : s.stations.find ix = some st) : s.prune ix =
    ((s.setStation ix (st.pruned s.channels)).leaveGroups st.groupRadio (st.unpermitted s.channels) ix).addTo
      (.replay .pruned) (st.unpermitted s.channels).length := by
  unfold State.prune
  rw [h]
  rfl

theorem repause_found (h : s.stations.find ix = some st) : s.repause ix = s.setStation ix (st.reflagged s.channels) := by
  unfold State.repause
  rw [h]

theorem setBinding_found (h : s.stations.find ix = some st) (b : Option Binding) : s.setBinding ix b = s.setStation ix (st.bindTo b) := by
  unfold State.setBinding
  rw [h]
  cases b <;> rfl

theorem shrinkHold_found (h : s.stations.find ix = some st) :
    (∀ j, (s.shrinkHold ix).stations.find j = if j = ix then some st.shrunk else s.stations.find j) ∧
      (s.shrinkHold ix).holdFree = s.holdFree + (st.held.length - st.tier.holdDepth) ∧
      (s.stations.wf = true → (s.shrinkHold ix).stations.wf = true) := by
  have hsame {t : State} (ht : t = s) (hs : st.shrunk = st) (hh : st.held.length - st.tier.holdDepth = 0) :
      (∀ j, t.stations.find j = if j = ix then some st.shrunk else s.stations.find j) ∧
        t.holdFree = s.holdFree + (st.held.length - st.tier.holdDepth) ∧ (s.stations.wf = true → t.stations.wf = true) := by
    rw [ht, hs, hh]
    refine ⟨fun j => ?_, rfl, id⟩
    split
    next hj => rw [hj, h]
    next => rfl
  unfold State.shrinkHold
  rw [h]
  obtain ⟨a, place, rate, tier, binding, subs⟩ := st
  cases place with
  | handoff o n d p held => exact ⟨fun j => Table.find_put _ _ _ _, rfl, fun hw => Table.wf_put _ _ hw⟩
  | associated r p => exact hsame rfl rfl (Nat.zero_sub _)
  | orphan r d => exact hsame rfl rfl (Nat.zero_sub _)

end steps

/-- What an unbinding and a reload share: the binding replaced, then pruning, the pause evaluation and the hold shrink (R99, R101). -/
def State.realign (s : State) (ix : Nat) (b : Option Binding) : State := (((s.setBinding ix b).prune ix).repause ix).shrinkHold ix

theorem unbind_eq (s : State) (slot ix : Nat) :
    s.unbind slot ix = ((s.dropBound slot ix).realign ix none).count (.admission .unbindings) := rfl

theorem reload_eq (s : State) (slot : Nat) (p : Pass) (ix : Nat) :
    s.reload slot p ix = (s.realign ix (some (p.grant slot s.seatMap))).count (.admission .reloads) := rfl

theorem realign_frame (s : State) (ix : Nat) (b : Option Binding) :
    ChangesOnly [.stations, .holdFree, .groups, .offers, .counters] s (s.realign ix b) :=
  ((((setBinding_frame s ix b).le (gs := [.stations, .holdFree, .groups, .offers, .counters])).step (prune_frame _ _)).step
    (repause_frame _ _)).step (shrinkHold_frame _ _)

theorem realign_none {s : State} {ix : Nat} (h : s.stations.find ix = none) (b : Option Binding) : s.realign ix b = s := by
  have h1 : s.setBinding ix b = s := by unfold State.setBinding; rw [h]
  have h2 : s.prune ix = s := by unfold State.prune; rw [h]
  have h3 : s.repause ix = s := by unfold State.repause; rw [h]
  have h4 : s.shrinkHold ix = s := by unfold State.shrinkHold; rw [h]
  rw [State.realign, h1, h2, h3, h4]

section realign
variable {s : State} {ix : Nat} {st : Station}

/-- The state before the hold shrink of a realignment. -/
theorem realign_upToShrink (h : s.stations.find ix = some st) (b : Option Binding) : ∃ t : State, s.realign ix b = t.shrinkHold ix ∧
    t.stations = s.stations.put ix (((st.bindTo b).pruned s.channels).reflagged s.channels) ∧ t.holdFree = s.holdFree ∧
    (s.GroupsSound → t.GroupsSound ∧ ∀ r c, t.group r c =
      if st.groupRadio = some r ∧ c ∈ ((st.bindTo b).unpermitted s.channels).map Subscription.channel then s.groupWithout ix r c
      else s.group r c) := by
  have h1 : s.setBinding ix b = s.setStation ix (st.bindTo b) := setBinding_found h b
  have h2 := prune_found (s := s.setStation ix (st.bindTo b)) (ix := ix) (Table.find_put_same _ _ _)
  have hr : (st.bindTo b).groupRadio = st.groupRadio := groupRadio_congr (bindTo_place b st)
  generalize hp : (s.setStation ix (st.bindTo b)).prune ix = u at h2
  have hus : u.stations = s.stations.put ix ((st.bindTo b).pruned s.channels) := by
    rw [h2, State.addTo_stations, leaveGroups_stations]
    exact Table.put_put _ _ _ _
  have huc : u.channels = s.channels := by rw [h2, State.addTo_channels, leaveGroups_channels]; rfl
  have huh : u.holdFree = s.holdFree := by rw [h2, State.addTo_holdFree, leaveGroups_holdFree]; rfl
  have h3 : u.repause ix = _ := repause_found (by rw [hus]; exact Table.find_put_same _ _ _)
  refine ⟨u.repause ix, by rw [State.realign, h1, hp], ?_, ?_, fun hs => ?_⟩
  · rw [h3, State.setStation_stations, hus, huc]
    exact Table.put_put _ _ _ _
  · rw [h3, State.setStation_holdFree, huh]
  · have hug : (u.repause ix).groups =
        (((s.setStation ix (st.bindTo b)).setStation ix ((st.bindTo b).pruned s.channels)).leaveGroups st.groupRadio
          ((st.bindTo b).unpermitted s.channels) ix).groups := by
      rw [h3, State.setStation_groups, h2, State.addTo_groups, hr, State.setStation_channels]
    have hagain : ((s.setStation ix (st.bindTo b)).setStation ix ((st.bindTo b).pruned s.channels)).GroupsSound := hs.congr (by rfl)
    refine ⟨(hagain.leaveGroups _ _ _).congr hug, fun r c => ?_⟩
    rw [group_congr hug, leaveGroups_group hagain]
    rfl

theorem realign_station (h : s.stations.find ix = some st) (b : Option Binding) (j : Nat) :
    (s.realign ix b).stations.find j = if j = ix then some (st.realigned s.channels b) else s.stations.find j := by
  obtain ⟨t, ht, hts, -, -⟩ := realign_upToShrink h b
  have hf := found_of_put hts
  rw [ht, (shrinkHold_found hf).1, hts, Table.find_put]
  split <;> rfl

theorem realign_holdFree (h : s.stations.find ix = some st) (b : Option Binding) :
    (s.realign ix b).holdFree = s.holdFree + (st.held.length - (st.bindTo b).tier.holdDepth) := by
  obtain ⟨t, ht, hts, hth, -⟩ := realign_upToShrink h b
  have hf := found_of_put hts
  have hh : (((st.bindTo b).pruned s.channels).reflagged s.channels).held = st.held := held_congr (bindTo_place b st)
  rw [ht, (shrinkHold_found hf).2.1, hth, hh]
  rfl

theorem realign_wf (b : Option Binding) (hw : s.stations.wf = true) : (s.realign ix b).stations.wf = true := by
  rcases h : s.stations.find ix with _ | st
  · rwa [realign_none h]
  · obtain ⟨t, ht, hts, -, -⟩ := realign_upToShrink h b
    have hf := found_of_put hts
    rw [ht]
    exact (shrinkHold_found hf).2.2 (hts ▸ Table.wf_put _ _ hw)

theorem realign_groups (h : s.stations.find ix = some st) (b : Option Binding) (hs : s.GroupsSound) :
    (s.realign ix b).GroupsSound ∧ ∀ r c, (s.realign ix b).group r c =
      if st.groupRadio = some r ∧ c ∈ st.subs.map Subscription.channel ∧ permitted s.channels b c = false then
        s.groupWithout ix r c
      else s.group r c := by
  obtain ⟨t, ht, -, -, htg⟩ := realign_upToShrink h b
  obtain ⟨hsound, hg⟩ := htg hs
  have hgroups : (s.realign ix b).groups = t.groups := by rw [ht]; exact shrinkHold_frame t ix .groups (by decide)
  refine ⟨hsound.congr hgroups, fun r c => ?_⟩
  rw [group_congr hgroups, hg]
  exact if_congr (and_congr_right fun _ => unpermitted_channels _ _ _ c) rfl rfl

/-- A realignment leaves every station but its own. -/
theorem realign_other (s : State) {ix j : Nat} (hj : j ≠ ix) (b : Option Binding) :
    (s.realign ix b).stations.find j = s.stations.find j := by
  rcases h : s.stations.find ix with _ | st
  · rw [realign_none h]
  · rw [realign_station h, if_neg hj]

end realign

/-! ### Bound lists -/

theorem dropBound_passes (s : State) (slot ix j : Nat) : (s.dropBound slot ix).passes.find j =
    (s.passes.find j).map fun p => if j = slot then { p with bound := p.bound.erase ix } else p := by
  unfold State.dropBound
  split
  next h =>
    rcases hj : s.passes.find j with _ | p
    · rfl
    · rw [Option.map_some, if_neg (by rintro rfl; rw [h] at hj; cases hj)]
  next p h =>
    rw [State.setPass_passes, Table.find_put]
    split
    next hj => rw [hj, h, Option.map_some]
    next hj => simp

theorem dropBound_wf {s : State} (hw : s.passes.wf = true) (slot ix : Nat) : (s.dropBound slot ix).passes.wf = true := by
  unfold State.dropBound
  split
  · exact hw
  · exact Table.wf_put _ _ hw

/-! ### Unbinding (R99, R100) -/

section unbind
variable {s : State} {slot ix : Nat}

/-- An unbinding realigns its station without a binding; the pass's bound list has no part in that. -/
theorem unbind_station {st : Station} (h : s.stations.find ix = some st) (j : Nat) :
    (s.unbind slot ix).stations.find j = if j = ix then some (st.realigned s.channels none) else s.stations.find j := by
  have hd : (s.dropBound slot ix).stations = s.stations := dropBound_frame s slot ix .stations (by decide)
  have hc : (s.dropBound slot ix).channels = s.channels := dropBound_frame s slot ix .channels (by decide)
  rw [unbind_eq, State.count_stations, realign_station (hd.symm ▸ h), hd, hc]

theorem unbind_other {j : Nat} (hj : j ≠ ix) : (s.unbind slot ix).stations.find j = s.stations.find j := by
  have hd : (s.dropBound slot ix).stations = s.stations := dropBound_frame s slot ix .stations (by decide)
  rw [unbind_eq, State.count_stations, realign_other _ hj, hd]

theorem unbind_holdFree {st : Station} (h : s.stations.find ix = some st) :
    (s.unbind slot ix).holdFree = s.holdFree + (st.held.length - 8) := by
  have hd : (s.dropBound slot ix).stations = s.stations := dropBound_frame s slot ix .stations (by decide)
  have hh : (s.dropBound slot ix).holdFree = s.holdFree := dropBound_frame s slot ix .holdFree (by decide)
  rw [unbind_eq, State.count_holdFree, realign_holdFree (hd.symm ▸ h), hh]
  rfl

theorem unbind_wf (hw : s.stations.wf = true) : (s.unbind slot ix).stations.wf = true := by
  have hd : (s.dropBound slot ix).stations = s.stations := dropBound_frame s slot ix .stations (by decide)
  exact realign_wf none (hd.symm ▸ hw)

theorem unbind_groups {st : Station} (h : s.stations.find ix = some st) (hs : s.GroupsSound) :
    (s.unbind slot ix).GroupsSound ∧ ∀ r c, (s.unbind slot ix).group r c =
      if st.groupRadio = some r ∧ c ∈ st.subs.map Subscription.channel ∧ permitted s.channels none c = false then
        s.groupWithout ix r c
      else s.group r c := by
  have hd : (s.dropBound slot ix).stations = s.stations := dropBound_frame s slot ix .stations (by decide)
  have hc : (s.dropBound slot ix).channels = s.channels := dropBound_frame s slot ix .channels (by decide)
  have hg : (s.dropBound slot ix).groups = s.groups := dropBound_frame s slot ix .groups (by decide)
  obtain ⟨h1, h2⟩ := realign_groups (hd.symm ▸ h) none (hs.congr hg)
  refine ⟨h1.congr (by rfl), fun r c => ?_⟩
  rw [unbind_eq, State.count_group, h2, groupWithout_congr (group_congr hg r c), group_congr hg, hc]

theorem unbind_passes (s : State) (slot ix j : Nat) : (s.unbind slot ix).passes.find j =
    (s.passes.find j).map fun p => if j = slot then { p with bound := p.bound.erase ix } else p := by
  rw [unbind_eq, State.count_passes, realign_frame _ ix none .passes (by decide), dropBound_passes]

theorem unbind_passes_wf (hw : s.passes.wf = true) : (s.unbind slot ix).passes.wf = true := by
  rw [unbind_eq, State.count_passes, realign_frame _ ix none .passes (by decide)]
  exact dropBound_wf hw slot ix

theorem unbind_channels (s : State) (slot ix : Nat) : (s.unbind slot ix).channels = s.channels :=
  unbind_frame s slot ix .channels (by decide)

end unbind

end Sys2Proof.Machine
end

section
/-! PROOFS. What the end of a pass and the freeing of a station leave (R13, R72, R74, R100). -/

namespace Sys2Proof.Machine

/- The whole text is elaborated in one process: its proofs in turn, so that their threads' stacks stay within its memory. -/
set_option Elab.async false

/-! ### Every station of a pass unbound (R100) -/

theorem foldl_erase_self (l : List Nat) : l.foldl List.erase l = [] := by
  induction l with
  | nil => rfl
  | cons a l ih => simpa using ih

section unbindAll
variable {s : State} {slot : Nat}

theorem unbindAll_other {l : List Nat} {j : Nat} (hj : j ∉ l) : (s.unbindAll slot l).stations.find j = s.stations.find j := by
  unfold State.unbindAll
  induction l generalizing s with
  | nil => rfl
  | cons ix l ih =>
    rw [List.mem_cons, not_or] at hj
    rw [List.foldl_cons, ih hj.2, unbind_other hj.1]

/-- A station without a binding, and so with tier GUEST (R92). -/
def Station.Unbound (st : Station) : Prop := st.binding = none ∧ st.tier = .guest

theorem unbind_unbound (s : State) (slot : Nat) {ix j : Nat} (h : j = ix ∨ ∀ st, s.stations.find j = some st → st.Unbound) (st : Station)
    (hst : (s.unbind slot ix).stations.find j = some st) : st.Unbound := by
  by_cases hj : j = ix
  · subst hj
    rcases hf : s.stations.find j with _ | st0
    · have hd : (s.dropBound slot j).stations = s.stations := dropBound_frame s slot j .stations (by decide)
      rw [unbind_eq, State.count_stations, realign_none (hd.symm ▸ hf), hd, hf] at hst
      cases hst
    · rw [unbind_station hf, if_pos rfl] at hst
      cases hst
      exact ⟨realigned_binding _ none st0, rfl⟩
  · rw [unbind_other hj] at hst
    rcases h with h | h
    · exact absurd h hj
    · exact h st hst

theorem unbindAll_unbound (l : List Nat) {j : Nat} (h : j ∈ l ∨ ∀ st, s.stations.find j = some st → st.Unbound) (st : Station)
    (hst : (s.unbindAll slot l).stations.find j = some st) : st.Unbound := by
  unfold State.unbindAll at hst
  induction l generalizing s with
  | nil => exact h.elim (fun hm => absurd hm (List.not_mem_nil)) (fun hs => hs st hst)
  | cons ix l ih =>
    rw [List.foldl_cons] at hst
    refine ih (s := s.unbind slot ix) ?_ hst
    by_cases hl : j ∈ l
    · exact .inl hl
    · refine .inr fun st' hst' => unbind_unbound s slot ?_ st' hst'
      rcases h with h | h
      · exact .inl ((List.mem_cons.mp h).resolve_right hl)
      · exact .inr h

theorem unbindAll_passes (s : State) (slot : Nat) (l : List Nat) (j : Nat) : (s.unbindAll slot l).passes.find j =
    (s.passes.find j).map fun p => if j = slot then { p with bound := l.foldl List.erase p.bound } else p := by
  unfold State.unbindAll
  induction l generalizing s with
  | nil =>
    rw [List.foldl_nil]
    rcases s.passes.find j with _ | p <;> simp
  | cons ix l ih =>
    rw [List.foldl_cons, ih, unbind_passes, Option.map_map]
    congr 1
    funext p
    by_cases hj : j = slot <;> simp [hj]

theorem unbindAll_passes_wf (hw : s.passes.wf = true) (l : List Nat) : (s.unbindAll slot l).passes.wf = true :=
  foldl_induction (P := fun s => s.passes.wf = true) (fun _ _ h => unbind_passes_wf h) l hw

end unbindAll

section endPass
variable (s : State) (slot : Nat) (p : Pass) (e : PassState)

/-- An ended pass's bound list is empty, and the other passes stand (R72, R74). -/
theorem endPass_passes (j : Nat) : (s.endPass slot p e).passes.find j =
    if j = slot then some { p with state := e, bound := [] } else s.passes.find j := by
  rw [State.endPass, unbindAll_passes, State.setPass_passes, Table.find_put]
  by_cases hj : j = slot
  · simp [hj, foldl_erase_self]
  · simp [hj]

theorem endPass_unbound {ix : Nat} (h : ix ∈ p.bound) (st : Station) (hst : (s.endPass slot p e).stations.find ix = some st) :
    st.Unbound := unbindAll_unbound p.bound (.inl h) st hst

theorem endPass_other {ix : Nat} (h : ix ∉ p.bound) : (s.endPass slot p e).stations.find ix = s.stations.find ix :=
  unbindAll_other h

end endPass

/-! ### Station counts -/

theorem lowerCounts_count (s : State) (st : Station) (r : RadioIx) :
    (s.lowerCounts st.place).stationCount[r] = s.stationCount[r] - st.load r := by
  obtain ⟨_, place, _, _, _, _⟩ := st
  cases place with
  | associated o p =>
    show (s.stationCount.set o (s.stationCount[o] - 1))[r] = _
    rw [vector_set_get, Station.load, Station.isOn]
    by_cases h : r = o
    · subst h; simp
    · have hb : (o == r) = false := beq_eq_false_iff_ne.mpr (Ne.symm h)
      simp [h, hb]
  | handoff o n d p held =>
    rw [State.lowerCounts, Station.load, Station.isOn]
    by_cases hon : o = n
    · rw [if_pos hon]
      show (s.stationCount.set o (s.stationCount[o] - 1))[r] = _
      rw [vector_set_get]
      subst hon
      by_cases h : r = o
      · subst h; simp
      · have hb : (o == r) = false := beq_eq_false_iff_ne.mpr (Ne.symm h)
        simp [h, hb]
    · rw [if_neg hon]
      show ((s.stationCount.set o (s.stationCount[o] - 1)).set n ((s.stationCount.set o (s.stationCount[o] - 1))[n] - 1))[r] = _
      rw [vector_set_get, vector_set_get, vector_set_get]
      by_cases h1 : r = n
      · subst h1; simp [Ne.symm hon]
      · by_cases h2 : r = o
        · subst h2; simp [h1]
        · have hb1 : (n == r) = false := beq_eq_false_iff_ne.mpr (Ne.symm h1)
          have hb2 : (o == r) = false := beq_eq_false_iff_ne.mpr (Ne.symm h2)
          simp [h1, h2, hb1, hb2]
  | orphan o d => simp [State.lowerCounts, Station.load, Station.isOn]

/-! ### Freeing (R13) -/

theorem endSubscriptions_found {s : State} {ix : Nat} {st : Station} (h : s.stations.find ix = some st) :
    s.endSubscriptions ix = (s.setStation ix { st with subs := [] }).leaveGroups st.groupRadio st.subs ix := by
  unfold State.endSubscriptions
  rw [h]

theorem discardHold_found {s : State} {ix : Nat} {st : Station} (h : s.stations.find ix = some st) :
    s.discardHold ix = s.discardHeld st.held := by
  unfold State.discardHold
  rw [h]

/-- What unbinding the station to be freed leaves (R13, step 1): its context as the later steps find it. -/
structure FreeReady (s t : State) (ix : Nat) (st st' : Station) : Prop where
  found : t.stations.find ix = some st'
  others : ∀ j, j ≠ ix → t.stations.find j = s.stations.find j
  held : t.holdFree + st'.held.length = s.holdFree + st.held.length
  radio : st'.groupRadio = st.groupRadio
  groups : s.GroupsSound → t.GroupsSound ∧ ∀ r c, t.group r c =
    if st.groupRadio = some r ∧ c ∈ st.subs.map Subscription.channel ∧ c ∉ st'.subs.map Subscription.channel then
      s.groupWithout ix r c
    else s.group r c
  kept : ∀ c ∈ st'.subs.map Subscription.channel, c ∈ st.subs.map Subscription.channel

theorem unbindStation_ready {s : State} {ix : Nat} {st : Station} (h : s.stations.find ix = some st) :
    ∃ st', FreeReady s (s.unbindStation ix st) ix st st' := by
  rcases hb : st.binding with _ | b
  · refine ⟨st, ?_⟩
    have hs : s.unbindStation ix st = s := by unfold State.unbindStation; rw [hb]
    rw [hs]
    exact ⟨h, fun _ _ => rfl, rfl, rfl, fun hg => ⟨hg, fun r c => by
      rw [if_neg fun ⟨_, hc, hn⟩ => hn hc]⟩, fun _ hc => hc⟩
  · have hs : s.unbindStation ix st = s.unbind b.slot ix := by unfold State.unbindStation; rw [hb]
    rw [hs]
    refine ⟨st.realigned s.channels none, ?_, fun j hj => unbind_other hj, ?_, realigned_groupRadio _ _ _, fun hg => ?_, ?_⟩
    · rw [unbind_station h, if_pos rfl]
    · rw [unbind_holdFree h, realigned_held]
      show _ + (st.held.drop (st.held.length - 8)).length = _
      rw [List.length_drop]
      omega
    · obtain ⟨h1, h2⟩ := unbind_groups (slot := b.slot) h hg
      refine ⟨h1, fun r c => ?_⟩
      rw [h2, realigned_channels]
      refine if_congr (and_congr_right fun _ => and_congr_right fun hc => ?_) rfl rfl
      simp [List.mem_filter, hc]
    · intro c hc
      rw [realigned_channels] at hc
      exact List.mem_of_mem_filter hc

section free
variable {s : State} {ix : Nat} {st : Station}

/-- The state before the last steps of a freeing, which touch neither its stations but the freed one nor its groups. -/
theorem free_upToDrop (h : s.stations.find ix = some st) : ∃ t : State, ∃ st', FreeReady s t ix st st' ∧
    (∀ j, j ≠ ix → (s.free ix st).stations.find j = t.stations.find j) ∧ (s.free ix st).holdFree = t.holdFree + st'.held.length ∧
    (s.free ix st).groups = ((t.setStation ix { st' with subs := [] }).leaveGroups st'.groupRadio st'.subs ix).groups := by
  obtain ⟨st', hr⟩ := unbindStation_ready h
  refine ⟨s.unbindStation ix st, st', hr, ?_⟩
  generalize hu : s.unbindStation ix st = u at hr
  have he := endSubscriptions_found hr.found
  have hd : (u.endSubscriptions ix).discardHold ix = (u.endSubscriptions ix).discardHeld st'.held :=
    discardHold_found (st := { st' with subs := [] }) (by
      rw [he, leaveGroups_stations]
      exact Table.find_put_same _ _ _)
  have hfree : s.free ix st = (({ { (u.endSubscriptions ix).discardHeld st'.held with
      addressMap := ((u.endSubscriptions ix).discardHeld st'.held).addressMap.drop st.device.toNat }.lowerCounts st.place with
        stations := ((u.endSubscriptions ix).discardHeld st'.held).stations.drop ix })).count (.station .freed) := by
    rw [State.free, hu, hd]
  refine ⟨fun j hj => ?_, ?_, ?_⟩
  · rw [hfree, State.count_stations]
    show (Table.drop ((u.endSubscriptions ix).discardHeld st'.held).stations ix).find j = _
    rw [Table.find_drop, if_neg hj, discardHeld_frame _ _ .stations (by decide), he, leaveGroups_stations]
    exact Table.find_put_other _ _ hj
  · rw [hfree, State.count_holdFree]
    show (State.lowerCounts _ st.place).holdFree = _
    rw [lowerCounts_holdFree]
    show (u.endSubscriptions ix).holdFree + st'.held.length = _
    rw [he, leaveGroups_holdFree]
    rfl
  · rw [hfree, State.count_groups]
    show (State.lowerCounts _ st.place).groups = _
    rw [lowerCounts_groups]
    show ((u.endSubscriptions ix).discardHeld st'.held).groups = _
    rw [discardHeld_frame _ _ .groups (by decide), he]

theorem free_station (h : s.stations.find ix = some st) (j : Nat) :
    (s.free ix st).stations.find j = if j = ix then none else s.stations.find j := by
  split
  next hj =>
    rw [hj]
    show (Table.drop _ ix).find ix = none
    rw [Table.find_drop, if_pos rfl]
  next hj =>
    obtain ⟨t, st', hr, ht, -, -⟩ := free_upToDrop h
    rw [ht j hj, hr.others j hj]

theorem free_holdFree (h : s.stations.find ix = some st) : (s.free ix st).holdFree = s.holdFree + st.held.length := by
  obtain ⟨t, st', hr, -, ht, -⟩ := free_upToDrop h
  rw [ht, hr.held]

theorem free_groups (h : s.stations.find ix = some st) (hs : s.GroupsSound) :
    (s.free ix st).GroupsSound ∧ ∀ r c, (s.free ix st).group r c =
      if st.groupRadio = some r ∧ c ∈ st.subs.map Subscription.channel then s.groupWithout ix r c else s.group r c := by
  obtain ⟨t, st', hr, -, -, hg⟩ := free_upToDrop h
  obtain ⟨h1, h2⟩ := hr.groups hs
  have hset : (t.setStation ix { st' with subs := [] }).GroupsSound := h1.congr (by rfl)
  refine ⟨(hset.leaveGroups _ _ _).congr hg, fun r c => ?_⟩
  rw [group_congr hg, leaveGroups_group hset, groupWithout_congr (State.setStation_group _ _ _ _ _), State.setStation_group, hr.radio]
  have hrc := h2 r c
  by_cases hradio : st.groupRadio = some r
  · by_cases hc : c ∈ st.subs.map Subscription.channel
    · by_cases hc' : c ∈ st'.subs.map Subscription.channel
      · rw [if_neg fun hp => hp.2.2 hc'] at hrc
        rw [if_pos ⟨hradio, hc'⟩, if_pos ⟨hradio, hc⟩, groupWithout_congr hrc]
      · rw [if_pos ⟨hradio, hc, hc'⟩] at hrc
        rw [if_neg fun hp => hc' hp.2, if_pos ⟨hradio, hc⟩, hrc]
    · rw [if_neg fun hp => hc hp.2.1] at hrc
      rw [if_neg fun hp => hc (hr.kept c hp.2), if_neg fun hp => hc hp.2, hrc]
  · rw [if_neg fun hp => hradio hp.1] at hrc
    rw [if_neg fun hp => hradio hp.1, if_neg fun hp => hradio hp.1, hrc]

/-- The state of a freeing before its address and its counts go. -/
def State.emptied (s : State) (ix : Nat) (st : Station) : State := ((s.unbindStation ix st).endSubscriptions ix).discardHold ix

theorem free_eq (s : State) (ix : Nat) (st : Station) : s.free ix st =
    ({ { s.emptied ix st with addressMap := (s.emptied ix st).addressMap.drop st.device.toNat }.lowerCounts st.place with
      stations := (s.emptied ix st).stations.drop ix }).count (.station .freed) := rfl

theorem emptied_frame (s : State) (ix : Nat) (st : Station) : ChangesOnly (.counters :: unbindFields) s (s.emptied ix st) :=
  ((unbindStation_frame s ix st).step (endSubscriptions_frame _ ix)).step (discardHold_frame _ ix)

theorem free_addressMap (s : State) (ix : Nat) (st : Station) : (s.free ix st).addressMap = s.addressMap.drop st.device.toNat := by
  rw [free_eq, State.count_addressMap]
  show (State.lowerCounts _ st.place).addressMap = _
  rw [lowerCounts_addressMap]
  show (s.emptied ix st).addressMap.drop _ = _
  rw [emptied_frame s ix st .addressMap (by decide)]

theorem lowerCount_congr {s t : State} (h : t.stationCount = s.stationCount) (r : RadioIx) :
    (t.lowerCount r).stationCount = (s.lowerCount r).stationCount := by
  simp only [State.lowerCount_stationCount, h]

theorem lowerCounts_congr {s t : State} (h : t.stationCount = s.stationCount) (p : Place) :
    (t.lowerCounts p).stationCount = (s.lowerCounts p).stationCount := by
  unfold State.lowerCounts
  split
  · exact lowerCount_congr h _
  · split
    · exact lowerCount_congr h _
    · exact lowerCount_congr (lowerCount_congr h _) _
  · exact h

theorem free_stationCount (s : State) (ix : Nat) (st : Station) :
    (s.free ix st).stationCount = (s.lowerCounts st.place).stationCount := by
  rw [free_eq, State.count_stationCount]
  have h : { s.emptied ix st with addressMap := (s.emptied ix st).addressMap.drop st.device.toNat }.stationCount = s.stationCount :=
    emptied_frame s ix st .stationCount (by decide)
  exact lowerCounts_congr h st.place

theorem unbindStation_passes (s : State) (ix : Nat) (st : Station) (j : Nat) : (s.unbindStation ix st).passes.find j =
    (s.passes.find j).map fun p => if st.binding.map Binding.slot = some j then { p with bound := p.bound.erase ix } else p := by
  unfold State.unbindStation
  split
  next hb =>
    rw [hb]
    simp
  next b hb =>
    rw [unbind_passes, hb]
    simp [eq_comm]

theorem free_passes (s : State) (ix : Nat) (st : Station) (j : Nat) : (s.free ix st).passes.find j =
    (s.passes.find j).map fun p => if st.binding.map Binding.slot = some j then { p with bound := p.bound.erase ix } else p := by
  rw [← unbindStation_passes, free_eq, State.count_passes]
  show ((State.lowerCounts _ st.place).passes).find j = _
  rw [lowerCounts_passes]
  show (s.emptied ix st).passes.find j = _
  rw [State.emptied, discardHold_frame _ ix .passes (by decide), endSubscriptions_frame _ ix .passes (by decide)]

theorem free_passes_same (s : State) (ix : Nat) {st : Station} (h : st.binding = none) : (s.free ix st).passes = s.passes := by
  rw [free_eq, State.count_passes]
  show ((State.lowerCounts _ st.place).passes) = _
  rw [lowerCounts_passes]
  show (s.emptied ix st).passes = _
  rw [State.emptied, discardHold_frame _ ix .passes (by decide), endSubscriptions_frame _ ix .passes (by decide)]
  unfold State.unbindStation
  rw [h]

end free

/-! ### Groups without a station, under the sixth law -/

/-- Where the sixth law holds, a station that leaves the groups of its entries is out of every group. -/
theorem groupWithout_of_law {s : State} (hs : s.GroupsSound) (hm : s.Membered) {ix : Nat} {st : Station}
    (hf : s.stations.find ix = some st) (r : RadioIx) (c : ChannelIx) :
    (if st.groupRadio = some r ∧ c ∈ st.subs.map Subscription.channel then s.groupWithout ix r c else s.group r c) =
      s.groupWithout ix r c := by
  split
  · rfl
  next h =>
    refine (groupWithout_of_not_mem hs fun hin => h ?_).symm
    obtain ⟨st', hf', hb⟩ := (hm r c ix).mp hin
    rw [hf] at hf'
    cases hf'
    exact (belongs_iff st r c).mp hb

end Sys2Proof.Machine
end

section
/-! PROOFS. The sweeps (O36), and PASS_REVOKE, PASS_REMOVE and PASS_UNLOCK (O56). -/

namespace Sys2Proof.Machine

/- The whole text is elaborated in one process: its proofs in turn, so that their threads' stacks stay within its memory. -/
set_option Elab.async false

/-! ### The counters that the end of bindings can change -/

theorem Counter.unbinding_parts {c : Counter} (h : c.unbinding = false) : c.grouping = false ∧ c ≠ .replay .pruned ∧
    c ≠ .station .holdShrinkDrops ∧ c ≠ .admission .unbindings ∧ c ≠ .admission .reloads := by
  refine ⟨?_, ?_, ?_, ?_, ?_⟩
  · unfold Counter.unbinding at h
    split at h <;> first | exact h | cases h
  all_goals rintro rfl; cases h

section counters
variable (s : State) {c : Counter}

theorem realign_counter (h : c.unbinding = false) (ix : Nat) (b : Option Binding) : (s.realign ix b).counter c = s.counter c := by
  obtain ⟨hg, hp, hh, -, -⟩ := Counter.unbinding_parts h
  have hprune (t : State) : (t.prune ix).counter c = t.counter c := by
    unfold State.prune
    split
    · rfl
    · rw [addTo_other _ hp, leaveGroups_other _ hg]
      rfl
  have hshrink (t : State) : (t.shrinkHold ix).counter c = t.counter c := by
    unfold State.shrinkHold
    split
    · rfl
    · split
      · rw [addTo_other _ hh]
        rfl
      · rfl
  rw [State.realign, hshrink, counter_congr (repause_frame _ ix .counters (by decide)), hprune,
    counter_congr (setBinding_frame s ix b .counters (by decide))]

theorem unbind_counter (h : c.unbinding = false) (slot ix : Nat) : (s.unbind slot ix).counter c = s.counter c := by
  rw [unbind_eq, count_other _ (Counter.unbinding_parts h).2.2.2.1, realign_counter _ h,
    counter_congr (dropBound_frame s slot ix .counters (by decide))]

theorem unbindAll_counter (h : c.unbinding = false) (slot : Nat) (l : List Nat) : (s.unbindAll slot l).counter c = s.counter c :=
  foldl_other (fun s ix => unbind_counter s h slot ix) l s

theorem endPass_counter (h : c.unbinding = false) (slot : Nat) (p : Pass) (e : PassState) :
    (s.endPass slot p e).counter c = s.counter c := unbindAll_counter _ h slot _

end counters

/-! ### The expiry sweep (R88, R89) -/

theorem expirySweepVisit_stopped {s : State} (h : s.expirySweep.running = false) : exec .expirySweepVisit s = .next s := by
  dsimp only [exec, execExpirySweepVisit]
  exact event_idle (if_neg (by rw [h]; decide))

theorem expiryVisit_idle {s : State} {slot : Nat} (h : ∀ p, s.passes.find slot = some p → p.overdue s.phase = false) :
    s.expiryVisit slot = s := by
  unfold State.expiryVisit
  split
  · rfl
  next p hp => rw [if_neg (by rw [h p hp]; decide)]

theorem expiryVisit_overdue {s : State} {slot : Nat} {p : Pass} (h : s.passes.find slot = some p) (ho : p.overdue s.phase = true) :
    s.expiryVisit slot = (s.endPass slot p .expired).count (.pass .sweepExpiries) := by
  unfold State.expiryVisit
  rw [h]
  exact if_pos ho

/-- The state after a visit of the expiry sweep that is not its last (R88). -/
def State.expiryOn (v : State) (k : Nat) : State := { v with expirySweep := { running := true, cursor := k + 1 } }

/-- The state after the last visit of the expiry sweep (R89). -/
def State.expiryDone (v : State) : State :=
  ({ v with expirySweep := Sweep.stopped }.count (.pass .sweepsCompleted)).note .expirySweepComplete

section expiry
variable {s : State} (hr : s.inReset = false) (h : s.expirySweep.running = true)
include hr h

theorem expirySweepVisit_moves (hc : s.expirySweep.cursor < 8191) : exec .expirySweepVisit s =
    .next (((s.expiryVisit s.expirySweep.cursor).expiryOn s.expirySweep.cursor).settle s.notices) := by
  have hlt : s.expirySweep.cursor + 1 < Config.passSlots := Nat.succ_lt_succ hc
  dsimp only [exec, execExpirySweepVisit]
  rw [event_next _ hr, if_pos h, if_pos hlt]
  rfl

theorem expirySweepVisit_completes (hc : 8191 ≤ s.expirySweep.cursor) : exec .expirySweepVisit s =
    .next ((s.expiryVisit s.expirySweep.cursor).expiryDone.settle s.notices) := by
  have hlt : ¬ s.expirySweep.cursor + 1 < Config.passSlots := Nat.not_lt.mpr (Nat.succ_le_succ hc)
  dsimp only [exec, execExpirySweepVisit]
  rw [event_next _ hr, if_pos h, if_neg hlt]
  rfl

theorem expirySweepVisit_idle (hp : ∀ p, s.passes.find s.expirySweep.cursor = some p → p.overdue s.phase = false) :
    (s.expirySweep.cursor < 8191 →
      exec .expirySweepVisit s = .next { s with expirySweep := { running := true, cursor := s.expirySweep.cursor + 1 } }) ∧
    (s.expirySweep.cursor = 8191 → exec .expirySweepVisit s =
      .next ((({ s with expirySweep := { running := false, cursor := 0 } }.count (.pass .sweepsCompleted)).note
        .expirySweepComplete).settle s.notices)) := by
  refine ⟨fun hc => ?_, fun hc => ?_⟩
  · rw [expirySweepVisit_moves hr h hc, expiryVisit_idle hp]
    exact congrArg _ (settle_same rfl)
  · rw [expirySweepVisit_completes hr h (Nat.le_of_eq hc.symm), expiryVisit_idle hp]
    rfl

theorem expirySweepVisit_ends {p : Pass} (hf : s.passes.find s.expirySweep.cursor = some p) (ho : p.overdue s.phase = true) :
    ∃ t, exec .expirySweepVisit s = .next t ∧ t.passes.find s.expirySweep.cursor = some { p with state := .expired, bound := [] } ∧
      (∀ j, j ≠ s.expirySweep.cursor → t.passes.find j = s.passes.find j) ∧
      (∀ ix ∈ p.bound, ∀ st ∈ t.stations.find ix, st.binding = none ∧ st.tier = .guest) ∧
      (∀ ix, ix ∉ p.bound → t.stations.find ix = s.stations.find ix) ∧ Counted s t (.pass .sweepExpiries) 1 ∧
      (s.expirySweep.cursor < 8191 → t.expirySweep = { running := true, cursor := s.expirySweep.cursor + 1 } ∧
        t.notices = s.notices) ∧
      (s.expirySweep.cursor = 8191 → t.expirySweep = { running := false, cursor := 0 } ∧
        Counted s t (.pass .sweepsCompleted) 1 ∧ Noticed t .expirySweepComplete) := by
  have hv := expiryVisit_overdue hf ho
  have hp (j : Nat) : (s.expiryVisit s.expirySweep.cursor).passes.find j =
      if j = s.expirySweep.cursor then some { p with state := .expired, bound := [] } else s.passes.find j := by
    rw [hv, State.count_passes, endPass_passes]
  have hs : (s.expiryVisit s.expirySweep.cursor).stations = (s.endPass s.expirySweep.cursor p .expired).stations := by
    rw [hv, State.count_stations]
  have hn : (s.expiryVisit s.expirySweep.cursor).notices = s.notices := expiryVisit_frame s _ .notices (by decide)
  have hk : Counted s (s.expiryVisit s.expirySweep.cursor) (.pass .sweepExpiries) 1 := by
    rw [hv, Counted, count_counter, if_pos rfl, endPass_counter _ rfl]
  have hk' : (s.expiryVisit s.expirySweep.cursor).counter (.pass .sweepsCompleted) = s.counter (.pass .sweepsCompleted) := by
    rw [hv, count_other _ (by simp), endPass_counter _ rfl]
  have hmoves := expirySweepVisit_moves hr h
  have hcompletes := expirySweepVisit_completes hr h
  generalize s.expiryVisit s.expirySweep.cursor = v at hp hs hn hk hk' hmoves hcompletes
  have hunbound : ∀ ix ∈ p.bound, ∀ st ∈ v.stations.find ix, st.binding = none ∧ st.tier = .guest := fun ix hix st hst =>
    endPass_unbound s _ p .expired hix st (hs ▸ hst)
  have hothers : ∀ ix, ix ∉ p.bound → v.stations.find ix = s.stations.find ix := fun ix hix => by rw [hs, endPass_other _ _ _ _ hix]
  rcases Nat.lt_or_ge s.expirySweep.cursor 8191 with hlt | hge
  · refine ⟨_, hmoves hlt, ?_⟩
    rw [settle_same (show (v.expiryOn _).notices = s.notices from hn)]
    exact ⟨(hp _).trans (if_pos rfl), fun j hj => (hp j).trans (if_neg hj), hunbound, hothers, hk, fun _ => ⟨rfl, hn⟩,
      fun he => absurd he (Nat.ne_of_lt hlt)⟩
  · refine ⟨_, hcompletes hge, ?_⟩
    rw [settle_passes, settle_stations, settle_expirySweep]
    have hcount (c : Counter) (hc : ∀ l, c ≠ .lane l .noticesRaised) :
        (v.expiryDone.settle s.notices).counter c = if c = .pass .sweepsCompleted then
          min (v.counter c + 1) Config.counterMax else v.counter c := (settle_counter _ hc).trans (count_counter _ _ _)
    refine ⟨(hp _).trans (if_pos rfl), fun j hj => (hp j).trans (if_neg hj), hunbound, hothers, ?_, fun hlt =>
      absurd hlt (Nat.not_lt.mpr hge), fun _ => ⟨rfl, ?_, settle_noticed (note_noticed _ _)⟩⟩
    · rw [Counted, hcount _ (by simp), if_neg (by simp)]
      exact hk
    · rw [Counted, hcount _ (by simp), if_pos rfl, hk']

end expiry

/-! ### The zone sweep (R108, R109) -/

/-- The state after a visit of the zone sweep that is not its last (R108). -/
def State.zoneOn (v : State) (k : Nat) : State := { v with zoneSweep := { running := true, cursor := k + 1 } }

/-- The state after the last visit of the zone sweep (R109). -/
def State.zoneDone (v : State) : State :=
  ({ v with zoneSweep := Sweep.stopped }.count (.admission .sweepsCompleted)).note .zoneSweepComplete

theorem zoneVisit_idle {s : State} {ix : Nat} (h : ∀ st, s.stations.find ix = some st → st.binding = none) : s.zoneVisit ix = s := by
  unfold State.zoneVisit
  split
  · rfl
  next st hst =>
    rw [h st hst]

/-- A visit gives a bound station the zone set of its pass's blocks and evaluates its entries (R108). -/
theorem zoneVisit_bound {s : State} {ix : Nat} {st : Station} {b : Binding} {p : Pass} (hst : s.stations.find ix = some st)
    (hb : st.binding = some b) (hp : s.passes.find b.slot = some p) : ∃ u : State,
    s.zoneVisit ix = (if zoneOf s.seatMap p.home p.width = b.zone then u else u.count (.admission .zoneChanges)) ∧
      u = { s with stations := s.stations.put ix (Station.reflagged s.channels
        { st with binding := some { b with zone := zoneOf s.seatMap p.home p.width } }) } := by
  refine ⟨(s.setStation ix { st with binding := some { b with zone := zoneOf s.seatMap p.home p.width } }).repause ix, ?_, ?_⟩
  · unfold State.zoneVisit
    rw [hst]
    dsimp only
    rw [hb]
    dsimp only
    rw [hp]
  · rw [repause_found (Table.find_put_same _ _ _)]
    show { s with stations := (s.stations.put ix _).put ix _ } = _
    rw [Table.put_put]
    rfl

section zone
variable {s : State} (hr : s.inReset = false) (h : s.zoneSweep.running = true)
include hr h

theorem zoneSweepVisit_moves (hc : s.zoneSweep.cursor < 4095) : exec .zoneSweepVisit s =
    .next (((s.zoneVisit s.zoneSweep.cursor).zoneOn s.zoneSweep.cursor).settle s.notices) := by
  have hlt : s.zoneSweep.cursor + 1 < Config.stationContexts := Nat.succ_lt_succ hc
  dsimp only [exec, execZoneSweepVisit]
  rw [event_next _ hr, if_pos h, if_pos hlt]
  rfl

theorem zoneSweepVisit_completes (hc : 4095 ≤ s.zoneSweep.cursor) : exec .zoneSweepVisit s =
    .next ((s.zoneVisit s.zoneSweep.cursor).zoneDone.settle s.notices) := by
  have hlt : ¬ s.zoneSweep.cursor + 1 < Config.stationContexts := Nat.not_lt.mpr (Nat.succ_le_succ hc)
  dsimp only [exec, execZoneSweepVisit]
  rw [event_next _ hr, if_pos h, if_neg hlt]
  rfl

theorem zoneSweepVisit_idle (hst : ∀ st, s.stations.find s.zoneSweep.cursor = some st → st.binding = none) :
    (s.zoneSweep.cursor < 4095 → exec .zoneSweepVisit s =
      .next { s with zoneSweep := { running := true, cursor := s.zoneSweep.cursor + 1 } }) ∧
    (s.zoneSweep.cursor = 4095 → exec .zoneSweepVisit s =
      .next ((({ s with zoneSweep := { running := false, cursor := 0 } }.count (.admission .sweepsCompleted)).note
        .zoneSweepComplete).settle s.notices)) := by
  refine ⟨fun hc => ?_, fun hc => ?_⟩
  · rw [zoneSweepVisit_moves hr h hc, zoneVisit_idle hst]
    exact congrArg _ (settle_same rfl)
  · rw [zoneSweepVisit_completes hr h (Nat.le_of_eq hc.symm), zoneVisit_idle hst]
    rfl

theorem zoneSweepVisit_bound {st : Station} {b : Binding} {p : Pass} (hst : s.stations.find s.zoneSweep.cursor = some st)
    (hb : st.binding = some b) (hp : s.passes.find b.slot = some p) :
    ∃ t, exec .zoneSweepVisit s = .next t ∧
      t.stations = s.stations.put s.zoneSweep.cursor (Station.reflagged s.channels
        { st with binding := some { b with zone := zoneOf s.seatMap p.home p.width } }) ∧
      (zoneOf s.seatMap p.home p.width ≠ b.zone → Counted s t (.admission .zoneChanges) 1) ∧
      (zoneOf s.seatMap p.home p.width = b.zone →
        t.counter (.admission .zoneChanges) = s.counter (.admission .zoneChanges)) ∧
      (s.zoneSweep.cursor < 4095 → t.zoneSweep = { running := true, cursor := s.zoneSweep.cursor + 1 } ∧
        ChangesOnly [.zoneSweep, .stations, .counters] s t) ∧
      (s.zoneSweep.cursor = 4095 → t.zoneSweep = { running := false, cursor := 0 } ∧
        Counted s t (.admission .sweepsCompleted) 1 ∧ Noticed t .zoneSweepComplete ∧
        ChangesOnly ([.zoneSweep, .stations] ++ noticeFields) s t) := by
  obtain ⟨u, hv, hu⟩ := zoneVisit_bound hst hb hp
  have hframe := zoneVisit_frame s s.zoneSweep.cursor
  have hstations : (s.zoneVisit s.zoneSweep.cursor).stations = u.stations := by rw [hv]; split <;> rfl
  have hchange : zoneOf s.seatMap p.home p.width ≠ b.zone →
      Counted s (s.zoneVisit s.zoneSweep.cursor) (.admission .zoneChanges) 1 := fun hz => by
    rw [hv, if_neg hz, hu]
    exact count_counted _ _
  have hsame : zoneOf s.seatMap p.home p.width = b.zone →
      (s.zoneVisit s.zoneSweep.cursor).counter (.admission .zoneChanges) = s.counter (.admission .zoneChanges) := fun hz => by
    rw [hv, if_pos hz, hu]
    rfl
  have hdone : (s.zoneVisit s.zoneSweep.cursor).counter (.admission .sweepsCompleted) = s.counter (.admission .sweepsCompleted) := by
    have hus : u.counter (.admission .sweepsCompleted) = s.counter (.admission .sweepsCompleted) := by rw [hu]; rfl
    rw [hv]
    split
    · exact hus
    · rw [count_other _ (by simp), hus]
  rw [hu] at hstations
  have hmoves := zoneSweepVisit_moves hr h
  have hcompletes := zoneSweepVisit_completes hr h
  generalize s.zoneVisit s.zoneSweep.cursor = v at hframe hstations hchange hsame hdone hmoves hcompletes
  rcases Nat.lt_or_ge s.zoneSweep.cursor 4095 with hlt | hge
  · refine ⟨_, hmoves hlt, ?_⟩
    have hn : (v.zoneOn s.zoneSweep.cursor).notices = s.notices := hframe .notices (by decide)
    rw [settle_same hn]
    refine ⟨hstations, hchange, hsame, fun _ => ⟨rfl, ?_⟩, fun he => absurd he (Nat.ne_of_lt hlt)⟩
    have hlast : ChangesOnly [.zoneSweep] v (v.zoneOn s.zoneSweep.cursor) := by rintro (_ | _) h <;> first | rfl | simp at h
    exact (hframe.le (gs := [.zoneSweep, .stations, .counters])).step hlast
  · refine ⟨_, hcompletes hge, ?_⟩
    have hcount (c : Counter) (hc : ∀ l, c ≠ .lane l .noticesRaised) :
        (v.zoneDone.settle s.notices).counter c = if c = .admission .sweepsCompleted then
          min (v.counter c + 1) Config.counterMax else v.counter c := (settle_counter _ hc).trans (count_counter _ _ _)
    have hz := hcount (.admission .zoneChanges) (by simp)
    rw [if_neg (by simp)] at hz
    rw [settle_stations, settle_zoneSweep]
    refine ⟨hstations, fun hne => ?_, fun he => hz.trans (hsame he), fun hlt => absurd hlt (Nat.not_lt.mpr hge), fun _ =>
      ⟨rfl, ?_, settle_noticed (note_noticed _ _), ?_⟩⟩
    · rw [Counted, hz]
      exact hchange hne
    · rw [Counted, hcount _ (by simp), if_pos rfl, hdone]
    · have hlast : ChangesOnly [.zoneSweep, .counters, .notices] v v.zoneDone := by
        rintro (_ | _) h <;> first | rfl | simp at h
      exact ((hframe.le (gs := [.zoneSweep, .stations] ++ noticeFields)).step hlast).step (settle_frame _ _)

end zone

/-- Settles O36: by the sweep, by whether a run is under way, and by what stands at its cursor. -/
theorem sweepsVisitInOrder : Obligations.SweepsVisitInOrder := by
  refine ⟨fun s h => expirySweepVisit_stopped h, fun s hr h hp => expirySweepVisit_idle hr h hp,
    fun s p hr h hf ho => expirySweepVisit_ends hr h hf ho, fun s h => ?_,
    fun s st b p hr h hst hb hp => zoneSweepVisit_bound hr h hst hb hp, fun s hr h hst => zoneSweepVisit_idle hr h hst⟩
  dsimp only [exec, execZoneSweepVisit]
  exact event_idle (if_neg (by rw [h]; decide))

end Sys2Proof.Machine
end

section
/-! PROOFS. PASS_REVOKE, PASS_REMOVE and PASS_UNLOCK (O56). -/

namespace Sys2Proof.Machine

/- The whole text is elaborated in one process: its proofs in turn, so that their threads' stacks stay within its memory. -/
set_option Elab.async false

theorem passNumberOf_be32 (n : Word) : passNumberOf (be32 n.toNat) = some n := by
  rw [passNumberOf, if_pos (be32_length _), word_of_be32]

theorem answered_noticed {owned : State} {src : Source} (h : Noticed owned src) (s : State) (lane : LaneIx) (q : Request) (a : Answer)
    (block : List Byte) : Noticed (answered s lane q a block owned) src :=
  settle_noticed ((respond_steady owned lane _).noticed h)

/-- A pass named by its number is read the same by a service's owner (R156). -/
theorem passNumbered_congr {s t : State} (hm : t.passMap = s.passMap) (hp : t.passes = s.passes) (n : Word) :
    t.passNumbered n = s.passNumbered n := by
  rw [State.passNumbered, State.passNumbered, hm, hp]

theorem passNumbered_found {s : State} {n : Word} {slot : Nat} {p : Pass} (h : s.passNumbered n = some (slot, p)) :
    s.passMap.find n.toNat = some slot ∧ s.passes.find slot = some p := by
  unfold State.passNumbered at h
  split at h
  · cases h
  next k hk =>
    rw [Option.map_eq_some_iff] at h
    obtain ⟨p', hp', he⟩ := h
    cases he
    exact ⟨hk, hp'⟩

section owners
variable {n : Word} {s : State}

theorem ownPassRevoke_named (n : Word) (s : State) : ownPassRevoke (be32 n.toNat) s =
    (s.passNumbered n).elim (Reply.plain .notFound, s) fun e => s.revokePass e.1 e.2 := by
  unfold ownPassRevoke
  rw [passNumberOf_be32]
  dsimp only
  rcases s.passNumbered n with _ | ⟨slot, p⟩ <;> rfl

theorem ownPassRemove_named (n : Word) (s : State) : ownPassRemove (be32 n.toNat) s =
    (s.passNumbered n).elim (Reply.plain .notFound, s) fun e => s.removePass e.1 e.2 := by
  unfold ownPassRemove
  rw [passNumberOf_be32]
  dsimp only
  rcases s.passNumbered n with _ | ⟨slot, p⟩ <;> rfl

theorem ownPassUnlock_named (n : Word) (s : State) : ownPassUnlock (be32 n.toNat) s =
    (s.passNumbered n).elim (Reply.plain .notFound, s) fun e =>
      if e.2.state = .locked then
        (Reply.done [], (s.setPass e.1 { e.2 with state := .active, mismatches := 0 }).count (.pass .unlocks))
      else ({ answer := .conflict, block := [byteOf e.2.state.ctorIdx] }, s) := by
  unfold ownPassUnlock
  rw [passNumberOf_be32]
  dsimp only
  rcases s.passNumbered n with _ | ⟨slot, p⟩ <;> rfl

end owners

/-! ### What the owners leave -/

theorem revokePass_inForce {s : State} {slot : Nat} {p : Pass} (h : p.inForce = true) :
    (s.revokePass slot p).2.passes.find slot = some { p with state := .revoked, bound := [] } ∧
      (∀ ix ∈ p.bound, ∀ st ∈ (s.revokePass slot p).2.stations.find ix, st.Unbound) ∧
      Counted s (s.revokePass slot p).2 (.pass .revocations) 1 ∧
      (p.bound ≠ [] → Noticed (s.revokePass slot p).2 .passRevokedWithBoundStations) := by
  have he : (s.revokePass slot p).2 = if p.bound.isEmpty = false then
      ((s.endPass slot p .revoked).count (.pass .revocations)).note .passRevokedWithBoundStations
    else (s.endPass slot p .revoked).count (.pass .revocations) := by
    unfold State.revokePass
    dsimp only
    rw [h, if_pos rfl]
    cases p.bound.isEmpty <;> rfl
  have hsame : (s.revokePass slot p).2.passes = (s.endPass slot p .revoked).passes ∧
      (s.revokePass slot p).2.stations = (s.endPass slot p .revoked).stations ∧
      (s.revokePass slot p).2.counters = ((s.endPass slot p .revoked).count (.pass .revocations)).counters := by
    rw [he]
    split <;> exact ⟨rfl, rfl, rfl⟩
  obtain ⟨hp, hs, hc⟩ := hsame
  refine ⟨?_, fun ix hix st hst => ?_, ?_, fun hne => ?_⟩
  · rw [hp, endPass_passes, if_pos rfl]
  · exact endPass_unbound s slot p .revoked hix st (hs ▸ hst)
  · rw [Counted, counter_congr hc, count_counter, if_pos rfl, endPass_counter _ rfl]
  · rw [he, if_pos (by simpa using hne)]
    exact note_noticed _ _

theorem removePass_effect (s : State) (slot : Nat) (p : Pass) :
    (s.removePass slot p).2.passes.find slot = none ∧ (s.removePass slot p).2.passMap = s.passMap.drop p.number.toNat ∧
      (∀ ix ∈ p.bound, ∀ st ∈ (s.removePass slot p).2.stations.find ix, st.Unbound) ∧
      Counted s (s.removePass slot p).2 (.pass .removals) 1 := by
  refine ⟨?_, ?_, fun ix hix st hst => unbindAll_unbound p.bound (.inl hix) st hst, ?_⟩
  · show (Table.drop _ slot).find slot = none
    rw [Table.find_drop, if_pos rfl]
  · show Table.drop (s.unbindAll slot p.bound).passMap _ = _
    rw [unbindAll_frame s slot p.bound .passMap (by decide)]
  · rw [Counted]
    show ((State.count _ _).counter _) = _
    rw [count_counter, if_pos rfl, ← unbindAll_counter s (c := .pass .removals) rfl slot p.bound]
    rfl

/-! ### The requests -/

section requests
variable {lane : LaneIx} {q : Request} {s s0 : State} {n : Word} (hq : q.params = be32 n.toNat)
include hq

theorem passRequests_unknown (hn : s0.passNumbered n = none) :
    (Ready .passRevoke lane q s s0 → exec (.passRevoke lane) s = .next (answered s lane q .notFound [] s0)) ∧
      (Ready .passRemove lane q s s0 → exec (.passRemove lane) s = .next (answered s lane q .notFound [] s0)) ∧
      (Ready .passUnlock lane q s s0 → exec (.passUnlock lane) s = .next (answered s lane q .notFound [] s0)) := by
  refine ⟨fun hr => ?_, fun hr => ?_, fun hr => ?_⟩
  · rw [show exec (.passRevoke lane) s = _ from serve_ready ownPassRevoke hr, hq, ownPassRevoke_named, hn]
    rfl
  · rw [show exec (.passRemove lane) s = _ from serve_ready ownPassRemove hr, hq, ownPassRemove_named, hn]
    rfl
  · rw [show exec (.passUnlock lane) s = _ from serve_ready ownPassUnlock hr, hq, ownPassUnlock_named, hn]
    rfl

variable {slot : Nat} {p : Pass} (hn : s0.passNumbered n = some (slot, p))
include hn

theorem passRevoke_served (hr : Ready .passRevoke lane q s s0) : exec (.passRevoke lane) s =
    .next (answered s lane q (s0.revokePass slot p).1.answer (s0.revokePass slot p).1.block (s0.revokePass slot p).2) := by
  rw [show exec (.passRevoke lane) s = _ from serve_ready ownPassRevoke hr, hq, ownPassRevoke_named, hn]
  rfl

theorem passRemove_served (hr : Ready .passRemove lane q s s0) : exec (.passRemove lane) s =
    .next (answered s lane q (s0.removePass slot p).1.answer (s0.removePass slot p).1.block (s0.removePass slot p).2) := by
  rw [show exec (.passRemove lane) s = _ from serve_ready ownPassRemove hr, hq, ownPassRemove_named, hn]
  rfl

end requests

/-- Settles O56: the owner of each request by the pass that its number names. -/
theorem passRevokeRemoveUnlock : Obligations.PassRevokeRemoveUnlock := by
  intro lane q s s0 n hq
  refine ⟨fun hn => passRequests_unknown hq hn, fun slot p hn => ⟨fun hr hf => ?_, fun hr => ?_, fun hr hl => ?_, fun hr hl => ?_⟩⟩
  · refine ⟨_, passRevoke_served hq hn hr, ?_⟩
    obtain ⟨h1, h2, h3, h4⟩ := revokePass_inForce (s := s0) (slot := slot) hf
    rw [answered_frame s lane q _ _ _ .passes (by decide), answered_frame s lane q _ _ _ .stations (by decide)]
    refine ⟨h1, h2, ?_, fun hne => answered_noticed (h4 hne) _ _ _ _ _⟩
    rw [Counted, answered_counter _ _ _ _ _ (by simp), h3, ready_counter hr]
  · refine ⟨_, passRemove_served hq hn hr, ?_⟩
    obtain ⟨h1, h2, h3, h4⟩ := removePass_effect s0 slot p
    have hmap : s0.passMap = s.passMap := ready_frame hr .passMap (by decide)
    rw [answered_frame s lane q _ _ _ .passes (by decide), answered_frame s lane q _ _ _ .stations (by decide),
      answered_frame s lane q _ _ _ .passMap (by decide)]
    refine ⟨h1, hmap ▸ h2, h3, ?_⟩
    rw [Counted, answered_counter _ _ _ _ _ (by simp), h4, ready_counter hr]
  · rw [show exec (.passUnlock lane) s = _ from serve_ready ownPassUnlock hr, hq, ownPassUnlock_named, hn, Option.elim_some, if_pos hl]
    rfl
  · rw [show exec (.passUnlock lane) s = _ from serve_ready ownPassUnlock hr, hq, ownPassUnlock_named, hn, Option.elim_some, if_neg hl]
    rfl

end Sys2Proof.Machine
end

section
/-! PROOFS. Messages that arrive as expected (R33, R35), the screen (R9), and the refusals of a CLAIM (O35). -/

namespace Sys2Proof.Machine

/- The whole text is elaborated in one process: its proofs in turn, so that their threads' stacks stay within its memory. -/
set_option Elab.async false

/-! ### Arrival -/

/-- A message that arrives as expected is its owner's, on the state that the sequence check leaves (R33, R35). -/
theorem arrives_event {r : RadioIx} {q : Byte} {s s1 : State} (h : Arrives r q s s1) (owner : State → State) :
    event s (fun s => s.receive r q owner) = .next ((owner s1).settle s.notices) := by
  obtain ⟨hr, hu, hq, rfl⟩ := h
  rw [event_next _ hr, receive_up owner hu, checkSequence_expected hq]

theorem arrives_frame {r : RadioIx} {q : Byte} {s s1 : State} (h : Arrives r q s s1) : ChangesOnly [.links, .counters] s s1 := by
  obtain ⟨-, -, -, rfl⟩ := h
  exact ((setLink_frame s r _).le (gs := [.links, .counters])).step (count_frame _ _)

theorem arrives_counter {r : RadioIx} {q : Byte} {s s1 : State} (h : Arrives r q s s1) {c : Counter}
    (hc : c ≠ .link r .messagesReceived) : s1.counter c = s.counter c := by
  obtain ⟨-, -, -, rfl⟩ := h
  exact count_other _ hc

theorem arrives_links {r : RadioIx} {q : Byte} {s s1 : State} (h : Arrives r q s s1) :
    s1.links = s.links.set r { s.links[r] with rxSequence := q + 1 } := by
  obtain ⟨-, -, -, rfl⟩ := h
  rfl

theorem arrives_link {r : RadioIx} {q : Byte} {s s1 : State} (h : Arrives r q s s1) :
    s1.links[r] = { s.links[r] with rxSequence := q + 1 } := by
  rw [show s1.links[r] = (s.links.set r _)[r] from congrArg (fun v : Vector SeatLink 64 => v[r]) (arrives_links h), set_link_same]

theorem arrives_link_other {r r' : RadioIx} {q : Byte} {s s1 : State} (h : Arrives r q s s1) (hr : r' ≠ r) :
    s1.links[r'] = s.links[r'] := by
  rw [show s1.links[r'] = (s.links.set r _)[r'] from congrArg (fun v : Vector SeatLink 64 => v[r']) (arrives_links h),
    set_link_other _ hr]

theorem arrives_queue {r : RadioIx} {q : Byte} {s s1 : State} (h : Arrives r q s s1) (r' : RadioIx) :
    s1.links[r'].queue = s.links[r'].queue := by
  by_cases hr : r' = r
  · subst hr
    rw [arrives_link h]
  · rw [arrives_link_other h hr]

theorem arrives_up {r : RadioIx} {q : Byte} {s s1 : State} (h : Arrives r q s s1) : s1.links[r].state = .up := by
  rw [arrives_link h]
  exact h.2.1

/-! ### The screen (R9) -/

theorem screened_found {s : State} {r : RadioIx} {i : Half} {ix : Nat} {st : Station} (h : s.screened r i = some (ix, st)) :
    ix = i.toNat ∧ ix < 4096 ∧ s.stations.find ix = some st ∧ st.isOn r = true := by
  unfold State.screened at h
  split at h
  next hlt =>
    split at h
    · cases h
    next st' hf =>
      split at h
      next hon =>
        cases h
        exact ⟨rfl, hlt, hf, hon⟩
      · cases h
  · cases h

theorem screen_some {s : State} {r : RadioIx} {i : Half} {ix : Nat} {st : Station} (h : s.screened r i = some (ix, st))
    (owner : Nat → Station → State → State) : s.screen r i owner = owner ix st s := by
  unfold State.screen
  rw [h]

theorem screen_none {s : State} {r : RadioIx} {i : Half} (h : s.screened r i = none) (owner : Nat → Station → State → State) :
    s.screen r i owner = s.stray := by
  unfold State.screen
  rw [h]

/-! ### CLAIM (R94, R95) -/

theorem claim_arrives {r : RadioIx} {q : Byte} {i : Half} {s s1 : State} {ix : Nat} {st : Station} (h : Arrives r q s s1)
    (hs : s1.screened r i = some (ix, st)) (n : Word) (code : Half) :
    exec (.claim r q i n code) s = .next ((s1.claim r ix st n code).settle s.notices) := by
  dsimp only [exec, execClaim]
  rw [arrives_event h, screen_some hs]

section claim
variable {s : State} {r : RadioIx} {ix : Nat} {st : Station} {n : Word} {code : Half}

theorem claim_target (h : st.current ≠ r) :
    s.claim r ix st n code = (s.count (.admission .claimsReceived)).refuseClaim r ix n .notHere := if_neg h

theorem claim_current (h : st.current = r) :
    s.claim r ix st n code = (s.count (.admission .claimsReceived)).checkClaim r ix st n code := if_pos h

theorem checkClaim_unknown (h : s.passNumbered n = none) : s.checkClaim r ix st n code = s.refuseClaim r ix n .unknown := by
  rcases hm : s.passMap.find n.toNat with _ | slot
  · unfold State.checkClaim
    rw [hm]
  · have hp : s.passes.find slot = none := by simpa [State.passNumbered, hm] using h
    unfold State.checkClaim
    rw [hm]
    dsimp only
    rw [hp]

/-- The checks of R95 on the pass that a CLAIM names. -/
def State.checkPass (s : State) (r : RadioIx) (ix : Nat) (st : Station) (n : Word) (code : Half) (slot : Nat) (p : Pass) : State :=
  if p.state = .revoked then s.refuseClaim r ix n .revoked
  else if p.state = .expired then s.refuseClaim r ix n .expired
  else if p.state = .locked then s.refuseClaim r ix n .locked
  else if !p.begun s.phase then s.refuseClaim r ix n .notYet
  else if p.ended s.phase then (s.expireDirectly slot p).refuseClaim r ix n .expired
  else if code ≠ p.code then (s.mismatch slot p).refuseClaim r ix n .mismatch
  else if p.bound.contains ix then (s.count (.admission .reconfirmed)).grantClaim r ix p
  else if Config.boundLimit ≤ p.bound.length then s.refuseClaim r ix n .inUse
  else s.bindClaim r ix st slot p

theorem checkClaim_known {slot : Nat} {p : Pass} (h : s.passNumbered n = some (slot, p)) :
    s.checkClaim r ix st n code = s.checkPass r ix st n code slot p := by
  obtain ⟨hm, hp⟩ := passNumbered_found h
  unfold State.checkClaim State.checkPass
  rw [hm]
  dsimp only
  rw [hp]
  dsimp only
  rcases hs : p.state with _ | _ | _ | _ <;> rfl

end claim

/-- A refused CLAIM, as R94 has it. -/
def State.claimRefused (u : State) (r : RadioIx) (ix : Nat) (n : Word) (result : ClaimResult) : State :=
  (((result.counter.elim u u.count).note .claimRefused).send r (.passResult ix n result .guest))

theorem refuseClaim_eq (u : State) (r : RadioIx) (ix : Nat) (n : Word) (result : ClaimResult) :
    u.refuseClaim r ix n result = u.claimRefused r ix n result := by
  cases result <;> rfl

/-- A mismatch short of the third raises the count; the third locks the pass (R84). -/
theorem mismatch_short {s : State} {slot : Nat} {p : Pass} (h : p.mismatches < 2) :
    s.mismatch slot p = { s with passes := s.passes.put slot { p with mismatches := p.mismatches + 1 } } := by
  have hne : ¬ p.mismatches + 1 = Config.lockoutAt := Nat.ne_of_lt (Nat.succ_lt_succ h)
  rw [State.mismatch, if_neg hne]
  rfl

theorem mismatch_locks {s : State} {slot : Nat} {p : Pass} (h : p.mismatches = 2) :
    s.mismatch slot p = ((s.setPass slot { p with mismatches := 3, state := .locked }).count (.pass .lockouts)).note .lockout := by
  rw [State.mismatch, h, if_pos (show 2 + 1 = Config.lockoutAt from rfl)]

theorem checkPass_mismatch {s : State} {r : RadioIx} {ix : Nat} {st : Station} {n : Word} {code : Half} {slot : Nat} {p : Pass}
    (h0 : p.state = .active) (h1 : p.begun s.phase = true) (h2 : p.ended s.phase = false) (h3 : code ≠ p.code) :
    s.checkPass r ix st n code slot p = (s.mismatch slot p).refuseClaim r ix n .mismatch := by
  rw [State.checkPass, h0, h1, h2, if_neg (by decide), if_neg (by decide), if_neg (by decide), if_neg (by decide), if_neg (by decide),
    if_pos h3]

/-- What a lockout and its refusal show, from a state `u` that the lock is written in (R84, R94). -/
theorem mismatch_refused {s u : State} {passes : Table Pass} {r : RadioIx} {ix : Nat} {n : Word} {before : Vector Notice 4}
    (hp : u.passes = passes)
    (hu : ∀ c, c ≠ .link r .messagesReceived → c ≠ .admission .claimsReceived → u.counter c = s.counter c) :
    ∀ t, t = ((((u.count (.pass .lockouts)).note .lockout).refuseClaim r ix n .mismatch).settle before) →
      t.passes = passes ∧ Noticed t .lockout ∧ Noticed t .claimRefused ∧ Counted s t (.pass .lockouts) 1 ∧
        Counted s t (.pass .mismatches) 1 := by
  intro t ht
  rw [ht]
  clear ht
  generalize hv : ((u.count (.pass .lockouts)).note .lockout) = v
  have hvp : v.passes = passes := by rw [← hv, State.note_passes, State.count_passes, hp]
  have hvn : Noticed v .lockout := by rw [← hv]; exact note_noticed _ _
  have hvc (c : Counter) : v.counter c = (u.count (.pass .lockouts)).counter c :=
    counter_congr (by rw [← hv, State.note_counters]) c
  have hr : v.refuseClaim r ix n .mismatch =
      ((v.count (.pass .mismatches)).note .claimRefused).send r (.passResult ix n .mismatch .guest) := rfl
  rw [hr]
  have hsteady := send_steady ((v.count (.pass .mismatches)).note .claimRefused) r (.passResult ix n .mismatch .guest)
  have hcount (c : Counter) (h1 : ∀ l, c ≠ .lane l .noticesRaised) (h2 : c.sending = false) :
      ((((v.count (.pass .mismatches)).note .claimRefused).send r (.passResult ix n .mismatch .guest)).settle before).counter c =
        (v.count (.pass .mismatches)).counter c := by
    rw [settle_counter _ h1, send_other _ h2]
    exact counter_congr (State.note_counters _ _) c
  refine ⟨?_, settle_noticed (hsteady.noticed (((count_steady _ _).trans (note_steady _ _)).noticed hvn)),
    settle_noticed (hsteady.noticed (note_noticed _ _)), ?_, ?_⟩
  · rw [settle_passes, send_passes, State.note_passes, State.count_passes, hvp]
  · rw [Counted, hcount _ (by simp) rfl, count_other _ (by simp), hvc, count_counter, if_pos rfl, hu _ (by simp) (by simp)]
  · rw [Counted, hcount _ (by simp) rfl, count_counter, if_pos rfl, hvc, count_other _ (by simp), hu _ (by simp) (by simp)]

section refused
variable {s s1 : State} {r : RadioIx} {q : Byte} {i : Half} {ix : Nat} {st : Station} {n : Word} {code : Half}
  (ha : Arrives r q s s1) (hs : s1.screened r i = some (ix, st))
include ha hs

/-- A CLAIM from the current radio of a station, of a pass in the table, is that pass's checks (R95). -/
theorem claim_checked (hc : st.current = r) {slot : Nat} {p : Pass} (hp : s1.passNumbered n = some (slot, p)) :
    exec (.claim r q i n code) s =
      .next (((s1.count (.admission .claimsReceived)).checkPass r ix st n code slot p).settle s.notices) := by
  have hp' : (s1.count (.admission .claimsReceived)).passNumbered n = some (slot, p) := hp
  rw [claim_arrives ha hs, claim_current hc, checkClaim_known hp']

/-- The third mismatch locks the pass (R84). -/
theorem claim_locks (hc : st.current = r) {slot : Nat} {p : Pass} (hp : s1.passNumbered n = some (slot, p)) (h0 : p.state = .active)
    (h1 : p.begun s1.phase = true) (h2 : p.ended s1.phase = false) (h3 : code ≠ p.code) (h4 : p.mismatches = 2) :
    ∃ t, exec (.claim r q i n code) s = .next t ∧ t.passes = s.passes.put slot { p with mismatches := 3, state := .locked } ∧
      Noticed t .lockout ∧ Noticed t .claimRefused ∧ Counted s t (.pass .lockouts) 1 ∧ Counted s t (.pass .mismatches) 1 := by
  have hu : (s1.count (.admission .claimsReceived)).checkPass r ix st n code slot p =
      ((s1.count (.admission .claimsReceived)).mismatch slot p).refuseClaim r ix n .mismatch := checkPass_mismatch h0 h1 h2 h3
  refine ⟨_, claim_checked ha hs hc hp, ?_⟩
  rw [hu, mismatch_locks h4]
  generalize hu : (s1.count (.admission .claimsReceived)).setPass slot { p with mismatches := 3, state := .locked } = u
  have hup : u.passes = s.passes.put slot { p with mismatches := 3, state := .locked } := by
    rw [← hu, State.setPass_passes, State.count_passes, arrives_frame ha .passes (by decide)]
  have huc (c : Counter) (h1 : c ≠ .link r .messagesReceived) (h2 : c ≠ .admission .claimsReceived) : u.counter c = s.counter c := by
    rw [← arrives_counter ha h1, ← count_other s1 h2]
    exact counter_congr (by rw [← hu, State.setPass_counters]) c
  exact mismatch_refused hup huc _ rfl
end refused

/-- Settles O35: the checks of R95 in their order. -/
theorem claimIsRefusedInOrder : Obligations.ClaimIsRefusedInOrder := by
  intro r q i n code s s1 ix st ha hs refused hrefused s2 hs2
  have hend (u : State) (result : ClaimResult) : (u.refuseClaim r ix n result).settle s.notices = refused u result := by
    rw [hrefused]
    cases result <;> rfl
  have hphase : s2.phase = s1.phase := by rw [hs2, State.count_phase]
  refine ⟨fun hc => ?_, fun hc hn => ?_, fun slot p hc hn => ?_⟩
  · rw [claim_arrives ha hs, claim_target hc, ← hs2, hend]
  · have hn' : s2.passNumbered n = none := by rw [hs2]; exact hn
    rw [claim_arrives ha hs, claim_current hc, ← hs2, checkClaim_unknown hn', hend]
  · have hchecked (result : ClaimResult) (u : State) (hu : s2.checkPass r ix st n code slot p = u.refuseClaim r ix n result) :
        exec (.claim r q i n code) s = .next (refused u result) := by
      rw [claim_checked ha hs hc hn, ← hs2, hu, hend]
    have hactive (h0 : p.state = .active) (h1 : p.begun s1.phase = true) : s2.checkPass r ix st n code slot p =
        if p.ended s1.phase then (s2.expireDirectly slot p).refuseClaim r ix n .expired
        else if code ≠ p.code then (s2.mismatch slot p).refuseClaim r ix n .mismatch
        else if p.bound.contains ix then (s2.count (.admission .reconfirmed)).grantClaim r ix p
        else if Config.boundLimit ≤ p.bound.length then s2.refuseClaim r ix n .inUse
        else s2.bindClaim r ix st slot p := by
      rw [State.checkPass, h0, if_neg (by decide), if_neg (by decide), if_neg (by decide), hphase, h1, if_neg (by decide)]
    have hopen (h0 : p.state = .active) (h1 : p.begun s1.phase = true) (h2 : p.ended s1.phase = false) :=
      (hactive h0 h1).trans (if_neg (by rw [h2]; decide))
    refine ⟨fun h0 => ?_, fun h0 => ?_, fun h0 => ?_, fun h0 h1 => ?_, fun h0 h1 h2 => ?_, fun h0 h1 h2 h3 h4 => ?_,
      fun h0 h1 h2 h3 h4 => claim_locks ha hs hc hn h0 h1 h2 h3 h4, fun h0 h1 h2 h3 h4 h5 => ?_⟩
    · exact hchecked .revoked s2 (by rw [State.checkPass, if_pos h0])
    · exact hchecked .expired s2 (by rw [State.checkPass, h0, if_neg (by decide), if_pos rfl])
    · exact hchecked .locked s2 (by rw [State.checkPass, h0, if_neg (by decide), if_neg (by decide), if_pos rfl])
    · exact hchecked .notYet s2 (by
        rw [State.checkPass, h0, if_neg (by decide), if_neg (by decide), if_neg (by decide), hphase, h1, if_pos (by decide)])
    · exact hchecked .expired _ ((hactive h0 h1).trans (if_pos h2))
    · rw [hchecked .mismatch _ ((hopen h0 h1 h2).trans (if_pos h3)), mismatch_short h4]
    · exact hchecked .inUse s2 ((hopen h0 h1 h2).trans ((if_neg (by simpa using h3)).trans
        ((if_neg (by simpa using h4)).trans (if_pos h5))))

end Sys2Proof.Machine
end

section
/-! PROOFS. A CLAIM that binds its station (O34). -/

namespace Sys2Proof.Machine

/- The whole text is elaborated in one process: its proofs in turn, so that their threads' stacks stay within its memory. -/
set_option Elab.async false

/-! ### The bind of R96 -/

theorem appendBound_found {s : State} {slot : Nat} {p : Pass} (h : s.passes.find slot = some p) (ix : Nat) :
    s.appendBound slot ix = s.setPass slot { p with bound := p.bound ++ [ix] } := by
  unfold State.appendBound
  rw [h]

theorem loadBinding_found {s : State} {ix : Nat} {st : Station} (h : s.stations.find ix = some st) (slot : Nat) (p : Pass) :
    s.loadBinding slot p ix =
      { s with stations := s.stations.put ix ((st.bindTo (some (p.grant slot s.seatMap))).reflagged s.channels) } := by
  rw [State.loadBinding, setBinding_found h, repause_found (Table.find_put_same _ _ _)]
  show { s with stations := (s.stations.put ix _).put ix _ } = _
  rw [Table.put_put]
  rfl

theorem rebind_unbound {s : State} {ix : Nat} {st : Station} (h : st.binding = none) : s.rebind ix st = s := by
  unfold State.rebind
  rw [h]

theorem rebind_bound {s : State} {ix : Nat} {st : Station} {b : Binding} (h : st.binding = some b) :
    s.rebind ix st = (s.unbind b.slot ix).count (.admission .rebound) := by
  have hu : s.unbindStation ix st = s.unbind b.slot ix := by unfold State.unbindStation; rw [h]
  unfold State.rebind
  rw [h]
  dsimp only
  rw [hu]

/-- What a bind leaves of the state that the rebinding left, before its answer (R96). -/
def State.bound (u : State) (ix : Nat) (st : Station) (slot : Nat) (p : Pass) : State :=
  { u with passes := u.passes.put slot { p with bound := p.bound ++ [ix] },
           stations := u.stations.put ix ((st.bindTo (some (p.grant slot u.seatMap))).reflagged u.channels) }.count (.admission .bound)

section bound
variable (u : State) (ix : Nat) (st : Station) (slot : Nat) (p : Pass)

theorem bound_frame : ChangesOnly [.stations, .passes, .counters] u (u.bound ix st slot p) := by
  rintro (_ | _) h <;> first | rfl | simp at h

theorem bound_stations : (u.bound ix st slot p).stations =
    u.stations.put ix ((st.bindTo (some (p.grant slot u.seatMap))).reflagged u.channels) := rfl

theorem bound_passes : (u.bound ix st slot p).passes = u.passes.put slot { p with bound := p.bound ++ [ix] } := rfl

theorem bound_counter (c : Counter) : (u.bound ix st slot p).counter c =
    if c = .admission .bound then min (u.counter c + 1) Config.counterMax else u.counter c := count_counter _ _ _

end bound

/-- A bind, by the station that the rebinding left (R96). -/
theorem bindClaim_found {s : State} {r : RadioIx} {ix : Nat} {st st' : Station} {slot : Nat} {p : Pass}
    (hst : (s.rebind ix st).stations.find ix = some st') (hp : (s.rebind ix st).passes.find slot = some p) :
    s.bindClaim r ix st slot p = ((s.rebind ix st).bound ix st' slot p).send r (.passResult ix p.number .ok p.tier) := by
  rw [State.bindClaim, appendBound_found hp, loadBinding_found (st := st') (by exact hst)]
  rfl

section bind
variable {r : RadioIx} {q : Byte} {i : Half} {n : Word} {code : Half} {s s1 : State} {ix : Nat} {st : Station} {slot : Nat} {p : Pass}
  (ha : Arrives r q s s1) (hs : s1.screened r i = some (ix, st)) (hc : st.current = r) (hn : s1.passNumbered n = some (slot, p))
  (h0 : p.state = .active) (h1 : p.begun s1.phase = true) (h2 : p.ended s1.phase = false) (h3 : code = p.code)
include ha hs hc hn h0 h1 h2 h3

/-- A CLAIM that passes every check up to the bound list (R95). -/
theorem claim_passes : exec (.claim r q i n code) s = .next
    ((if p.bound.contains ix then ((s1.count (.admission .claimsReceived)).count (.admission .reconfirmed)).grantClaim r ix p
      else if Config.boundLimit ≤ p.bound.length then (s1.count (.admission .claimsReceived)).refuseClaim r ix n .inUse
      else (s1.count (.admission .claimsReceived)).bindClaim r ix st slot p).settle s.notices) := by
  rw [claim_checked ha hs hc hn, State.checkPass, State.count_phase, h0, h1, h2, if_neg (by decide), if_neg (by decide),
    if_neg (by decide), if_neg (by decide), if_neg (by decide), if_neg (fun hne => hne h3)]

theorem claim_binds (hix : ix ∉ p.bound) (hlen : p.bound.length < 2) : exec (.claim r q i n code) s =
    .next (((s1.count (.admission .claimsReceived)).bindClaim r ix st slot p).settle s.notices) := by
  have hlen' : ¬ Config.boundLimit ≤ p.bound.length := Nat.not_le.mpr hlen
  rw [claim_passes ha hs hc hn h0 h1 h2 h3, if_neg (by simpa using hix), if_neg hlen']

/-- A station without a binding is bound (R96, R97). -/
theorem claim_bindsFirst (hb : st.binding = none) (hix : ix ∉ p.bound) (hlen : p.bound.length < 2) {granted : Binding}
    (hg : granted = { slot := slot, tier := p.tier, mask := p.mask, zone := zoneOf s1.seatMap p.home p.width }) :
    exec (.claim r q i n code) s = .next ((({ s1.count (.admission .claimsReceived) with
          passes := s1.passes.put slot { p with bound := p.bound ++ [ix] },
          stations := s1.stations.put ix (Station.reflagged s1.channels
            { st with tier := p.tier, binding := some granted }) }).count (.admission .bound)).send r
        (.passResult ix p.number .ok p.tier)) := by
  have hr := rebind_unbound (s := s1.count (.admission .claimsReceived)) (ix := ix) hb
  obtain ⟨-, -, hst, -⟩ := screened_found hs
  obtain ⟨-, hp⟩ := passNumbered_found hn
  rw [claim_binds ha hs hc hn h0 h1 h2 h3 hix hlen, bindClaim_found (st' := st) (by rw [hr]; exact hst) (by rw [hr]; exact hp), hr, hg]
  refine congrArg _ ((settle_same ?_).trans rfl)
  rw [send_notices]
  exact arrives_frame ha .notices (by decide)

/-- A station of the pass is reconfirmed (R96). -/
theorem claim_reconfirms (hix : ix ∈ p.bound) : exec (.claim r q i n code) s =
    .next (((s1.count (.admission .claimsReceived)).count (.admission .reconfirmed)).send r (.passResult ix p.number .ok p.tier)) := by
  rw [claim_passes ha hs hc hn h0 h1 h2 h3, if_pos (by simpa using hix)]
  refine congrArg _ ((settle_same ?_).trans rfl)
  rw [State.grantClaim, send_notices]
  exact arrives_frame ha .notices (by decide)

end bind

/-- What the bind of a station that was bound to another pass leaves: the station realigned without its old binding, then bound. -/
theorem bound_after_unbind {s2 u : State} {ix : Nat} {st : Station} {b : Binding} {slot : Nat} {p : Pass}
    (hst : s2.stations.find ix = some st)
    (hu : u = ((s2.unbind b.slot ix).count (.admission .rebound)).bound ix (st.realigned s2.channels none) slot p) :
    u.stations.find ix = some (((st.realigned s2.channels none).bindTo (some (p.grant slot s2.seatMap))).reflagged s2.channels) ∧
      (∀ j, j ≠ ix → u.stations.find j = s2.stations.find j) ∧
      u.passes.find slot = some { p with bound := p.bound ++ [ix] } ∧
      (∀ j, j ≠ slot → u.passes.find j =
        (s2.passes.find j).map fun x => if j = b.slot then { x with bound := x.bound.erase ix } else x) ∧
      u.holdFree = s2.holdFree + (st.held.length - 8) ∧
      (s2.GroupLaw → ∀ r c, u.group r c = if permitted s2.channels none c then s2.group r c else s2.groupWithout ix r c) := by
  have hmap : (s2.unbind b.slot ix).seatMap = s2.seatMap := unbind_frame s2 b.slot ix .seatMap (by decide)
  have hus : u.stations = (s2.unbind b.slot ix).stations.put ix
      (((st.realigned s2.channels none).bindTo (some (p.grant slot s2.seatMap))).reflagged s2.channels) := by
    rw [hu, bound_stations, State.count_stations, State.count_seatMap, State.count_channels, hmap, unbind_channels]
  have hup : u.passes = (s2.unbind b.slot ix).passes.put slot { p with bound := p.bound ++ [ix] } := by
    rw [hu, bound_passes, State.count_passes]
  refine ⟨?_, fun j hj => ?_, ?_, fun j hj => ?_, ?_, fun hlaw r c => ?_⟩
  · rw [hus, Table.find_put, if_pos rfl]
  · rw [hus, Table.find_put, if_neg hj, unbind_other hj]
  · rw [hup, Table.find_put, if_pos rfl]
  · rw [hup, Table.find_put, if_neg hj, unbind_passes]
  · rw [hu, bound_frame _ _ _ _ _ .holdFree (by decide), State.count_holdFree, unbind_holdFree hst]
  · have hug : u.groups = (s2.unbind b.slot ix).groups := by
      rw [hu, bound_frame _ _ _ _ _ .groups (by decide), State.count_groups]
    rw [group_congr hug, (unbind_groups hst (groupLaw_sound hlaw)).2]
    cases permitted s2.channels none c with
    | true => simp
    | false =>
      simp only [and_true, Bool.false_eq_true, if_false]
      exact groupWithout_of_law (groupLaw_sound hlaw) (groupLaw_membered hlaw) hst r c

/-- A station that is rebound: its tier and binding are the new pass's, its identity and place its own, its hold queue a GUEST's, and
its subscriptions those that need no binding (R96, R99). -/
theorem rebound_station {st x : Station} {channels : Vector Channel 16} {g : Binding}
    (hx : x = ((st.realigned channels none).bindTo (some g)).reflagged channels) :
    x.tier = g.tier ∧ x.binding = some g ∧ x.device = st.device ∧ x.rate = st.rate ∧ x.current = st.current ∧
      x.held = st.held.drop (st.held.length - 8) ∧
      x.subs.map Subscription.channel = (st.subs.map Subscription.channel).filter fun c => permitted channels none c := by
  rw [hx]
  refine ⟨rfl, rfl, realigned_device channels none st, realigned_rate channels none st, realigned_current channels none st,
    realigned_held channels none st, ?_⟩
  rw [reflagged_channels, bindTo_subs, realigned_channels]

theorem claim_rebinds {r : RadioIx} {q : Byte} {i : Half} {n : Word} {code : Half} {s s1 : State} {ix : Nat} {st : Station} {slot : Nat}
    {p : Pass} (ha : Arrives r q s s1) (hs : s1.screened r i = some (ix, st)) (hc : st.current = r)
    (hn : s1.passNumbered n = some (slot, p)) (h0 : p.state = .active) (h1 : p.begun s1.phase = true) (h2 : p.ended s1.phase = false)
    (h3 : code = p.code) {b : Binding} (hb : st.binding = some b) (hslot : b.slot ≠ slot) (hix : ix ∉ p.bound)
    (hlen : p.bound.length < 2) : exec (.claim r q i n code) s =
      .next ((((((s1.count (.admission .claimsReceived)).unbind b.slot ix).count (.admission .rebound)).bound ix
        (st.realigned s1.channels none) slot p).send r (.passResult ix p.number .ok p.tier)).settle s.notices) := by
  have hr := rebind_bound (s := s1.count (.admission .claimsReceived)) (ix := ix) hb
  obtain ⟨-, -, hst, -⟩ := screened_found hs
  obtain ⟨-, hp⟩ := passNumbered_found hn
  have hst' : (s1.count (.admission .claimsReceived)).stations.find ix = some st := hst
  rw [claim_binds ha hs hc hn h0 h1 h2 h3 hix hlen, bindClaim_found (st' := st.realigned s1.channels none) ?_ ?_, hr]
  · rw [hr, State.count_stations, unbind_station hst', if_pos rfl]
    rfl
  · rw [hr, State.count_passes, unbind_passes, State.count_passes, hp]
    simp [Ne.symm hslot]

/-- A message sent whole stands on the wire, whatever follows it (R36). -/
theorem shown_send {s u t : State} {r : RadioIx} (m : ControlOut) (hw : u.wire = s.wire) (hu : u.links[r].state = .up)
    (ha : u.links[r].arm = none) (ht : (u.send r m).wire <+: t.wire) : Shown s t (.control r (m.bytes u.links[r].txSequence)) := by
  obtain ⟨w, hw'⟩ := ht
  refine ⟨[], w, ?_⟩
  rw [← hw', send_up m hu ha, State.count_wire, State.setLink_wire, State.emit_wire, hw]
  simp

theorem groupLaw_congr {s t : State} (hg : t.groups = s.groups) (hs : t.stations = s.stations) (h : s.GroupLaw) : t.GroupLaw := by
  simpa only [State.GroupLaw, State.group, hg, hs] using h

/-- The counts of a rebinding claim (R94, R96, R99). -/
theorem rebound_counter {s s1 u : State} {r : RadioIx} {q : Byte} (ha : Arrives r q s s1) {slot slot' ix : Nat} {st : Station} {p : Pass}
    (hu : u = ((((s1.count (.admission .claimsReceived)).unbind slot ix).count (.admission .rebound)).bound ix st slot' p)) {c : Counter}
    (hc : c = .admission .claimsReceived ∨ c = .admission .rebound ∨ c = .admission .bound) : Counted s u c 1 := by
  have h1 : c ≠ .link r .messagesReceived := by rcases hc with rfl | rfl | rfl <;> simp
  have h2 : c.unbinding = false := by rcases hc with rfl | rfl | rfl <;> rfl
  rw [Counted, hu, bound_counter, count_counter, unbind_counter _ h2, count_counter, arrives_counter ha h1]
  rcases hc with rfl | rfl | rfl <;> simp

/-- Settles O34: by the binding that the station has, and by the pass's bound list. -/
theorem claimBindsTheStation : Obligations.ClaimBindsTheStation := by
  intro r q i n code s s1 ix st slot p ha hs hc hn h0 h1 h2 h3 granted hg
  refine ⟨fun hb hix hlen => claim_bindsFirst ha hs hc hn h0 h1 h2 h3 hb hix hlen hg, fun b hb hslot hix hlen => ?_,
    fun hix => claim_reconfirms ha hs hc hn h0 h1 h2 h3 hix⟩
  refine ⟨_, claim_rebinds ha hs hc hn h0 h1 h2 h3 hb hslot hix hlen, ?_⟩
  obtain ⟨-, -, hst, -⟩ := screened_found hs
  have hf : ChangesOnly [.links, .counters] s (s1.count (.admission .claimsReceived)) := (arrives_frame ha).step (count_frame _ _)
  have hcount {u : State} (hu : u = _) := fun c => rebound_counter (c := c) ha (u := u) (slot := b.slot) (slot' := slot) (ix := ix)
    (st := st.realigned s1.channels none) (p := p) hu
  have hlinks : ((((s1.count (.admission .claimsReceived)).unbind b.slot ix).count (.admission .rebound)).bound ix
      (st.realigned s1.channels none) slot p).links = s1.links := by
    rw [bound_frame _ _ _ _ _ .links (by decide), State.count_links, unbind_frame _ _ _ .links (by decide), State.count_links]
  have hwire : ((((s1.count (.admission .claimsReceived)).unbind b.slot ix).count (.admission .rebound)).bound ix
      (st.realigned s1.channels none) slot p).wire = s.wire := by
    rw [bound_frame _ _ _ _ _ .wire (by decide), State.count_wire, unbind_frame _ _ _ .wire (by decide), hf .wire (by decide)]
  have hbound := fun {u : State} (hu : u = _) => bound_after_unbind (s2 := s1.count (.admission .claimsReceived)) (ix := ix) (st := st)
    (b := b) (slot := slot) (p := p) (u := u) hst hu
  rw [State.count_channels] at hbound
  generalize hu : (((s1.count (.admission .claimsReceived)).unbind b.slot ix).count (.admission .rebound)).bound ix
    (st.realigned s1.channels none) slot p = u at hlinks hwire
  replace hcount := hcount hu.symm
  replace hbound := hbound hu.symm
  clear hu
  generalize s1.count (.admission .claimsReceived) = s2 at hf hbound
  obtain ⟨k1, k2, k3, k4, k5, k6⟩ := hbound
  rw [hf .stations (by decide)] at k2
  rw [hf .passes (by decide)] at k4
  rw [hf .holdFree (by decide)] at k5
  obtain ⟨m1, m2, m3, m4, m5, m6, m7⟩ := rebound_station (st := st) (channels := s1.channels) (g := p.grant slot s2.seatMap) rfl
  rw [settle_stations, send_stations, settle_passes, send_passes, settle_holdFree, send_holdFree]
  have hsent (c : Counter) (h1 : ∀ l, c ≠ .lane l .noticesRaised) (h2 : c.sending = false) (h3 : Counted s u c 1) :
      Counted s ((u.send r (.passResult ix p.number .ok p.tier)).settle s.notices) c 1 := by
    rw [Counted, settle_counter _ h1, send_other _ h2, h3]
  refine ⟨⟨_, k1, m1, ?_, m3, m4, m5, m6, ?_⟩, fun hlaw r' c => ?_, k2, k3, k4, k5, hsent _ (by simp) rfl (hcount _ (by simp)),
    hsent _ (by simp) rfl (hcount _ (by simp)), hsent _ (by simp) rfl (hcount _ (by simp)), fun harm => ?_⟩
  · rw [m2, hg, Pass.grant, hf .seatMap (by decide), arrives_frame ha .seatMap (by decide)]
  · rw [m7, arrives_frame ha .channels (by decide)]
  · have hgroups : s2.groups = s.groups := hf .groups (by decide)
    have hlaw2 : s2.GroupLaw := groupLaw_congr hgroups (hf .stations (by decide)) hlaw
    have htg : ((u.send r (.passResult ix p.number .ok p.tier)).settle s.notices).groups = u.groups := by rw [settle_groups, send_groups]
    rw [group_congr htg, k6 hlaw2, groupWithout_congr (group_congr hgroups r' c), group_congr hgroups,
      arrives_frame ha .channels (by decide)]
  · have hlink : u.links[r] = { s.links[r] with rxSequence := q + 1 } := (link_congr hlinks r).trans (arrives_link ha)
    have hshown := shown_send (u := u) (.passResult ix p.number .ok p.tier) hwire (by rw [hlink]; exact ha.2.1)
      (by rw [hlink]; exact harm) (settle_lasting _ s.notices).wire
    rw [hlink] at hshown
    exact hshown

end Sys2Proof.Machine
end

section
/-! PROOFS. PASS_AMEND (O55). -/

namespace Sys2Proof.Machine

/- The whole text is elaborated in one process: its proofs in turn, so that their threads' stacks stay within its memory. -/
set_option Elab.async false

/-! ### Reloads (R101) -/

/-- A station is in line with a binding: it has the binding and its tier, and holds no entry that is not permitted to it (R101). -/
def Station.Aligned (channels : Vector Channel 16) (b : Binding) (st : Station) : Prop :=
  st.binding = some b ∧ st.tier = b.tier ∧ ∀ e ∈ st.subs, permitted channels (some b) e.channel = true

theorem realigned_aligned (channels : Vector Channel 16) (b : Binding) (st : Station) :
    (st.realigned channels (some b)).Aligned channels b := by
  refine ⟨realigned_binding channels (some b) st, rfl, fun e he => ?_⟩
  have hc := List.mem_map_of_mem (f := Subscription.channel) he
  rw [realigned_channels, List.mem_filter] at hc
  exact hc.2

section reload
variable (s : State) (slot : Nat) (p : Pass)

theorem reload_station {ix : Nat} {st : Station} (h : s.stations.find ix = some st) (j : Nat) : (s.reload slot p ix).stations.find j =
    if j = ix then some (st.realigned s.channels (some (p.grant slot s.seatMap))) else s.stations.find j := by
  rw [reload_eq, State.count_stations, realign_station h]

theorem reload_other {ix j : Nat} (hj : j ≠ ix) : (s.reload slot p ix).stations.find j = s.stations.find j := by
  rw [reload_eq, State.count_stations, realign_other s hj]

theorem foldl_reload_frame (l : List Nat) : ChangesOnly [.stations, .holdFree, .groups, .offers, .counters] s
    (l.foldl (fun s ix => s.reload slot p ix) s) := .foldl _ (fun s ix => reload_frame s slot p ix) l s

theorem foldl_reload_other {l : List Nat} {j : Nat} (hj : j ∉ l) :
    (l.foldl (fun s ix => s.reload slot p ix) s).stations.find j = s.stations.find j := by
  induction l generalizing s with
  | nil => rfl
  | cons ix l ih =>
    rw [List.mem_cons, not_or] at hj
    rw [List.foldl_cons, ih _ hj.2, reload_other s slot p hj.1]

/-- Every station of the list is in line with the pass's grant once the list is reloaded. -/
theorem foldl_reload_aligned (l : List Nat) {j : Nat} {st : Station} (h : s.stations.find j = some st)
    (hj : j ∈ l ∨ st.Aligned s.channels (p.grant slot s.seatMap)) :
    ∃ x, (l.foldl (fun s ix => s.reload slot p ix) s).stations.find j = some x ∧ x.Aligned s.channels (p.grant slot s.seatMap) := by
  induction l generalizing s st with
  | nil => exact ⟨st, h, hj.resolve_left List.not_mem_nil⟩
  | cons ix l ih =>
    have hc : (s.reload slot p ix).channels = s.channels := reload_frame s slot p ix .channels (by decide)
    have hm : (s.reload slot p ix).seatMap = s.seatMap := reload_frame s slot p ix .seatMap (by decide)
    rw [List.foldl_cons, ← hc, ← hm]
    by_cases hix : j = ix
    · subst hix
      refine ih _ ((reload_station s slot p h j).trans (if_pos rfl)) (.inr ?_)
      rw [hc, hm]
      exact realigned_aligned _ _ st
    · refine ih _ ((reload_other s slot p hix).trans h) (hj.imp (fun hm => (List.mem_cons.mp hm).resolve_left hix) fun ha => ?_)
      rw [hc, hm]
      exact ha

theorem foldl_reload_counter {c : Counter} (h : c.unbinding = false) (l : List Nat) :
    (l.foldl (fun s ix => s.reload slot p ix) s).counter c = s.counter c :=
  foldl_other (fun s ix => by rw [reload_eq, count_other _ (Counter.unbinding_parts h).2.2.2.2, realign_counter s h]) l s

end reload

/-! ### The amend (R79) -/

theorem ownPassAmend_named {params : List Byte} {n : Word} {a : Amendment} (h : amendmentOf params = some (n, a)) {s : State}
    {slot : Nat} {p : Pass} (hn : s.passNumbered n = some (slot, p)) : ownPassAmend params s =
      if p.inForce then s.amendPass slot p a else ({ answer := .conflict, block := [byteOf p.state.ctorIdx] }, s) := by
  unfold ownPassAmend
  rw [h]
  dsimp only
  rw [hn]

theorem amendPass_reloads {s : State} {slot : Nat} {p : Pass} {a : Amendment} (h : amendExpires p (a.apply p) s.phase = false) :
    (s.amendPass slot p a).2 =
      (p.bound.foldl (fun s ix => s.reload slot (a.apply p) ix) ((s.setPass slot (a.apply p)).count (.pass .amends))) := by
  unfold State.amendPass
  dsimp only
  rw [if_neg (by rw [h]; decide)]
  rfl

theorem amendPass_expires {s : State} {slot : Nat} {p : Pass} {a : Amendment} (h : amendExpires p (a.apply p) s.phase = true) :
    (s.amendPass slot p a).2 =
      (((s.setPass slot (a.apply p)).count (.pass .amends)).endPass slot (a.apply p) .expired).count (.pass .directExpiries) := by
  unfold State.amendPass
  dsimp only
  rw [if_pos h]
  rfl

theorem passAmend_served {lane : LaneIx} {q : Request} {s s0 : State} {n : Word} {a : Amendment} {slot : Nat} {p : Pass}
    (hr : Ready .passAmend lane q s s0) (hq : amendmentOf q.params = some (n, a)) (hn : s0.passNumbered n = some (slot, p))
    (hf : p.inForce = true) : exec (.passAmend lane) s =
      .next (answered s lane q (s0.amendPass slot p a).1.answer (s0.amendPass slot p a).1.block (s0.amendPass slot p a).2) := by
  rw [show exec (.passAmend lane) s = _ from serve_ready ownPassAmend hr, ownPassAmend_named hq hn, if_pos hf]

/-- What the reloads of an amended pass leave (R101). -/
theorem amendPass_reloaded {s : State} {slot : Nat} {p : Pass} {a : Amendment} (h : amendExpires p (a.apply p) s.phase = false)
    (hstations : ∀ ix ∈ p.bound, ∃ st, s.stations.find ix = some st) :
    (s.amendPass slot p a).2.passes = s.passes.put slot (a.apply p) ∧
      (∀ ix ∈ p.bound, ∃ st, (s.amendPass slot p a).2.stations.find ix = some st ∧
        st.Aligned s.channels ((a.apply p).grant slot s.seatMap)) ∧
      (∀ j, j ∉ p.bound → (s.amendPass slot p a).2.stations.find j = s.stations.find j) ∧
      Counted s (s.amendPass slot p a).2 (.pass .amends) 1 := by
  rw [amendPass_reloads h]
  generalize hu : (s.setPass slot (a.apply p)).count (.pass .amends) = u
  have hus : u.stations = s.stations := by rw [← hu]; rfl
  have huc : u.channels = s.channels := by rw [← hu]; rfl
  have hum : u.seatMap = s.seatMap := by rw [← hu]; rfl
  refine ⟨?_, fun ix hix => ?_, fun j hj => ?_, ?_⟩
  · rw [foldl_reload_frame u slot (a.apply p) p.bound .passes (by decide), ← hu]
    rfl
  · obtain ⟨st, hst⟩ := hstations ix hix
    rw [← huc, ← hum]
    exact foldl_reload_aligned u slot (a.apply p) p.bound (hus.symm ▸ hst) (.inl hix)
  · rw [foldl_reload_other u slot (a.apply p) hj, hus]
  · rw [Counted, foldl_reload_counter u slot (a.apply p) rfl, ← hu, count_counter, if_pos rfl]
    rfl

/-- Settles O55: by whether the pass is in force, and whether the amended pass expires. -/
theorem passAmendReloadsOrExpires : Obligations.PassAmendReloadsOrExpires := by
  intro lane q s s0 n a slot p hr hq hn
  refine ⟨fun hf => ?_, fun hf he hcanon hlaw => ?_, fun hf he => ?_⟩
  · rw [show exec (.passAmend lane) s = _ from serve_ready ownPassAmend hr, ownPassAmend_named hq hn, if_neg (by rw [hf]; decide)]
    rfl
  · have hframe := ready_frame hr
    have hpasses : s0.passes = s.passes := hframe .passes (by decide)
    have hstations : s0.stations = s.stations := hframe .stations (by decide)
    have hbound : ∀ ix ∈ p.bound, ∃ st, s0.stations.find ix = some st := fun ix hix => by
      have hp : (slot, p) ∈ s.passes := Table.mem_of_find (hpasses ▸ (passNumbered_found hn).2)
      obtain ⟨-, -, -, hmem⟩ := hlaw.2 _ hp
      obtain ⟨st, hst, -⟩ := hmem ix hix
      exact ⟨st, hstations ▸ hst⟩
    obtain ⟨h1, h2, h3, h4⟩ := amendPass_reloaded (slot := slot) he hbound
    refine ⟨_, passAmend_served hr hq hn hf, ?_⟩
    rw [answered_frame s lane q _ _ _ .passes (by decide), answered_frame s lane q _ _ _ .stations (by decide)]
    refine ⟨by rw [h1, hpasses], fun ix hix => ?_, fun j hj => by rw [h3 j hj, hstations], ?_⟩
    · obtain ⟨st, hst, hb, ht, hp⟩ := h2 ix hix
      rw [hframe .seatMap (by decide)] at hb
      rw [hframe .channels (by decide), hframe .seatMap (by decide), ← hb] at hp
      exact ⟨st, hst, hb, ht, hp⟩
    · rw [Counted, answered_counter _ _ _ _ _ (by simp), h4, ready_counter hr]
  · refine ⟨_, passAmend_served hr hq hn hf, ?_⟩
    rw [amendPass_expires he, answered_frame s lane q _ _ _ .passes (by decide), State.count_passes, endPass_passes, if_pos rfl]
    refine ⟨rfl, ?_, ?_⟩
    · rw [Counted, answered_counter _ _ _ _ _ (by simp), count_other _ (by simp), endPass_counter _ rfl, count_counter, if_pos rfl,
        ← ready_counter hr]
      rfl
    · rw [Counted, answered_counter _ _ _ _ _ (by simp), count_counter, if_pos rfl, endPass_counter _ rfl, count_other _ (by simp),
        ← ready_counter hr]
      rfl

end Sys2Proof.Machine
end

section
/-! PROOFS. SUBSCRIBE and UNSUBSCRIBE (O37). -/

namespace Sys2Proof.Machine

/- The whole text is elaborated in one process: its proofs in turn, so that their threads' stacks stay within its memory. -/
set_option Elab.async false

/-- A message whose owner sets no source answers what its owner leaves. -/
theorem arrives_quiet {r : RadioIx} {q : Byte} {s s1 : State} (h : Arrives r q s s1) {owner : State → State}
    (hn : (owner s1).notices = s1.notices) : event s (fun s => s.receive r q owner) = .next (owner s1) := by
  rw [arrives_event h, settle_same (hn.trans (arrives_frame h .notices (by decide)))]

/-! ### The group that a station leaves -/

theorem leaveGroup_group_other (s : State) {r r' : RadioIx} {c c' : ChannelIx} (h : r' ≠ r ∨ c' ≠ c) (ix : Nat) :
    (s.leaveGroup r c ix).group r' c' = s.group r' c' := by
  have hne : ¬ (r' = r ∧ c' = c) := fun he => h.elim (fun hr => hr he.1) fun hc => hc he.2
  unfold State.leaveGroup
  split
  · rfl
  · split
    · rw [discardGroup_group, if_neg hne]
    · rw [group_put (s := s) (by rfl), if_neg hne]

theorem leaveGroup_group_same {s : State} {r : RadioIx} {c : ChannelIx} {g : Group} (hg : s.group r c = some g) (ix : Nat) :
    (s.leaveGroup r c ix).group r c =
      if g.members.erase ix = [] then none else some { g with members := g.members.erase ix } := by
  unfold State.leaveGroup
  rw [hg]
  dsimp only
  split
  · rw [discardGroup_group, if_pos ⟨rfl, rfl⟩]
  · rw [group_put (s := s) (by rfl), if_pos ⟨rfl, rfl⟩]

theorem groupRadio_of_isOn {st : Station} {r : RadioIx} (h : st.isOn r = true) : st.groupRadio = some st.current := by
  obtain ⟨_, place, _, _, _, _⟩ := st
  cases place with
  | orphan => cases h
  | associated => rfl
  | handoff => rfl

section cases
variable {s1 : State} {r : RadioIx} {ix : Nat} {st : Station} {b : Byte} {c : ChannelIx}

/-- The case table of R118 for a channel. -/
theorem subscribe_cases (hc : st.current = r) (hb : channelOf b = some c) : s1.subscribe r ix st b =
    if (st.entry c).isSome then (s1.count (.replay .confirmed)).subAnswer r ix b .ok
    else if Config.subscriptionLimit ≤ st.subs.length then (s1.count (.replay .answeredLimit)).subAnswer r ix b .limit
    else if permitted s1.channels st.binding c then (s1.addEntry r ix st c).subAnswer r ix b .ok
    else (s1.count (.replay .answeredDenied)).subAnswer r ix b .denied := by
  rw [State.subscribe, if_pos hc, State.subscribeHere, hb]

theorem unsubscribe_cases (hc : st.current = r) (hb : channelOf b = some c) : s1.unsubscribe r ix st b = State.subAnswer
    (if (st.entry c).isSome then (s1.dropEntry ix st c).count (.replay .unsubscribed) else s1.count (.replay .unsubscribedEmpty))
      r ix b .ok := by
  rw [State.unsubscribe, if_pos hc, State.unsubscribeHere, hb]

theorem subscribe_absent (hc : st.current = r) (hb : channelOf b = some c) (he : st.entry c = none) : s1.subscribe r ix st b =
    if Config.subscriptionLimit ≤ st.subs.length then (s1.count (.replay .answeredLimit)).subAnswer r ix b .limit
    else if permitted s1.channels st.binding c then (s1.addEntry r ix st c).subAnswer r ix b .ok
    else (s1.count (.replay .answeredDenied)).subAnswer r ix b .denied := by
  rw [subscribe_cases hc hb, if_neg (by rw [he]; decide)]

end cases

/-! ### The messages -/

section messages
variable {r : RadioIx} {q : Byte} {i : Half} {s s1 : State} {ix : Nat} {st : Station} {b : Byte}
  (ha : Arrives r q s s1) (hs : s1.screened r i = some (ix, st))
include ha hs

/-- A SUBSCRIBE that is answered with a count alone (R118). -/
theorem subscribe_answered {k : Counter} {result : SubResult}
    (h : s1.subscribe r ix st b = (s1.count k).subAnswer r ix b result) :
    exec (.subscribe r q i b) s = .next ((s1.count k).send r (.subResult ix b result)) := by
  dsimp only [exec, execSubscribe]
  rw [arrives_quiet ha, screen_some hs, h]
  · rfl
  · rw [screen_some hs, h, State.subAnswer, send_notices, State.count_notices]

theorem unsubscribe_answered {k : Counter} {result : SubResult}
    (h : s1.unsubscribe r ix st b = (s1.count k).subAnswer r ix b result) :
    exec (.unsubscribe r q i b) s = .next ((s1.count k).send r (.subResult ix b result)) := by
  dsimp only [exec, execUnsubscribe]
  rw [arrives_quiet ha, screen_some hs, h]
  · rfl
  · rw [screen_some hs, h, State.subAnswer, send_notices, State.count_notices]

theorem subscribe_away (h : st.current ≠ r) : exec (.subscribe r q i b) s =
      .next ((s1.count (.replay .answeredNotHere)).send r (.subResult ix b .notHere)) ∧
    exec (.unsubscribe r q i b) s = .next ((s1.count (.replay .answeredNotHere)).send r (.subResult ix b .notHere)) :=
  ⟨subscribe_answered ha hs (if_neg h), unsubscribe_answered ha hs (if_neg h)⟩

variable (hc : st.current = r)
include hc

theorem subscribe_badChannel (h : channelOf b = none) :
    (4 ≤ st.subs.length → exec (.subscribe r q i b) s =
      .next ((s1.count (.replay .answeredLimit)).send r (.subResult ix b .limit))) ∧
    (st.subs.length < 4 → exec (.subscribe r q i b) s =
      .next ((s1.count (.replay .answeredDenied)).send r (.subResult ix b .denied))) ∧
    exec (.unsubscribe r q i b) s = .next ((s1.count (.replay .unsubscribedEmpty)).send r (.subResult ix b .ok)) := by
  have hsub : s1.subscribe r ix st b = if Config.subscriptionLimit ≤ st.subs.length then
      (s1.count (.replay .answeredLimit)).subAnswer r ix b .limit
    else (s1.count (.replay .answeredDenied)).subAnswer r ix b .denied := by
    rw [State.subscribe, if_pos hc, State.subscribeHere, h]
  refine ⟨fun h4 => ?_, fun h4 => ?_, ?_⟩
  · exact subscribe_answered ha hs (hsub.trans (if_pos h4))
  · exact subscribe_answered ha hs (hsub.trans (if_neg (Nat.not_le.mpr h4)))
  · refine unsubscribe_answered ha hs ?_
    rw [State.unsubscribe, if_pos hc, State.unsubscribeHere, h]

variable {c : ChannelIx} (hb : channelOf b = some c)
include hb

theorem subscribe_present (h : (st.entry c).isSome = true) : exec (.subscribe r q i b) s =
    .next ((s1.count (.replay .confirmed)).send r (.subResult ix b .ok)) :=
  subscribe_answered ha hs ((subscribe_cases hc hb).trans (if_pos h))

/-- An UNSUBSCRIBE of an entry that the station holds (R119). -/
theorem unsubscribe_present (h : (st.entry c).isSome = true) : ∃ t, exec (.unsubscribe r q i b) s = .next t ∧
    t.stations = s.stations.put ix { st with subs := st.subs.filter fun e => e.channel != c } ∧
    (∀ r' c', (r' ≠ r ∨ c' ≠ c) → t.group r' c' = s.group r' c') ∧
    (∀ g ∈ s.group r c, g.members.erase ix = [] → t.group r c = none) ∧
    (∀ g ∈ s.group r c, g.members.erase ix ≠ [] → t.group r c = some { g with members := g.members.erase ix }) ∧
    Counted s t (.replay .unsubscribed) 1 ∧ ∃ owned, t = owned.send r (.subResult ix b .ok) ∧
      ChangesOnly [.stations, .groups, .offers, .counters] s1 owned := by
  obtain ⟨-, -, -, hon⟩ := screened_found hs
  have hframe : ChangesOnly [.stations, .groups, .offers, .counters] s1 ((s1.dropEntry ix st c).count (.replay .unsubscribed)) :=
    (dropEntry_frame s1 ix st c).step (count_frame _ _)
  have howner : s1.unsubscribe r ix st b = ((s1.dropEntry ix st c).count (.replay .unsubscribed)).send r (.subResult ix b .ok) := by
    rw [unsubscribe_cases hc hb, if_pos h]
    rfl
  have hexec : exec (.unsubscribe r q i b) s = .next (s1.unsubscribe r ix st b) := by
    dsimp only [exec, execUnsubscribe]
    rw [arrives_quiet ha, screen_some hs]
    rw [screen_some hs, howner, send_notices]
    exact hframe .notices (by decide)
  have hdrop : s1.dropEntry ix st c =
      (s1.setStation ix { st with subs := st.subs.filter fun e => e.channel != c }).leaveGroup r c ix := by
    unfold State.dropEntry
    dsimp only
    rw [groupRadio_of_isOn hon, hc]
  have hgroup (r' : RadioIx) (c' : ChannelIx) : s1.group r' c' = s.group r' c' :=
    group_congr (arrives_frame ha .groups (by decide)) r' c'
  have hleft (g : Group) (hg : s.group r c = some g) :=
    leaveGroup_group_same (s := s1.setStation ix { st with subs := st.subs.filter fun e => e.channel != c }) (g := g)
      ((hgroup r c).trans hg) ix
  rw [howner] at hexec
  refine ⟨_, hexec, ?_, fun r' c' hne => ?_, fun g hg he => ?_, fun g hg he => ?_, ?_, _, rfl, hframe⟩
  · rw [send_stations, State.count_stations, hdrop, leaveGroup_frame _ r c ix .stations (by decide), State.setStation_stations,
      arrives_frame ha .stations (by decide)]
  · rw [group_congr (send_groups _ _ _), State.count_group, hdrop, leaveGroup_group_other _ hne, State.setStation_group, hgroup]
  · rw [group_congr (send_groups _ _ _), State.count_group, hdrop, hleft g hg, if_pos he]
  · rw [group_congr (send_groups _ _ _), State.count_group, hdrop, hleft g hg, if_neg he]
  · rw [Counted, send_other _ rfl, count_counter, if_pos rfl, hdrop, leaveGroup_other _ rfl, ← arrives_counter ha (by simp)]
    rfl

variable (he : st.entry c = none)
include he

theorem unsubscribe_absent : exec (.unsubscribe r q i b) s =
    .next ((s1.count (.replay .unsubscribedEmpty)).send r (.subResult ix b .ok)) := by
  refine unsubscribe_answered ha hs ?_
  rw [unsubscribe_cases hc hb, if_neg (by rw [he]; decide)]

theorem subscribe_limit (h : 4 ≤ st.subs.length) : exec (.subscribe r q i b) s =
    .next ((s1.count (.replay .answeredLimit)).send r (.subResult ix b .limit)) :=
  subscribe_answered ha hs ((subscribe_absent hc hb he).trans (if_pos h))

variable (hlen : st.subs.length < 4)
include hlen

theorem subscribe_denied (h : permitted s1.channels st.binding c = false) : exec (.subscribe r q i b) s =
    .next ((s1.count (.replay .answeredDenied)).send r (.subResult ix b .denied)) := by
  have hnot : ¬ permitted s1.channels st.binding c = true := by rw [h]; decide
  exact subscribe_answered ha hs ((subscribe_absent hc hb he).trans ((if_neg (Nat.not_le.mpr hlen)).trans (if_neg hnot)))

/-- A SUBSCRIBE that adds an entry (R118, step 4). -/
theorem subscribe_adds (h : permitted s1.channels st.binding c = true) : ∃ t, exec (.subscribe r q i b) s = .next t ∧
    t.stations = s.stations.put ix
      { st with subs := st.subs ++ [{ channel := c, awaitingKey := true, paused := pausedNow s.channels st c }] } ∧
    t.group r c = some (Group.joined ix (s.group r c)) ∧
    (∀ r' c', (r' ≠ r ∨ c' ≠ c) → t.group r' c' = s.group r' c') ∧ Counted s t (.replay .added) 1 ∧
    ∃ owned, t = owned.send r (.subResult ix b .ok) ∧ ChangesOnly [.stations, .groups, .counters] s1 owned := by
  have hframe : ChangesOnly [.stations, .groups, .counters] s1 (s1.addEntry r ix st c) :=
    (((setStation_frame s1 _ _).le (gs := [.stations, .groups, .counters])).step (joinGroup_frame _ _ _ _)).step (count_frame _ _)
  have howner : s1.subscribe r ix st b = (s1.addEntry r ix st c).send r (.subResult ix b .ok) :=
    (subscribe_absent hc hb he).trans ((if_neg (Nat.not_le.mpr hlen)).trans (if_pos h))
  have hexec : exec (.subscribe r q i b) s = .next (s1.subscribe r ix st b) := by
    dsimp only [exec, execSubscribe]
    rw [arrives_quiet ha, screen_some hs]
    rw [screen_some hs, howner, send_notices]
    exact hframe .notices (by decide)
  have hgroup (r' : RadioIx) (c' : ChannelIx) : s1.group r' c' = s.group r' c' :=
    group_congr (arrives_frame ha .groups (by decide)) r' c'
  rw [howner] at hexec
  refine ⟨_, hexec, ?_, ?_, fun r' c' hne => ?_, ?_, _, rfl, hframe⟩
  · rw [send_stations, State.addEntry, State.count_stations, joinGroup_frame _ r c ix .stations (by decide),
      State.setStation_stations, arrives_frame ha .stations (by decide), arrives_frame ha .channels (by decide)]
  · rw [group_congr (send_groups _ _ _), State.addEntry, State.count_group, joinGroup_group, if_pos ⟨rfl, rfl⟩,
      State.setStation_group, hgroup]
  · rw [group_congr (send_groups _ _ _), State.addEntry, State.count_group, joinGroup_group,
      if_neg (fun h => hne.elim (fun hr => hr h.1) fun hc => hc h.2), State.setStation_group, hgroup]
  · rw [Counted, send_other _ rfl, State.addEntry, count_counter, if_pos rfl, joinGroup_other _ rfl, ← arrives_counter ha (by simp)]
    rfl

end messages

/-- Settles O37: by the radio that the message comes from, the channel byte and the entries that the station holds. -/
theorem subscribeAndUnsubscribe : Obligations.SubscribeAndUnsubscribe := by
  refine ⟨fun r q i s s1 ix st c ha hs b hb => ?_, fun r q i s s1 ix st b ha hs hb => ?_⟩
  · have hc : channelOf b = some c := by rw [hb, channelOf_byteOf]
    refine ⟨fun h => subscribe_away ha hs h,
      fun h he => ⟨subscribe_present ha hs h hc he, unsubscribe_present ha hs h hc he⟩,
      fun h he => unsubscribe_absent ha hs h hc he, fun h he h4 => subscribe_limit ha hs h hc he h4,
      fun h he h4 hp => subscribe_denied ha hs h hc he h4 hp, fun h he h4 hp => ?_⟩
    obtain ⟨t, ht, h1, h2, h3⟩ := subscribe_adds ha hs h hc he h4 hp
    refine ⟨t, ht, h1, ?_, h3⟩
    rw [h2]
    rcases s.group r c with _ | g <;> rfl
  · have hc := channelOf_none hb
    exact ⟨fun h => subscribe_away ha hs h, fun h => (subscribe_badChannel ha hs h hc).1,
      fun h => (subscribe_badChannel ha hs h hc).2.1, fun h => (subscribe_badChannel ha hs h hc).2.2⟩

end Sys2Proof.Machine
end

section
/-! PROOFS. CHANNEL_OPEN and CHANNEL_CLOSE (O38). -/

namespace Sys2Proof.Machine

/- The whole text is elaborated in one process: its proofs in turn, so that their threads' stacks stay within its memory. -/
set_option Elab.async false

/-! ### The examination of one subscriber (R113) -/

/-- A station that the examination of a channel takes its entry from. -/
def Station.loses (channels : Vector Channel 16) (c : ChannelIx) (openCleared : Bool) (st : Station) : Bool :=
  openCleared && forbiddenTo channels c st

/-- A station after the examination of a channel (R113). -/
def Station.examined (channels : Vector Channel 16) (c : ChannelIx) (openCleared lockChanged : Bool) (st : Station) : Station :=
  if st.loses channels c openCleared then st.without c else if lockChanged then st.reflaggedFor channels c else st

section examine
variable (c : ChannelIx) (oc lc : Bool) (s : State) (ix : Nat)

theorem examine_none (h : s.stations.find ix = none) : State.examine c oc lc s ix = s := by
  unfold State.examine
  rw [h]

theorem examine_found {st : Station} (h : s.stations.find ix = some st) : State.examine c oc lc s ix =
    if st.loses s.channels c oc then (s.dropEntry ix st c).count (.replay .pruned)
    else if lc then s.setStation ix (st.reflaggedFor s.channels c) else s := by
  unfold State.examine
  rw [h]
  rfl

theorem dropEntry_stations (st : Station) : (s.dropEntry ix st c).stations = s.stations.put ix (st.without c) := by
  unfold State.dropEntry
  dsimp only
  split
  · rfl
  · rw [leaveGroup_frame _ _ _ _ .stations (by decide)]
    rfl

theorem examine_channels : (State.examine c oc lc s ix).channels = s.channels := by
  rcases h : s.stations.find ix with _ | st
  · rw [examine_none c oc lc s ix h]
  · rw [examine_found c oc lc s ix h]
    split
    · rw [State.count_channels, dropEntry_frame _ _ _ _ .channels (by decide)]
    · split <;> rfl

theorem examine_station (j : Nat) : (State.examine c oc lc s ix).stations.find j =
    if j = ix then (s.stations.find ix).map (Station.examined s.channels c oc lc) else s.stations.find j := by
  rcases h : s.stations.find ix with _ | st
  · rw [examine_none c oc lc s ix h]
    split
    next hj => rw [hj, h]; rfl
    next => rfl
  · rw [examine_found c oc lc s ix h, Option.map_some, Station.examined]
    split
    · rw [State.count_stations, dropEntry_stations, Table.find_put]
    · split
      · exact Table.find_put _ _ _ _
      · split
        next hj => rw [hj, h]
        next => rfl

theorem examine_group_other {c' : ChannelIx} (h : c' ≠ c) (r : RadioIx) : (State.examine c oc lc s ix).group r c' = s.group r c' := by
  rcases hf : s.stations.find ix with _ | st
  · rw [examine_none c oc lc s ix hf]
  · rw [examine_found c oc lc s ix hf]
    split
    · rw [State.count_group, State.dropEntry]
      split
      · rfl
      · rw [leaveGroup_group_other _ (.inr h)]
        rfl
    · split <;> rfl

theorem examine_counter : (State.examine c oc lc s ix).counter (.replay .pruned) =
    if (s.stations.find ix).any (fun st => st.loses s.channels c oc) then min (s.counter (.replay .pruned) + 1) Config.counterMax
    else s.counter (.replay .pruned) := by
  rcases h : s.stations.find ix with _ | st
  · rw [examine_none c oc lc s ix h]
    rfl
  · rw [examine_found c oc lc s ix h, Option.any_some]
    split
    · rw [count_counter, if_pos rfl]
      have hd : (s.dropEntry ix st c).counter (.replay .pruned) = s.counter (.replay .pruned) := by
        unfold State.dropEntry
        dsimp only
        split
        · rfl
        · rw [leaveGroup_other _ rfl]
          rfl
      rw [hd]
    · split <;> rfl

theorem examine_counter_other {k : Counter} (hg : k.grouping = false) (hp : k ≠ .replay .pruned) :
    (State.examine c oc lc s ix).counter k = s.counter k := by
  rcases h : s.stations.find ix with _ | st
  · rw [examine_none c oc lc s ix h]
  · rw [examine_found c oc lc s ix h]
    split
    · rw [count_other _ hp, State.dropEntry]
      split
      · rfl
      · rw [leaveGroup_other _ hg]
        rfl
    · split <;> rfl

/-- The group of the channel that a station is in is the one of its own radio. -/
def State.homed (s : State) (c : ChannelIx) (ix : Nat) : Prop :=
  ∀ st, s.stations.find ix = some st → ∀ r, s.inGroup r c ix → st.groupRadio = some r

theorem examine_group (hs : s.GroupsSound) (hh : s.homed c ix) (r : RadioIx) : (State.examine c oc lc s ix).group r c =
    if (s.stations.find ix).any (fun st => st.loses s.channels c oc) then s.groupWithout ix r c else s.group r c := by
  rcases h : s.stations.find ix with _ | st
  · rw [examine_none c oc lc s ix h]
    rfl
  · rw [examine_found c oc lc s ix h, Option.any_some]
    split
    · rw [State.count_group, State.dropEntry]
      have hset : (s.setStation ix { st with subs := st.subs.filter fun e => e.channel != c }).GroupsSound := hs.congr (by rfl)
      have hout (hne : st.groupRadio ≠ some r) : s.groupWithout ix r c = s.group r c :=
        groupWithout_of_not_mem hs fun hin => hne (hh st h r hin)
      split
      next hr => exact (hout (by rw [hr]; simp)).symm
      next r0 hr =>
        rw [leaveGroup_group hset]
        split
        · rfl
        next hne => exact (hout (by rw [hr]; simpa [eq_comm] using hne)).symm
    · split <;> rfl

theorem examine_sound (hs : s.GroupsSound) : (State.examine c oc lc s ix).GroupsSound := by
  rcases h : s.stations.find ix with _ | st
  · rwa [examine_none c oc lc s ix h]
  · rw [examine_found c oc lc s ix h]
    split
    · rw [State.dropEntry]
      have hset : (s.setStation ix { st with subs := st.subs.filter fun e => e.channel != c }).GroupsSound := hs.congr (by rfl)
      split
      · exact hset.congr (by rfl)
      · exact (hset.leaveGroup _ c ix).congr (by rfl)
    · split
      · exact hs.congr (by rfl)
      · exact hs

/-- An examination leaves every other station in its groups. -/
theorem examine_homed (hs : s.GroupsSound) (hix : s.homed c ix) {j : Nat} (hj : j ≠ ix) (h : s.homed c j) :
    (State.examine c oc lc s ix).homed c j := by
  intro st hst r hin
  rw [examine_station, if_neg hj] at hst
  refine h st hst r ?_
  have hg := examine_group c oc lc s ix hs hix r
  split at hg
  · exact ((groupWithout_mem hg j).mp hin).1
  · exact (inGroup_congr hg j).mp hin

end examine

/-! ### Every subscriber examined (R113) -/

section examineAll
variable (c : ChannelIx) (oc lc : Bool)

/-- Stations examined in turn. -/
def State.examineAll (s : State) (l : List Nat) : State := l.foldl (State.examine c oc lc) s

/-- A station of the state that the examination takes its entry from. -/
def State.losing (s : State) (j : Nat) : Bool := (s.stations.find j).any fun st => st.loses s.channels c oc

theorem examineAll_channels (s : State) (l : List Nat) : (s.examineAll c oc lc l).channels = s.channels :=
  foldl_induction (P := fun t => t.channels = s.channels) (fun t ix ht => (examine_channels c oc lc t ix).trans ht) l rfl

theorem examineAll_station (s : State) {l : List Nat} (hn : l.Nodup) (j : Nat) : (s.examineAll c oc lc l).stations.find j =
    if j ∈ l then (s.stations.find j).map (Station.examined s.channels c oc lc) else s.stations.find j := by
  unfold State.examineAll
  induction l generalizing s with
  | nil => simp
  | cons ix l ih =>
    rw [List.nodup_cons] at hn
    rw [List.foldl_cons, ih _ hn.2, examine_channels, examine_station]
    by_cases hj : j = ix
    · subst hj
      simp [hn.1]
    · simp [hj]

theorem examineAll_group_other (s : State) (l : List Nat) {c' : ChannelIx} (h : c' ≠ c) (r : RadioIx) :
    (s.examineAll c oc lc l).group r c' = s.group r c' :=
  foldl_induction (P := fun t => t.group r c' = s.group r c') (fun t ix ht => (examine_group_other c oc lc t ix h r).trans ht) l rfl

theorem examineAll_counter_other (s : State) (l : List Nat) {k : Counter} (hg : k.grouping = false) (hp : k ≠ .replay .pruned) :
    (s.examineAll c oc lc l).counter k = s.counter k :=
  foldl_other (fun s ix => examine_counter_other c oc lc s ix hg hp) l s

theorem examine_losing (s : State) {ix j : Nat} (hj : j ≠ ix) : (State.examine c oc lc s ix).losing c oc j = s.losing c oc j := by
  rw [State.losing, State.losing, examine_station, if_neg hj, examine_channels]

theorem examineAll_pruned (s : State) {l : List Nat} (hn : l.Nodup) (hm : s.counter (.replay .pruned) ≤ Config.counterMax) :
    Counted s (s.examineAll c oc lc l) (.replay .pruned) (l.filter (s.losing c oc)).length := by
  unfold State.examineAll Counted
  induction l generalizing s with
  | nil => simpa using hm
  | cons ix l ih =>
    rw [List.nodup_cons] at hn
    have hk := examine_counter c oc lc s ix
    have hfilter : l.filter ((State.examine c oc lc s ix).losing c oc) = l.filter (s.losing c oc) :=
      List.filter_congr fun j hj => examine_losing c oc lc s (ne_of_mem_of_not_mem hj hn.1)
    rw [List.foldl_cons, ih _ hn.2 (by rw [hk]; split <;> [exact Nat.min_le_right _ _; exact hm]), hfilter, hk, List.filter_cons]
    have hl : s.losing c oc ix = (s.stations.find ix).any fun st => st.loses s.channels c oc := rfl
    rw [hl]
    split
    · rw [List.length_cons]
      omega
    · rfl

theorem Group.keeping_bind (k1 k2 : Nat → Bool) (g : Group) :
    (g.keeping k1).bind (Group.keeping k2) = g.keeping fun j => k1 j && k2 j := by
  unfold Group.keeping
  have hf : (g.members.filter k1).filter k2 = g.members.filter fun j => k1 j && k2 j := by
    rw [List.filter_filter]
    exact List.filter_congr fun j _ => Bool.and_comm _ _
  split
  next he =>
    rw [if_pos (by rw [← hf, he]; rfl)]
    rfl
  next =>
    rw [Option.bind_some, hf]

theorem Group.keeping_congr {k1 k2 : Nat → Bool} {g : Group} (h : ∀ j ∈ g.members, k1 j = k2 j) : g.keeping k1 = g.keeping k2 := by
  rw [Group.keeping, Group.keeping, List.filter_congr h]

/-- A group of the channel keeps the members that do not lose their entries. -/
theorem examineAll_group (s : State) {l : List Nat} (hn : l.Nodup) (hs : s.GroupsSound) (hh : ∀ j ∈ l, s.homed c j) (r : RadioIx) :
    (s.examineAll c oc lc l).group r c = (s.group r c).bind (Group.keeping fun j => !(s.losing c oc j && decide (j ∈ l))) := by
  unfold State.examineAll
  induction l generalizing s with
  | nil =>
    rcases hg : s.group r c with _ | g
    · rw [List.foldl_nil, hg]
      rfl
    · rw [List.foldl_nil, hg, Option.bind_some, Group.keeping]
      simp [(hs.members r c g hg).1]
  | cons ix l ih =>
    rw [List.nodup_cons] at hn
    have hix := hh ix List.mem_cons_self
    have hrest : ∀ j ∈ l, (State.examine c oc lc s ix).homed c j := fun j hj =>
      examine_homed c oc lc s ix hs hix (ne_of_mem_of_not_mem hj hn.1) (hh j (List.mem_cons_of_mem _ hj))
    rw [List.foldl_cons, ih _ hn.2 (examine_sound c oc lc s ix hs) hrest, examine_group c oc lc s ix hs hix]
    have hl : s.losing c oc ix = (s.stations.find ix).any fun st => st.loses s.channels c oc := rfl
    rw [← hl]
    have hkeep (j : Nat) (hj : j ≠ ix) : ((State.examine c oc lc s ix).losing c oc j && decide (j ∈ l)) =
        (s.losing c oc j && decide (j ∈ ix :: l)) := by
      rw [examine_losing c oc lc s hj]
      simp [hj]
    rcases hg : s.group r c with _ | g
    · simp [State.groupWithout, hg]
    · split
      next hlose =>
        rw [State.groupWithout, hg, Option.bind_some, Option.bind_some, Group.keeping_bind]
        refine Group.keeping_congr fun j _ => ?_
        by_cases hj : j = ix
        · subst hj
          simp [hlose]
        · rw [hkeep j hj]
          simp [hj]
      next hlose =>
        rw [Option.bind_some, Option.bind_some]
        refine Group.keeping_congr fun j _ => ?_
        by_cases hj : j = ix
        · subst hj
          simp [hn.1, hlose]
        · rw [hkeep j hj]

end examineAll

/-! ### CHANNEL_OPEN of a LIVE channel -/

/-- The channels once a LIVE channel has new attributes (R113). -/
def State.reopened (s : State) (c : ChannelIx) (o l : Bool) : Vector Channel 16 :=
  s.channels.set c { s.channels[c] with openAll := o, seatLocked := l }

section openLive
variable (s : State) (c : ChannelIx) (o l : Bool)

/-- The state that the subscribers are examined in (R113). -/
def State.reopen : State := s.setChannel c { s.channels[c] with openAll := o, seatLocked := l }

theorem openLive_owned : (s.openLive c o l).2 = ((s.reopen c o l).examineAll c (s.channels[c].openAll && !o) (s.channels[c].seatLocked != l)
    (s.stations.map Prod.fst)).count (.replay .opens) := rfl

theorem losing_reopen (j : Nat) : (s.reopen c o l).losing c (s.channels[c].openAll && !o) j =
    (s.stations.find j).any fun st => st.loses (s.reopened c o l) c (s.channels[c].openAll && !o) := rfl

variable {s}

theorem keys_nodup {α : Type} {t : Table α} (h : t.wf = true) : (t.map Prod.fst).Nodup :=
  ((Table.wf_iff t).mp h).imp fun hlt => Nat.ne_of_lt hlt

theorem mem_keys {α : Type} {t : Table α} {j : Nat} {v : α} (h : t.find j = some v) : j ∈ t.map Prod.fst :=
  List.mem_map_of_mem (f := Prod.fst) (Table.mem_of_find h)

theorem filter_losing {t : Table Station} (h : t.wf = true) (p : Station → Bool) :
    ((t.map Prod.fst).filter fun j => (t.find j).any p).length = (t.filter fun e => p e.2).length := by
  rw [List.filter_map, List.length_map]
  congr 1
  refine List.filter_congr fun e he => ?_
  rw [Function.comp_apply, Table.find_of_mem h he, Option.any_some]

/-- The block of a CHANNEL_OPEN of a LIVE channel counts the entries that are lost (R113). -/
theorem openLive_block : (s.openLive c o l).1 = Reply.done ([1#8, flagByte s.channels[c].openAll, flagByte s.channels[c].seatLocked,
    flagByte o, flagByte l] ++
      be16 (s.stations.filter fun e => e.2.loses (s.reopened c o l) c (s.channels[c].openAll && !o)).length) := by
  have hcount : (if (s.channels[c].openAll && !o) = true then
        (s.stations.filter fun e => forbiddenTo (s.reopened c o l) c e.2).length else 0) =
      (s.stations.filter fun e => e.2.loses (s.reopened c o l) c (s.channels[c].openAll && !o)).length := by
    cases s.channels[c].openAll && !o <;> simp [Station.loses]
  rw [← hcount]
  rfl

variable (hw : s.stations.wf = true)
include hw

theorem openLive_station (j : Nat) : (s.openLive c o l).2.stations.find j =
    (s.stations.find j).map (Station.examined (s.reopened c o l) c (s.channels[c].openAll && !o) (s.channels[c].seatLocked != l)) := by
  rw [openLive_owned, State.count_stations, examineAll_station c _ _ _ (keys_nodup hw)]
  split
  · rfl
  next hj =>
    rcases hf : s.stations.find j with _ | st
    · exact hf
    · exact absurd (mem_keys hf) hj

theorem openLive_pruned (hm : s.CountersInRange) : Counted s (s.openLive c o l).2 (.replay .pruned)
    (s.stations.filter fun e => e.2.loses (s.reopened c o l) c (s.channels[c].openAll && !o)).length := by
  have hle : (s.reopen c o l).counter (.replay .pruned) ≤ Config.counterMax := by
    show ((s.counters.find _).getD 0) ≤ _
    rcases hf : s.counters.find (Counter.replay .pruned).key with _ | v
    · exact Nat.zero_le _
    · exact (hm _ (Table.mem_of_find hf)).2
  rw [Counted, openLive_owned, count_other _ (by simp), examineAll_pruned c _ _ _ (keys_nodup hw) hle, ← filter_losing hw]
  rfl

theorem openLive_group (hlaw : s.GroupLaw) (r : RadioIx) : (s.openLive c o l).2.group r c = (s.group r c).bind (Group.keeping fun j =>
    (s.stations.find j).all fun st => !st.loses (s.reopened c o l) c (s.channels[c].openAll && !o)) := by
  have hsound : (s.reopen c o l).GroupsSound := (groupLaw_sound hlaw).congr (by rfl)
  have hhomed (j : Nat) : (s.reopen c o l).homed c j := fun st hst r hin => by
    obtain ⟨st', hst', hb⟩ := (groupLaw_membered hlaw r c j).mp hin
    rw [show s.stations.find j = some st from hst] at hst'
    cases hst'
    exact ((belongs_iff st r c).mp hb).1
  rw [openLive_owned, State.count_group, examineAll_group c _ _ _ (keys_nodup hw) hsound fun j _ => hhomed j]
  show (s.group r c).bind _ = (s.group r c).bind _
  refine congrArg _ (congrArg _ (funext fun j => ?_))
  rw [losing_reopen]
  rcases hf : s.stations.find j with _ | st
  · rfl
  · simp only [Option.any_some, Option.all_some, decide_eq_true (mem_keys hf), Bool.and_true]

end openLive

/-! ### The requests -/

theorem ownChannelOpen_params (c : ChannelIx) (o l : Bool) (s : State) :
    ownChannelOpen [BitVec.ofNat 8 c.val, flagByte o, flagByte l] s =
      if s.channels[c].state = .live then s.openLive c o l else s.openClosed c o l := by
  simp only [ownChannelOpen, channelOf_byteOf, flagOf_flagByte]

theorem ownChannelClose_params (c : ChannelIx) (s : State) : ownChannelClose [BitVec.ofNat 8 c.val] s =
    if s.channels[c].state = .live then s.closeLive c else (Reply.done [byteOf ChannelState.closed.ctorIdx], s) := by
  simp only [ownChannelClose, channelOf_byteOf]

section requests
variable {lane : LaneIx} {q : Request} {s s0 : State} {c : ChannelIx} {o l : Bool}

theorem channelOpen_live (hr : Ready .channelOpen lane q s s0) (hq : q.params = [BitVec.ofNat 8 c.val, flagByte o, flagByte l])
    (h : s0.channels[c].state = .live) : exec (.channelOpen lane) s =
      .next (answered s lane q (s0.openLive c o l).1.answer (s0.openLive c o l).1.block (s0.openLive c o l).2) := by
  rw [show exec (.channelOpen lane) s = _ from serve_ready ownChannelOpen hr, hq, ownChannelOpen_params, if_pos h]

theorem channelClose_live (hr : Ready .channelClose lane q s s0) (hq : q.params = [BitVec.ofNat 8 c.val])
    (h : s0.channels[c].state = .live) : exec (.channelClose lane) s =
      .next (answered s lane q (s0.closeLive c).1.answer (s0.closeLive c).1.block (s0.closeLive c).2) := by
  rw [show exec (.channelClose lane) s = _ from serve_ready ownChannelClose hr, hq, ownChannelClose_params, if_pos h]

theorem closeLive_effect (s : State) (c : ChannelIx) : (s.closeLive c).2.channels = s.channels.set c Channel.closed ∧
    (s.closeLive c).2.stations = s.stations.map (fun e => (e.1, { e.2 with subs := e.2.subs.filter fun x => x.channel != c })) ∧
    (∀ r, (s.closeLive c).2.group r c = none) ∧ (∀ r c', c' ≠ c → (s.closeLive c).2.group r c' = s.group r c') ∧
    Counted s (s.closeLive c).2 (.replay .closes) 1 := by
  have hown : (s.closeLive c).2 = (State.discardChannel ({ s with stations := s.stations.map fun (e : Nat × Station) =>
    (e.1, e.2.without c) }.setChannel c Channel.closed) c).count (.replay .closes) := rfl
  rw [hown]
  generalize hu : ({ s with stations := s.stations.map fun (e : Nat × Station) => (e.1, e.2.without c) }.setChannel c
    Channel.closed) = u
  have hug (r : RadioIx) (c' : ChannelIx) : u.group r c' = s.group r c' := by rw [← hu]; rfl
  have huc (k : Counter) : u.counter k = s.counter k := by rw [← hu]; rfl
  refine ⟨?_, ?_, fun r => ?_, fun r c' hne => ?_, ?_⟩
  · rw [State.count_channels, discardChannel_frame u c .channels (by decide), ← hu]
    rfl
  · rw [State.count_stations, discardChannel_frame u c .stations (by decide), ← hu]
    rfl
  · rw [State.count_group, discardChannel_group, if_pos rfl]
  · rw [State.count_group, discardChannel_group, if_neg hne, hug]
  · have hd : (u.discardChannel c).counter (.replay .closes) = u.counter (.replay .closes) :=
      foldl_other (fun s r => discardGroup_other s rfl r c) _ u
    rw [Counted, count_counter, if_pos rfl, hd, huc]

end requests

/-- Settles O38: each request by the state of the channel that it names. -/
theorem channelsOpenAndClose : Obligations.ChannelsOpenAndClose := by
  intro lane q s s0 c o l
  refine ⟨fun hr hq h => ?_, fun hr hq h now hnow loses hloses => ?_, fun hr hq h => ?_, fun hr hq h => ?_, fun b hb => ⟨fun hr hq => ?_,
    fun hr hq => ?_⟩⟩
  · rw [show exec (.channelOpen lane) s = _ from serve_ready ownChannelOpen hr, hq, ownChannelOpen_params, if_neg (by rw [h]; decide)]
    rfl
  · have hl (st : Station) : loses st = st.loses (s0.reopened c o l) c (s0.channels[c].openAll && !o) := by
      rw [hloses, hnow]
      simp only [Station.loses, forbiddenTo, Bool.and_assoc]
      rfl
    have hframe := openLive_frame s0 c o l
    refine ⟨(s0.openLive c o l).2, ?_, ?_, ?_, hframe, fun r c' hne => ?_, fun hcanon => ⟨fun hrange => ?_, fun j => ?_, fun hlaw r => ?_⟩⟩
    · rw [channelOpen_live hr hq h, openLive_block]
      simp only [hl]
      rfl
    · rw [openLive_owned, State.count_channels, examineAll_channels, hnow]
      rfl
    · rw [Counted, openLive_owned, count_counter, if_pos rfl, examineAll_counter_other _ _ _ _ _ rfl (by simp)]
      rfl
    · rw [openLive_owned, State.count_group, examineAll_group_other _ _ _ _ _ hne]
      rfl
    all_goals
      obtain ⟨hw, -⟩ := hcanon
      rw [← ready_frame hr .stations (by decide)] at hw
    · simp only [hl]
      refine openLive_pruned c o l hw ?_
      rw [State.CountersInRange, ready_frame hr .counters (by decide)]
      exact hrange
    · rw [openLive_station c o l hw]
      refine congrArg (fun f => (s0.stations.find j).map f) (funext fun st => ?_)
      rw [hl, Station.examined, hnow]
      by_cases hlock : s0.channels[c].seatLocked = l
      · simp only [hlock, bne_self_eq_false, Bool.false_eq_true, if_false, if_true]
        rfl
      · simp only [hlock, bne_iff_ne, ne_eq, not_false_eq_true, if_true, if_false]
        rfl
    · have hlaw0 : s0.GroupLaw := groupLaw_congr (ready_frame hr .groups (by decide)) (ready_frame hr .stations (by decide)) hlaw
      simp only [hl]
      exact openLive_group c o l hw hlaw0 r
  · rw [show exec (.channelClose lane) s = _ from serve_ready ownChannelClose hr, hq, ownChannelClose_params, if_neg (by rw [h]; decide)]
    rfl
  · obtain ⟨h1, h2, h3, h4, h5⟩ := closeLive_effect s0 c
    exact ⟨_, channelClose_live hr hq h, h1, h2, h3, h4, h5, closeLive_frame s0 c⟩
  · rw [show exec (.channelOpen lane) s = _ from serve_ready ownChannelOpen hr, hq]
    simp only [ownChannelOpen, channelOf_none hb]
    rfl
  · rw [show exec (.channelClose lane) s = _ from serve_ready ownChannelClose hr, hq]
    simp only [ownChannelClose, channelOf_none hb]
    rfl

end Sys2Proof.Machine
end

section
/-! PROOFS. What the operations on a handoff leave of the station's context, the station counts, the hold pool and the counters
(R48 to R62). -/

namespace Sys2Proof.Machine

/- The whole text is elaborated in one process: its proofs in turn, so that their threads' stacks stay within its memory. -/
set_option Elab.async false

/-- A station whose handoff from o to n is complete, its entries awaiting a key and evaluated there (R51, R120). -/
def Station.completedTo (s : State) (o n : RadioIx) (st : Station) : Station :=
  Station.reflagged s.channels
    { st with place := .associated n (s.priorAfter o), subs := st.subs.map fun e => { e with awaitingKey := true } }

/-- An ORPHAN station: its entries are paused (R15). -/
def Station.orphaned (s : State) (st : Station) : Station :=
  { st with place := .orphan st.current s.orphanDeadline, subs := st.subs.map fun e => { e with paused := true } }

theorem completedTo_congr {s t : State} (hc : t.channels = s.channels) (hs : t.settings = s.settings) (hn : t.sectorTime = s.sectorTime)
    (o n : RadioIx) (st : Station) : st.completedTo t o n = st.completedTo s o n := by
  rw [Station.completedTo, Station.completedTo, State.priorAfter, State.priorAfter, State.after, State.after, hc, hs, hn]

section complete
variable (s : State) (ix : Nat) (st : Station) (o n : RadioIx) (held : List FanFrame)

/-- The completion up to the flush of the hold queue (R51, steps 1 to 4). -/
def State.arrived : State :=
  (((s.setStation ix
    { st with place := .associated n (s.priorAfter o),
              subs := st.subs.map fun e => { e with awaitingKey := true } }).lowerCount o).sendAdmit n ix).flush n held

/-- The completion up to the pause evaluation, with the migration of R120. -/
def State.migrated : State :=
  (((s.arrived ix st o n held).leaveGroups (some o) st.subs ix).joinGroups n st.subs ix).addTo (.replay .migrations) st.subs.length

theorem complete_eq : s.complete ix st o n held = ((s.migrated ix st o n held).repause ix).count (.station .handoffsCompleted) := rfl

theorem arrived_stations : (s.arrived ix st o n held).stations = s.stations.put ix
    { st with place := .associated n (s.priorAfter o), subs := st.subs.map fun e => { e with awaitingKey := true } } := by
  rw [State.arrived, flush_stations, sendAdmit_stations]
  rfl

theorem migrated_frame : ChangesOnly [.groups, .offers, .counters] (s.arrived ix st o n held) (s.migrated ix st o n held) :=
  ((leaveGroups_frame _ _ _ _).step (joinGroups_frame _ _ _ _)).step (addTo_frame _ _ _)

theorem complete_frame' : ChangesOnly [.stations, .counters] (s.migrated ix st o n held) (s.complete ix st o n held) :=
  ((repause_frame _ ix).le (gs := [.stations, .counters])).step (count_frame _ _)

theorem complete_stations : (s.complete ix st o n held).stations = s.stations.put ix (st.completedTo s o n) := by
  have hst : (s.migrated ix st o n held).stations = _ :=
    (migrated_frame s ix st o n held .stations (by decide)).trans (arrived_stations s ix st o n held)
  have hch : (s.migrated ix st o n held).channels = s.channels := by
    rw [migrated_frame s ix st o n held .channels (by decide), State.arrived, flush_channels, sendAdmit_channels]
    rfl
  rw [complete_eq, State.count_stations, repause_found (found_of_put hst), State.setStation_stations, hst, hch, Table.put_put]
  rfl

theorem complete_stationCount : (s.complete ix st o n held).stationCount = s.stationCount.set o (s.stationCount[o] - 1) := by
  rw [complete_frame' s ix st o n held .stationCount (by decide), migrated_frame s ix st o n held .stationCount (by decide),
    State.arrived, flush_stationCount, sendAdmit_stationCount]
  rfl

theorem complete_holdFree : (s.complete ix st o n held).holdFree = s.holdFree + held.length := by
  rw [complete_frame' s ix st o n held .holdFree (by decide), migrated_frame s ix st o n held .holdFree (by decide), State.arrived]
  show (State.sendAdmit _ n ix).holdFree + held.length = _
  rw [sendAdmit_holdFree]
  rfl

theorem complete_queue : (s.complete ix st o n held).links[n].queue =
    s.links[n].queue ++ (held.take (64 - s.links[n].queue.length)).map TxEntry.fan := by
  have hq (t : State) : (t.flush n held).links[n].queue =
      t.links[n].queue ++ (held.take (64 - t.links[n].queue.length)).map TxEntry.fan := by
    rw [link_congr (s := { t with links := t.links.set n _ }) (flush_links t n held), set_link_same]
  rw [link_congr (complete_links s ix st o n held), hq, sendAdmit_queue]
  rfl

theorem migrated_counter {c : Counter} (hs : c.sending = false) (hg : c.grouping = false) (hm : c ≠ .replay .migrations)
    (hd : c ≠ .station .downlinkForwarded) : (s.migrated ix st o n held).counter c =
      if c = .station .flushDrops then min (s.counter c + (held.length - (64 - s.links[n].queue.length))) Config.counterMax
      else s.counter c := by
  rw [State.migrated, addTo_other _ hm, joinGroups_other _ hg, leaveGroups_other _ hg, State.arrived, flush_counter, sendAdmit_other _ hs,
    if_neg hd, sendAdmit_queue]
  rfl

theorem complete_counts : Counted s (s.complete ix st o n held) (.station .handoffsCompleted) 1 ∧
    Counted s (s.complete ix st o n held) (.replay .migrations) st.subs.length ∧
    Counted s (s.complete ix st o n held) (.station .flushDrops) (held.length - (64 - s.links[n].queue.length)) := by
  have hrepause (c : Counter) : ((s.migrated ix st o n held).repause ix).counter c = (s.migrated ix st o n held).counter c :=
    counter_congr (repause_frame _ ix .counters (by decide)) c
  rw [complete_eq]
  refine ⟨?_, ?_, ?_⟩
  · rw [Counted, count_counter, if_pos rfl, hrepause, migrated_counter s ix st o n held rfl rfl (by simp) (by simp), if_neg (by simp)]
  · rw [Counted, count_other _ (by simp), hrepause, State.migrated, addTo_counter, if_pos rfl, joinGroups_other _ rfl,
      leaveGroups_other _ rfl, State.arrived, flush_counter, if_neg (by simp), if_neg (by simp), sendAdmit_other _ rfl]
    rfl
  · rw [Counted, count_other _ (by simp), hrepause, migrated_counter s ix st o n held rfl rfl (by simp) (by simp), if_pos rfl]

end complete

/-! ### Forced completions (R53, R37, R60) -/

section force
variable (s : State) (ix : Nat) (st : Station) (o n : RadioIx) (held : List FanFrame) (withDrop : Bool)

/-- The state that a forced completion completes: after its DROP, where it sends one. -/
def State.dropped : State := if withDrop then s.send o (.drop ix st.device) else s

theorem force_eq : s.force ix st o n held withDrop =
    (((s.dropped ix st o withDrop).complete ix st o n held).count (.station .forcedCompletions)).note .handoffForced := rfl

theorem dropped_frame : ChangesOnly sendFields s (s.dropped ix st o withDrop) := by
  unfold State.dropped
  exact .ite (send_frame s _ _) (.refl _ _)

theorem dropped_counter {c : Counter} (h : c.sending = false) : (s.dropped ix st o withDrop).counter c = s.counter c := by
  unfold State.dropped
  split
  · exact send_other s h _ _
  · rfl

theorem dropped_queue (r : RadioIx) : (s.dropped ix st o withDrop).links[r].queue = s.links[r].queue := by
  unfold State.dropped
  split
  · exact send_queue s _ _ r
  · rfl

theorem force_stations : (s.force ix st o n held withDrop).stations = s.stations.put ix (st.completedTo s o n) := by
  have hf := dropped_frame s ix st o withDrop
  rw [force_eq, State.note_stations, State.count_stations, complete_stations, hf .stations (by decide),
    completedTo_congr (hf .channels (by decide)) (hf .settings (by decide)) (hf .sectorTime (by decide))]

theorem force_stationCount : (s.force ix st o n held withDrop).stationCount = s.stationCount.set o (s.stationCount[o] - 1) := by
  rw [force_eq, State.note_stationCount, State.count_stationCount, complete_stationCount]
  have h : (s.dropped ix st o withDrop).stationCount = s.stationCount := dropped_frame s ix st o withDrop .stationCount (by decide)
  simp only [h]

theorem force_holdFree : (s.force ix st o n held withDrop).holdFree = s.holdFree + held.length := by
  rw [force_eq, State.note_holdFree, State.count_holdFree, complete_holdFree, dropped_frame s ix st o withDrop .holdFree (by decide)]

theorem force_noticed : Noticed (s.force ix st o n held withDrop) .handoffForced := note_noticed _ _

theorem force_counts : Counted s (s.force ix st o n held withDrop) (.station .forcedCompletions) 1 ∧
    Counted s (s.force ix st o n held withDrop) (.station .handoffsCompleted) 1 := by
  have hnote (u : State) (c : Counter) : (u.note .handoffForced).counter c = u.counter c := counter_congr (State.note_counters u _) c
  rw [force_eq]
  refine ⟨?_, ?_⟩
  · rw [Counted, hnote, count_counter, if_pos rfl, complete_other _ rfl, dropped_counter _ _ _ _ _ rfl]
  · rw [Counted, hnote, count_other _ (by simp), (complete_counts _ _ _ _ _ _).1, dropped_counter _ _ _ _ _ rfl]

end force

/-! ### The end of a return, and abandonments (R57, R59, R61) -/

section ends
variable (s : State) (ix : Nat) (st : Station) (o n : RadioIx) (p : Option Prior) (held : List FanFrame)

theorem endReturn_stations : (s.endReturn ix st o p held).stations = s.stations.put ix { st with place := .associated o p } := by
  rw [State.endReturn, State.count_stations, flush_stations, sendAdmit_stations]
  rfl

theorem endReturn_stationCount : (s.endReturn ix st o p held).stationCount = s.stationCount := by
  rw [State.endReturn, State.count_stationCount, flush_stationCount, sendAdmit_stationCount]
  rfl

theorem endReturn_groups : (s.endReturn ix st o p held).groups = s.groups := by
  rw [State.endReturn, State.count_groups, flush_groups, sendAdmit_groups]
  rfl

theorem endReturn_notices : (s.endReturn ix st o p held).notices = s.notices := by
  rw [State.endReturn, State.count_notices, flush_notices, sendAdmit_notices]
  rfl

theorem endReturn_holdFree : (s.endReturn ix st o p held).holdFree = s.holdFree + held.length := by
  rw [State.endReturn, State.count_holdFree]
  show (State.sendAdmit _ o ix).holdFree + held.length = _
  rw [sendAdmit_holdFree]
  rfl

theorem endReturn_counted : Counted s (s.endReturn ix st o p held) (.station .returnsCompleted) 1 := by
  rw [State.endReturn, Counted, count_counter, if_pos rfl, flush_other _ rfl, sendAdmit_other _ rfl]
  rfl

theorem abandonToOld_stations :
    (s.abandonToOld ix st o n p held).stations = s.stations.put ix { st with place := .associated o p } := by
  rw [State.abandonToOld, State.count_stations, sendAdmit_stations, flush_stations]
  rfl

theorem abandonToOld_stationCount : (s.abandonToOld ix st o n p held).stationCount = s.stationCount.set n (s.stationCount[n] - 1) := by
  rw [State.abandonToOld, State.count_stationCount, sendAdmit_stationCount, flush_stationCount]
  rfl

theorem abandonToOld_groups : (s.abandonToOld ix st o n p held).groups = s.groups := by
  rw [State.abandonToOld, State.count_groups, sendAdmit_groups, flush_groups]
  rfl

theorem abandonToOld_holdFree : (s.abandonToOld ix st o n p held).holdFree = s.holdFree + held.length := by
  rw [State.abandonToOld, State.count_holdFree, sendAdmit_holdFree]
  rfl

theorem orphan_stations : (s.orphan ix st).stations = s.stations.put ix (st.orphaned s) := by
  rw [State.orphan, State.count_stations, leaveGroups_stations]
  rfl

theorem orphan_stationCount : (s.orphan ix st).stationCount = s.stationCount := orphan_frame s ix st .stationCount (by decide)

theorem orphan_holdFree : (s.orphan ix st).holdFree = s.holdFree := orphan_frame s ix st .holdFree (by decide)

theorem orphan_sound (hs : s.GroupsSound) : (s.orphan ix st).GroupsSound := by
  have hset : (s.setStation ix (st.orphaned s)).GroupsSound := hs.congr (by rfl)
  exact (hset.leaveGroups st.groupRadio st.subs ix).congr (by rfl)

theorem orphan_group (hs : s.GroupsSound) (r : RadioIx) (c : ChannelIx) : (s.orphan ix st).group r c =
    if st.groupRadio = some r ∧ c ∈ st.subs.map Subscription.channel then s.groupWithout ix r c else s.group r c := by
  have hset : (s.setStation ix (st.orphaned s)).GroupsSound := hs.congr (by rfl)
  exact leaveGroups_group hset st.groupRadio st.subs ix r c

/-- A station in HANDOFF that becomes ORPHAN: off its radios, its hold queue discarded (R15, R59, R62). -/
def State.strand : State := ((s.orphan ix st).lowerCounts st.place).discardHeld held

theorem strand_frame : ChangesOnly [.stationCount, .holdFree, .counters] (s.orphan ix st) (s.strand ix st held) :=
  ((lowerCounts_frame _ _).le (gs := [.stationCount, .holdFree, .counters])).step (discardHeld_frame _ held)

theorem strand_stationCount : (s.strand ix st held).stationCount = (s.lowerCounts st.place).stationCount := by
  rw [State.strand, discardHeld_frame _ _ .stationCount (by decide)]
  exact lowerCounts_congr (orphan_stationCount s ix st) st.place

theorem strand_holdFree : (s.strand ix st held).holdFree = s.holdFree + held.length := by
  show ((s.orphan ix st).lowerCounts st.place).holdFree + held.length = _
  rw [lowerCounts_holdFree, orphan_holdFree]

theorem abandonToOrphan_eq : s.abandonToOrphan ix st held = (s.strand ix st held).count (.station .abandonmentsToOrphan) := rfl

theorem abandonToOrphan_counts : Counted s (s.abandonToOrphan ix st held) (.station .holdDiscards) held.length ∧
    Counted s (s.abandonToOrphan ix st held) (.station .abandonmentsToOrphan) 1 := by
  have hlower (c : Counter) : ((s.orphan ix st).lowerCounts st.place).counter c = (s.orphan ix st).counter c :=
    counter_congr (lowerCounts_counters _ _) c
  rw [abandonToOrphan_eq, State.strand]
  refine ⟨?_, ?_⟩
  · rw [Counted, count_other _ (by simp), State.discardHeld, addTo_counter, if_pos rfl,
      counter_congr (returnBuffers_frame _ _ .counters (by decide)), hlower, orphan_other _ rfl (by simp)]
  · rw [Counted, count_counter, if_pos rfl, discardHeld_other _ (by simp), hlower, orphan_other _ rfl (by simp)]

end ends

end Sys2Proof.Machine
end

section
/-! PROOFS. RELEASED and LEAVE by the state of the station that they name (O30, O31), and the three deadlines (O32). -/

namespace Sys2Proof.Machine

/- The whole text is elaborated in one process: its proofs in turn, so that their threads' stacks stay within its memory. -/
set_option Elab.async false

/-! ### RELEASED and LEAVE, arrived -/

section arrived
variable {r : RadioIx} {q : Byte} {i : Half} {s s1 : State} {ix : Nat} {st : Station}

theorem leave_arrives (ha : Arrives r q s s1) (hs : s1.screened r i = some (ix, st)) :
    exec (.leave r q i) s = .next ((s1.leave r ix st).settle s.notices) := by
  dsimp only [exec, execLeave]
  rw [arrives_event ha, screen_some hs]

theorem released_arrives (ha : Arrives r q s s1) (hi : i.toNat < 4096) (hf : s1.stations.find i.toNat = some st) (a : Address) (u : Half) :
    exec (.released r q i a u) s = .next ((s1.released r i.toNat st a u.toNat).settle s.notices) := by
  have hlt : i.toNat < Config.stationContexts := hi
  dsimp only [exec, execReleased]
  rw [arrives_event ha, if_pos hlt, hf]

end arrived

section cases
variable {s : State} {r : RadioIx} {ix : Nat} {st : Station} {o n : RadioIx} {d : Word} {p : Option Prior} {held : List FanFrame}

theorem leave_associated (h : st.place = .associated o p) : s.leave r ix st = (s.free ix st).count (.station .leaves) := by
  unfold State.leave
  rw [h]

theorem leave_handoff (h : st.place = .handoff o n d p held) : s.leave r ix st =
    if o = n then s.endReturn ix st o p held
    else if r = o then (s.complete ix st o n held).count (.station .completionsByLeave)
    else s.abandonToOrphan ix st held := by
  unfold State.leave
  rw [h]

theorem released_handoff (h : st.place = .handoff o n d p held) (a : Address) (u : Nat) : s.released r ix st a u =
    if o = r ∧ n ≠ r then
      if a = st.device then ((s.complete ix st o n held).count (.station .completionsByRelease)).addTo (.station .undeliveredFrames) u
      else if s.links[r].profile.strict then ((s.count (.link r .responseErrors)).note .responseError).force ix st o n held true
      else (s.count (.link r .responseErrors)).note .responseError
    else s.late := by
  unfold State.released
  rw [h]

end cases

/-! ### The completion of a handoff (R51, R52) -/

/-- What a completion leaves, seen from the state before its message (R51). -/
theorem complete_arrived {o n : RadioIx} {q : Byte} {s s1 : State} (ha : Arrives o q s s1) (ix : Nat) (st : Station)
    (held : List FanFrame) :
    (s1.complete ix st o n held).stations = s.stations.put ix (st.completedTo s o n) ∧
      (s1.complete ix st o n held).stationCount = s.stationCount.set o (s.stationCount[o] - 1) ∧
      (s1.complete ix st o n held).holdFree = s.holdFree + held.length ∧
      (s1.complete ix st o n held).links[n].queue =
        s.links[n].queue ++ (held.take (64 - s.links[n].queue.length)).map TxEntry.fan ∧
      Counted s (s1.complete ix st o n held) (.station .handoffsCompleted) 1 ∧
      Counted s (s1.complete ix st o n held) (.replay .migrations) st.subs.length ∧
      Counted s (s1.complete ix st o n held) (.station .flushDrops) (held.length - (64 - s.links[n].queue.length)) := by
  have hf := arrives_frame ha
  obtain ⟨h1, h2, h3⟩ := complete_counts s1 ix st o n held
  have hcount : s1.stationCount = s.stationCount := hf .stationCount (by decide)
  refine ⟨?_, ?_, ?_, ?_, ?_, ?_, ?_⟩
  · rw [complete_stations, hf .stations (by decide),
      completedTo_congr (hf .channels (by decide)) (hf .settings (by decide)) (hf .sectorTime (by decide))]
  · rw [complete_stationCount]
    simp only [hcount]
  · rw [complete_holdFree, hf .holdFree (by decide)]
  · rw [complete_queue, arrives_queue ha]
  · rw [Counted, h1, arrives_counter ha (by simp)]
  · rw [Counted, h2, arrives_counter ha (by simp)]
  · rw [Counted, h3, arrives_counter ha (by simp), arrives_queue ha]

/-- Settles O31: RELEASED and LEAVE each complete the handoff, and count how. -/
theorem releaseCompletesTheHandoff : Obligations.ReleaseCompletesTheHandoff := by
  intro o q i s s1 ix st n d p held ha hs hp hne done hdone
  obtain ⟨hi, hlt, hst, -⟩ := screened_found hs
  obtain ⟨h1, h2, h3, h4, h5, h6, h7⟩ := complete_arrived (n := n) ha ix st held
  generalize hu : s1.complete ix st o n held = u at h1 h2 h3 h4 h5 h6 h7
  have hok (t : State) (ht : ChangesOnly (.links :: noticeFields) u t) (hlinks : t.links = u.links)
      (hc : ∀ c, c = .station .handoffsCompleted ∨ c = .replay .migrations ∨ c = .station .flushDrops → t.counter c = u.counter c) :
      done t := by
    rw [hdone]
    refine ⟨?_, fun j hj => ?_, ?_, ?_, ?_, ?_, ?_, ?_⟩
    · rw [ht .stations (by decide), h1, Table.find_put, if_pos rfl]
      rfl
    · rw [ht .stations (by decide), h1, Table.find_put, if_neg hj]
    · rw [ht .stationCount (by decide), h2]
    · rw [ht .holdFree (by decide), h3]
    · rw [link_congr hlinks, h4]
    · rw [Counted, hc _ (by simp), h5]
    · rw [Counted, hc _ (by simp), h6]
    · rw [Counted, hc _ (by simp), h7]
  have hby (c : Counter) (hc : c.completing = false) (h1 : c ≠ .link o .messagesReceived) : u.counter c = s.counter c := by
    rw [← hu, complete_other _ hc, arrives_counter ha h1]
  refine ⟨fun k => ?_, ?_⟩
  · refine ⟨_, released_arrives ha (hi ▸ hlt) (hi ▸ hst) st.device k, ?_⟩
    rw [released_handoff hp, if_pos ⟨rfl, hne⟩, if_pos rfl, ← hi, hu]
    refine ⟨hok _ ?_ (by rw [settle_links]; rfl) fun c hc => ?_, ?_, ?_⟩
    · exact (((count_frame u _).le (gs := .links :: noticeFields)).step (addTo_frame _ _ _)).step (settle_frame _ _)
    · rw [settle_counter _ (by rcases hc with rfl | rfl | rfl <;> simp), addTo_other _ (by rcases hc with rfl | rfl | rfl <;> simp),
        count_other _ (by rcases hc with rfl | rfl | rfl <;> simp)]
    · rw [Counted, settle_counter _ (by simp), addTo_other _ (by simp), count_counter, if_pos rfl, hby _ rfl (by simp)]
    · rw [Counted, settle_counter _ (by simp), addTo_counter, if_pos rfl, count_other _ (by simp), hby _ rfl (by simp)]
  · refine ⟨_, leave_arrives ha hs, ?_⟩
    rw [leave_handoff hp, if_neg (Ne.symm hne), if_pos rfl, hu]
    refine ⟨hok _ ?_ (by rw [settle_links]; rfl) fun c hc => ?_, ?_⟩
    · exact ((count_frame u _).le (gs := .links :: noticeFields)).step (settle_frame _ _)
    · rw [settle_counter _ (by rcases hc with rfl | rfl | rfl <;> simp), count_other _ (by rcases hc with rfl | rfl | rfl <;> simp)]
    · rw [Counted, settle_counter _ (by simp), count_counter, if_pos rfl, hby _ rfl (by simp)]

/-! ### Freeing, counted (R13) -/

theorem emptied_counter (s : State) (ix : Nat) (st : Station) {c : Counter} (h : c.unbinding = false) (h1 : c ≠ .station .holdDiscards) :
    (s.emptied ix st).counter c = s.counter c := by
  have hg := (Counter.unbinding_parts h).1
  have hsub (t : State) : (t.endSubscriptions ix).counter c = t.counter c := by
    unfold State.endSubscriptions
    split
    · rfl
    · rw [leaveGroups_other _ hg]
      rfl
  have hhold (t : State) : (t.discardHold ix).counter c = t.counter c := by
    unfold State.discardHold
    split
    · rfl
    · exact discardHeld_other _ h1 _
  have hbind : (s.unbindStation ix st).counter c = s.counter c := by
    unfold State.unbindStation
    split
    · rfl
    · exact unbind_counter s h _ _
  rw [State.emptied, hhold, hsub, hbind]

theorem free_counter (s : State) (ix : Nat) (st : Station) {c : Counter} (h : c.unbinding = false) (h1 : c ≠ .station .holdDiscards) :
    (s.free ix st).counter c = if c = .station .freed then min (s.counter c + 1) Config.counterMax else s.counter c := by
  rw [free_eq, count_counter, ← emptied_counter s ix st h h1]
  have hl (t : State) : ({ t.lowerCounts st.place with stations := (s.emptied ix st).stations.drop ix } : State).counter c = t.counter c :=
    counter_congr (lowerCounts_counters t _) c
  rw [hl]
  rfl

/-! ### LEAVE (O30) -/

section leave
variable {r : RadioIx} {q : Byte} {i : Half} {s s1 : State} {ix : Nat} {st : Station}
  (ha : Arrives r q s s1) (hs : s1.screened r i = some (ix, st))
include ha hs

theorem leave_frees {p : Option Prior} (hp : st.place = .associated r p) :
    exec (.leave r q i) s = .next ((s1.free ix st).count (.station .leaves)) := by
  rw [leave_arrives ha hs, leave_associated hp]
  refine congrArg _ (settle_same ?_)
  rw [State.count_notices, free_frame s1 ix st .notices (by decide), arrives_frame ha .notices (by decide)]

theorem leave_endsReturn {o n : RadioIx} {d : Word} {p : Option Prior} {held : List FanFrame} (hp : st.place = .handoff o n d p held)
    (h : o = n) : exec (.leave r q i) s = .next (s1.endReturn ix st o p held) := by
  rw [leave_arrives ha hs, leave_handoff hp, if_pos h]
  refine congrArg _ (settle_same ?_)
  rw [endReturn_notices, arrives_frame ha .notices (by decide)]

theorem leave_abandons {o n : RadioIx} {d : Word} {p : Option Prior} {held : List FanFrame} (hp : st.place = .handoff o n d p held)
    (hr : r = n) (h : o ≠ n) : exec (.leave r q i) s = .next (s1.abandonToOrphan ix st held) := by
  rw [leave_arrives ha hs, leave_handoff hp, if_neg h, if_neg (by rw [hr]; exact Ne.symm h)]
  refine congrArg _ (settle_same ?_)
  rw [abandonToOrphan_eq, State.count_notices, strand_frame s1 ix st held .notices (by decide), orphan_frame s1 ix st .notices (by decide),
    arrives_frame ha .notices (by decide)]

end leave

/-- Settles O30: by the station's state, and in HANDOFF by the radio that sends the LEAVE. -/
theorem leaveFreesOrEndsAHandoff : Obligations.LeaveFreesOrEndsAHandoff := by
  refine ⟨fun r q i s s1 ix st p ha hs hp => ?_, fun r q i s s1 ix st o n d p held ha hs hp => ⟨fun hr hne => ?_, fun he => ?_⟩⟩
  all_goals
    have hf := arrives_frame ha
    obtain ⟨-, -, hst, -⟩ := screened_found hs
    have hstations : s1.stations = s.stations := hf .stations (by decide)
    have hcounts : s1.stationCount = s.stationCount := hf .stationCount (by decide)
    have hgroups : s1.groups = s.groups := hf .groups (by decide)
  · refine ⟨_, leave_frees ha hs hp, ?_, fun j hj => ?_, ?_, ?_, fun hb => ?_, fun b hb j => ?_, fun hlaw r' c => ?_, ?_, ?_, ?_⟩
    · rw [State.count_stations, free_station hst, if_pos rfl]
    · rw [State.count_stations, free_station hst, if_neg hj, hstations]
    · rw [State.count_addressMap, free_addressMap, hf .addressMap (by decide)]
    · rw [State.count_stationCount, free_stationCount, hp, lowerCounts_congr hcounts]
      rfl
    · rw [State.count_passes, free_passes_same _ _ hb, hf .passes (by decide)]
    · rw [State.count_passes, free_passes, hf .passes (by decide), hb]
      simp [eq_comm]
    · have hlaw1 := groupLaw_congr hgroups hstations hlaw
      rw [State.count_group, (free_groups hst (groupLaw_sound hlaw1)).2,
        groupWithout_of_law (groupLaw_sound hlaw1) (groupLaw_membered hlaw1) hst, groupWithout_congr (group_congr hgroups r' c)]
    · rw [State.count_wire, free_frame s1 ix st .wire (by decide), hf .wire (by decide)]
    · rw [Counted, count_counter, if_pos rfl, free_counter _ _ _ rfl (by simp), if_neg (by simp), arrives_counter ha (by simp)]
    · rw [Counted, count_other _ (by simp), free_counter _ _ _ rfl (by simp), if_pos rfl, arrives_counter ha (by simp)]
  · obtain ⟨h1, h2⟩ := abandonToOrphan_counts s1 ix st held
    have hframe := strand_frame s1 ix st held
    have hlower : s1.stationCount = s.stationCount := hcounts
    refine ⟨_, leave_abandons ha hs hp hr hne, ?_, ?_, ?_, ?_, fun hlaw r' c => ?_, ?_⟩
    · rw [abandonToOrphan_eq, State.count_stations, hframe .stations (by decide), orphan_stations, Table.find_put, if_pos rfl,
        Station.orphaned, State.orphanDeadline, State.after, hf .sectorTime (by decide), hf .settings (by decide), Station.current, hp]
      rfl
    · rw [abandonToOrphan_eq, State.count_stationCount, strand_stationCount, lowerCounts_congr hlower, hp, State.lowerCounts, if_neg hne]
      show (s.stationCount.set o _).set n ((s.stationCount.set o (s.stationCount[o] - 1))[n] - 1) = _
      rw [vector_set_get, if_neg (Ne.symm hne)]
    · rw [abandonToOrphan_eq, State.count_holdFree, strand_holdFree, hf .holdFree (by decide)]
    · rw [Counted, h1, arrives_counter ha (by simp)]
    · have hlaw1 := groupLaw_congr hgroups hstations hlaw
      rw [abandonToOrphan_eq, State.count_group, group_congr (hframe .groups (by decide)), orphan_group _ _ _ (groupLaw_sound hlaw1),
        groupWithout_of_law (groupLaw_sound hlaw1) (groupLaw_membered hlaw1) hst, groupWithout_congr (group_congr hgroups r' c)]
    · rw [Counted, h2, arrives_counter ha (by simp)]
  · refine ⟨_, leave_endsReturn ha hs hp he, ?_, ?_, ?_, ?_, ?_⟩
    · rw [endReturn_stations, hstations]
    · rw [endReturn_stationCount, hcounts]
    · rw [endReturn_groups, hgroups]
    · rw [endReturn_holdFree, hf .holdFree (by decide)]
    · rw [Counted, endReturn_counted, arrives_counter ha (by simp)]

/-! ### Deadlines (O32) -/

section deadlines
variable {k : StationIx} {s : State} {st : Station}

theorem handoffDeadline_effect {o n : RadioIx} {d : Word} {p : Option Prior} {held : List FanFrame} (hst : s.stations.find k.val = some st)
    (hp : st.place = .handoff o n d p held) (hr : s.inReset = false) (hd : passed d s.sectorTime = true) :
    exec (.handoffDeadlineExpiry k) s =
      .next ((if o = n then s.endReturn k.val st o p held else s.force k.val st o n held true).settle s.notices) := by
  dsimp only [exec, execHandoffDeadlineExpiry]
  rw [event_next _ hr, hst]
  dsimp only
  rw [hp]
  dsimp only
  rw [if_pos hd]

theorem handoffDeadline_ahead {o n : RadioIx} {d : Word} {p : Option Prior} {held : List FanFrame} (hst : s.stations.find k.val = some st)
    (hp : st.place = .handoff o n d p held) (hd : passed d s.sectorTime = false) : exec (.handoffDeadlineExpiry k) s = .next s := by
  dsimp only [exec, execHandoffDeadlineExpiry]
  refine event_idle ?_
  rw [hst]
  dsimp only
  rw [hp]
  dsimp only
  rw [if_neg (by rw [hd]; decide)]

theorem guardDeadline_cases {g : Prior} (hst : s.stations.find k.val = some st) (hg : st.prior = some g) :
    (passed g.deadline s.sectorTime = false → exec (.guardDeadlineExpiry k) s = .next s) ∧
    (s.inReset = false → passed g.deadline s.sectorTime = true →
      exec (.guardDeadlineExpiry k) s = .next { s with stations := s.stations.put k.val st.withoutPrior }) := by
  dsimp only [exec, execGuardDeadlineExpiry]
  refine ⟨fun hd => event_idle ?_, fun hr hd => event_effect hr ?_ rfl⟩
  · rw [hst]
    dsimp only
    rw [hg]
    dsimp only
    rw [if_neg (by rw [hd]; decide)]
  · rw [hst]
    dsimp only
    rw [hg]
    dsimp only
    rw [if_pos hd]
    rfl

theorem orphanDeadline_ahead {o : RadioIx} {d : Word} (hst : s.stations.find k.val = some st) (hp : st.place = .orphan o d)
    (hd : passed d s.sectorTime = false) : exec (.orphanDeadlineExpiry k) s = .next s := by
  dsimp only [exec, execOrphanDeadlineExpiry]
  refine event_idle ?_
  rw [hst]
  dsimp only
  rw [hp]
  dsimp only
  rw [if_neg (by rw [hd]; decide)]

theorem orphanDeadline_frees {o : RadioIx} {d : Word} (hst : s.stations.find k.val = some st) (hp : st.place = .orphan o d)
    (hr : s.inReset = false) (hd : passed d s.sectorTime = true) : exec (.orphanDeadlineExpiry k) s =
      .next ((((s.free k.val st).count (.station .evicted)).note .orphanEvicted).settle s.notices) := by
  dsimp only [exec, execOrphanDeadlineExpiry]
  rw [event_next _ hr, hst]
  dsimp only
  rw [hp]
  dsimp only
  rw [if_pos hd]

end deadlines

/-- Settles O32: each deadline by whether it is passed. -/
theorem deadlinesExpireWhenPassed : Obligations.DeadlinesExpireWhenPassed := by
  refine ⟨fun k s st o n d p held hst hp => ⟨fun hd => handoffDeadline_ahead hst hp hd, fun hr hd hne => ?_, fun hr hd he => ?_⟩,
    fun k s st g hst hg => guardDeadline_cases hst hg,
    fun k s st o d hst hp => ⟨fun hd => orphanDeadline_ahead hst hp hd, fun hr hd => ?_⟩⟩
  · refine ⟨_, handoffDeadline_effect hst hp hr hd, ?_⟩
    rw [if_neg hne, settle_stations, settle_stationCount, settle_holdFree, force_stations, force_stationCount, force_holdFree]
    refine ⟨⟨_, Table.find_put_same _ _ _, rfl⟩, rfl, rfl, ?_, settle_noticed (force_noticed _ _ _ _ _ _ _)⟩
    rw [Counted, settle_counter _ (by simp), (force_counts _ _ _ _ _ _ _).1]
  · refine ⟨_, handoffDeadline_effect hst hp hr hd, ?_⟩
    rw [if_pos he, settle_same (endReturn_notices _ _ _ _ _ _)]
    exact ⟨endReturn_stations _ _ _ _ _ _, endReturn_holdFree _ _ _ _ _ _, endReturn_counted _ _ _ _ _ _,
      endReturn_notices _ _ _ _ _ _⟩
  · refine ⟨_, orphanDeadline_frees hst hp hr hd, ?_⟩
    have hnote (u : State) (c : Counter) : (u.note .orphanEvicted).counter c = u.counter c := counter_congr (State.note_counters u _) c
    refine ⟨?_, ?_, ?_, ?_, ?_, settle_noticed (note_noticed _ _)⟩
    · rw [settle_stations, State.note_stations, State.count_stations, free_station hst, if_pos rfl]
    · rw [settle_addressMap, State.note_addressMap, State.count_addressMap, free_addressMap]
    · rw [settle_stationCount, State.note_stationCount, State.count_stationCount, free_stationCount, hp]
      rfl
    · rw [Counted, settle_counter _ (by simp), hnote, count_counter, if_pos rfl, free_counter _ _ _ rfl (by simp), if_neg (by simp)]
    · rw [Counted, settle_counter _ (by simp), hnote, count_other _ (by simp), free_counter _ _ _ rfl (by simp), if_pos rfl]

end Sys2Proof.Machine
end

section
/-! PROOFS. STATION_EJECT (O48). -/

namespace Sys2Proof.Machine

/- The whole text is elaborated in one process: its proofs in turn, so that their threads' stacks stay within its memory. -/
set_option Elab.async false

theorem dropFromRadios_other (s : State) {c : Counter} (h : c.sending = false) (ix : Nat) (st : Station) :
    (s.dropFromRadios ix st).counter c = s.counter c := by
  unfold State.dropFromRadios
  split
  · exact send_other s h _ _
  · split
    · exact send_other s h _ _
    · rw [send_other _ h, send_other s h]
  · rfl

/-! ### The owner by its parameters (R18, R175) -/

theorem ownStationEject_index {ix : Nat} (h : ix < 65536) (s : State) : ownStationEject (be16 ix ++ [0#8]) s = s.eject ix none := by
  show s.eject (unsigned (be16 ix)) none = _
  rw [unsigned_be16 h]

theorem ownStationEject_address {ix : Nat} (h : ix < 65536) (a : Address) (s : State) :
    ownStationEject (be16 ix ++ [1#8] ++ be48 a) s = s.eject ix (some a) := by
  have ha := optionalParam_present (be48_length a) []
  rw [List.append_nil] at ha
  show (match optionalParam 6 (1#8 :: be48 a) with
    | some (b, []) => s.eject (unsigned (be16 ix)) (b.map fun x => BitVec.ofNat 48 (unsigned x))
    | _ => (Reply.badArg, s)) = _
  rw [ha, unsigned_be16 h]
  show s.eject ix (some (BitVec.ofNat 48 (unsigned (be48 a)))) = _
  rw [address_of_be48]

section eject
variable {s : State} {ix : Nat}

theorem eject_outOfRange (h : 4096 ≤ ix) (a : Option Address) : s.eject ix a = (Reply.badArg, s) :=
  if_neg (Nat.not_lt.mpr h)

theorem eject_absent (h : ix < 4096) (hf : s.stations.find ix = none) (a : Option Address) :
    s.eject ix a = (Reply.plain .notFound, s) := by
  have hlt : ix < Config.stationContexts := h
  rw [State.eject, if_pos hlt, hf]

theorem eject_other (h : ix < 4096) {st : Station} (hf : s.stations.find ix = some st) {a : Address} (ha : st.device ≠ a) :
    s.eject ix (some a) = (Reply.plain .notFound, s) := by
  have hlt : ix < Config.stationContexts := h
  rw [State.eject, if_pos hlt, hf]
  exact if_pos (by simpa using Ne.symm ha)

theorem eject_found (h : ix < 4096) {st : Station} (hf : s.stations.find ix = some st) {a : Option Address}
    (ha : a = none ∨ a = some st.device) : s.eject ix a =
      (Reply.done [byteOf st.place.code, byteOf st.current.val], ((s.dropFromRadios ix st).free ix st).count (.station .ejected)) := by
  have hlt : ix < Config.stationContexts := h
  rw [State.eject, if_pos hlt, hf]
  exact if_neg (by rcases ha with rfl | rfl <;> simp)

/-- What an eject leaves, seen from the state before its DROPs (R18, R13). -/
theorem ejected_effect {st : Station} (hf : s.stations.find ix = some st) {owned : State}
    (ho : ((s.dropFromRadios ix st).free ix st).count (.station .ejected) = owned) :
    owned.wire = (s.dropFromRadios ix st).wire ∧ owned.links = (s.dropFromRadios ix st).links ∧ owned.notices = s.notices ∧
      owned.stations.find ix = none ∧ (∀ j, j ≠ ix → owned.stations.find j = s.stations.find j) ∧
      owned.addressMap = s.addressMap.drop st.device.toNat ∧ owned.holdFree = s.holdFree + st.held.length ∧
      (∀ r : RadioIx, owned.stationCount[r] = s.stationCount[r] - st.load r) ∧
      (∀ j, owned.passes.find j = (s.passes.find j).map fun x =>
        if st.binding.map Binding.slot = some j then { x with bound := x.bound.erase ix } else x) ∧
      (s.GroupLaw → ∀ r c, owned.group r c = s.groupWithout ix r c) ∧
      Counted s owned (.station .ejected) 1 ∧ Counted s owned (.station .freed) 1 := by
  have hd := dropFromRadios_frame s ix st
  have hfree := free_frame (s.dropFromRadios ix st) ix st
  have hcount (c : Counter) (h : c.sending = false) := dropFromRadios_other s h ix st
  generalize hu : s.dropFromRadios ix st = u at *
  have hstations : u.stations = s.stations := hd .stations (by decide)
  have hf1 : u.stations.find ix = some st := hstations ▸ hf
  rw [← ho]
  refine ⟨?_, ?_, ?_, ?_, fun j hj => ?_, ?_, ?_, fun r => ?_, fun j => ?_, fun hlaw r c => ?_, ?_, ?_⟩
  · rw [State.count_wire, hfree .wire (by decide)]
  · rw [State.count_links, hfree .links (by decide)]
  · rw [State.count_notices, hfree .notices (by decide), hd .notices (by decide)]
  · rw [State.count_stations, free_station hf1, if_pos rfl]
  · rw [State.count_stations, free_station hf1, if_neg hj, hstations]
  · rw [State.count_addressMap, free_addressMap, hd .addressMap (by decide)]
  · rw [State.count_holdFree, free_holdFree hf1, hd .holdFree (by decide)]
  · simp only [State.count_stationCount, free_stationCount, lowerCounts_congr (hd .stationCount (by decide))]
    exact lowerCounts_count s st r
  · rw [State.count_passes, free_passes, hd .passes (by decide)]
  · have hgroups : u.groups = s.groups := hd .groups (by decide)
    have hlaw1 := groupLaw_congr hgroups hstations hlaw
    rw [State.count_group, (free_groups hf1 (groupLaw_sound hlaw1)).2,
      groupWithout_of_law (groupLaw_sound hlaw1) (groupLaw_membered hlaw1) hf1, groupWithout_congr (group_congr hgroups r c)]
  · rw [Counted, count_counter, if_pos rfl, free_counter _ _ _ rfl (by simp), if_neg (by simp), hcount _ rfl]
  · rw [Counted, count_other _ (by simp), free_counter _ _ _ rfl (by simp), if_pos rfl, hcount _ rfl]

end eject

/-- Settles O48: the owner by its parameters, then what an eject leaves. -/
theorem ejectFreesTheStation : Obligations.EjectFreesTheStation := by
  intro lane q s s0 hready
  have served : exec (.stationEject lane) s = _ := serve_ready ownStationEject hready
  refine ⟨fun ix st hix hf hparams code hcode dropped hdropped => ?_, fun ix hix hparams hf => ?_,
    fun ix a hix hparams ha => ?_, fun ix a hix hlt hparams => ?_⟩
  · have hcode' : code = byteOf st.place.code := by
      rw [hcode]
      obtain ⟨_, place, _, _, _, _⟩ := st
      cases place <;> rfl
    have hdropped' : dropped = s0.dropFromRadios ix st := by
      rw [hdropped]
      obtain ⟨_, place, _, _, _, _⟩ := st
      cases place <;> rfl
    have howner : ownStationEject q.params s0 = (Reply.done [byteOf st.place.code, byteOf st.current.val],
        ((s0.dropFromRadios ix st).free ix st).count (.station .ejected)) := by
      rcases hparams with h | h
      · rw [h, ownStationEject_index (by omega), eject_found hix hf (.inl rfl)]
      · rw [h, ownStationEject_address (by omega), eject_found hix hf (.inr rfl)]
    obtain ⟨h1, h2, h3, h4, h5, h6, h7, h8, h9, h10, h11, h12⟩ := ejected_effect hf rfl
    refine ⟨_, ?_, hdropped' ▸ h1, hdropped' ▸ h2, h3, h4, h5, h6, h7, fun r => ?_, h9, fun hlaw => h10 ?_, h11, h12⟩
    · rw [served, howner, hcode']
      rfl
    · rw [h8 r, Station.load]
      cases st.isOn r <;> rfl
    · exact groupLaw_congr (ready_frame hready .groups (by decide)) (ready_frame hready .stations (by decide)) hlaw
  · rw [served, hparams, ownStationEject_index (by omega), eject_absent hix hf]
    rfl
  · rw [served, hparams, ownStationEject_address (by omega)]
    rcases hf : s0.stations.find ix with _ | st
    · rw [eject_absent hix hf]
      rfl
    · rw [eject_other hix hf (ha st hf)]
      rfl
  · have howner : ownStationEject q.params s0 = (Reply.badArg, s0) := by
      rcases hparams with h | h
      · rw [h, ownStationEject_index hlt, eject_outOfRange hix]
      · rw [h, ownStationEject_address hlt, eject_outOfRange hix]
    rw [served, howner]
    rfl

end Sys2Proof.Machine
end

section
/-! PROOFS. Admission: JOIN and ROAM (O28, O29), and the rate class that they and RATE carry (O24). -/

namespace Sys2Proof.Machine

/- The whole text is elaborated in one process: its proofs in turn, so that their threads' stacks stay within its memory. -/
set_option Elab.async false

theorem sendAdmit_found {s : State} {ix : Nat} {st : Station} (h : s.stations.find ix = some st) (r : RadioIx) :
    s.sendAdmit r ix = s.send r (.admission ix st.device st.rate) := by
  unfold State.sendAdmit
  rw [h]

theorem mapped_count (s : State) (c : Counter) (a : Address) : (s.count c).mapped a = s.mapped a := by
  unfold State.mapped State.lookup
  rw [State.count_addressMap, State.count_stations]

/-! ### JOIN and ROAM by the station that the address maps to (R6, R7, R46) -/

section maps
variable {s : State} {a : Address} {ix : Nat} {st : Station} (r : RadioIx) (rate : RateClass) (l : Bool)

theorem join_unmapped (h : s.mapped a = none) : s.join r a rate = s.allocate r a rate := by
  unfold State.join
  rw [h]

theorem roam_unmapped (h : s.mapped a = none) :
    s.roam r a rate l = (s.count (.station .roamsReceived)).allocate r a rate := by
  unfold State.roam
  dsimp only
  rw [mapped_count, h]

theorem join_associated (h : s.mapped a = some (ix, st)) {o : RadioIx} {p : Option Prior} (hp : st.place = .associated o p) :
    s.join r a rate = if o = r then s.readmit r ix st rate else s.roam r a rate true := by
  unfold State.join
  rw [h]
  dsimp only
  rw [hp]

theorem roam_associated (h : s.mapped a = some (ix, st)) {o : RadioIx} {p : Option Prior} (hp : st.place = .associated o p) :
    s.roam r a rate l = if o = r then (s.count (.station .roamsReceived)).readmit r ix st rate
      else (s.count (.station .roamsReceived)).roamAssociated ix st o r p rate l := by
  unfold State.roam
  dsimp only
  rw [mapped_count, h]
  dsimp only
  rw [hp]

theorem join_orphan (h : s.mapped a = some (ix, st)) {o : RadioIx} {d : Word} (hp : st.place = .orphan o d) :
    s.join r a rate = s.restore r ix st rate := by
  unfold State.join
  rw [h]
  dsimp only
  rw [hp]

theorem roam_orphan (h : s.mapped a = some (ix, st)) {o : RadioIx} {d : Word} (hp : st.place = .orphan o d) :
    s.roam r a rate l = (s.count (.station .roamsReceived)).restore r ix st rate := by
  unfold State.roam
  dsimp only
  rw [mapped_count, h]
  dsimp only
  rw [hp]

variable {o n : RadioIx} {d : Word} {p : Option Prior} {held : List FanFrame}

theorem join_handoff (h : s.mapped a = some (ix, st)) (hp : st.place = .handoff o n d p held) :
    s.join r a rate = s.roam r a rate true := by
  unfold State.join
  rw [h]
  dsimp only
  rw [hp]

theorem roam_handoff (h : s.mapped a = some (ix, st)) (hp : st.place = .handoff o n d p held) :
    s.roam r a rate l = (s.count (.station .roamsReceived)).roamHandoff ix st o n r p held rate := by
  unfold State.roam
  dsimp only
  rw [mapped_count, h]
  dsimp only
  rw [hp]

end maps

/-! ### Allocation, re-admission and restore (R5 to R7, R17) -/

section admission
variable {s : State} {r : RadioIx}

theorem allocate_full (h : s.radioFull r = true) (a : Address) (rate : RateClass) : s.allocate r a rate = s.refuseFull r none a :=
  if_pos h

theorem allocate_tableFull (h : s.radioFull r = false) (hf : s.stations.lowestFree 4096 = none) (a : Address) (rate : RateClass) :
    s.allocate r a rate = ((s.send r (.refuse none a .tableFull)).count (.station .tableFullRefusals)).note .stationTableFull := by
  have hf' : s.stations.lowestFree Config.stationContexts = none := hf
  unfold State.allocate
  rw [h, hf']
  rfl

/-- A station that a JOIN or ROAM allocates (R6). -/
def Station.fresh (a : Address) (r : RadioIx) (rate : RateClass) : Station :=
  { device := a, place := .associated r none, rate := rate, tier := .guest, binding := none, subs := [] }

/-- The state of an allocation before its ADMIT (R6). -/
def State.allocated (s : State) (r : RadioIx) (a : Address) (rate : RateClass) (ix : Nat) : State :=
  (({ s.setStation ix (.fresh a r rate) with addressMap := s.addressMap.put a.toNat ix }).raiseCount r).count (.station .allocated)

theorem allocate_free {ix : Nat} (h : s.radioFull r = false) (hf : s.stations.lowestFree 4096 = some ix) (a : Address)
    (rate : RateClass) : s.allocate r a rate = (s.allocated r a rate ix).send r (.admission ix a rate) := by
  have hf' : s.stations.lowestFree Config.stationContexts = some ix := hf
  have hfound : (s.allocated r a rate ix).stations.find ix = some (.fresh a r rate) := Table.find_put_same _ _ _
  unfold State.allocate
  rw [h, hf']
  exact sendAdmit_found hfound r

theorem readmit_eq (s : State) (r : RadioIx) (ix : Nat) (st : Station) (rate : RateClass) : s.readmit r ix st rate =
    ((s.setStation ix { st with rate := rate }).send r (.admission ix st.device rate)).count (.station .readmits) := by
  have hfound : (s.setStation ix { st with rate := rate }).stations.find ix = some { st with rate := rate } := Table.find_put_same _ _ _
  rw [State.readmit, sendAdmit_found hfound]

theorem restore_full (h : s.radioFull r = true) (ix : Nat) (st : Station) (rate : RateClass) :
    s.restore r ix st rate = s.refuseFull r (some ix) st.device := if_pos h

/-- A restored station before its flags are evaluated (R17). -/
def Station.rejoined (r : RadioIx) (rate : RateClass) (st : Station) : Station :=
  { st with place := .associated r none, rate := rate, subs := st.subs.map fun e => { e with awaitingKey := true } }

/-- The state of a restore before its flags are evaluated and its ADMIT is sent (R17, R122). -/
def State.rejoin (s : State) (r : RadioIx) (ix : Nat) (st : Station) (rate : RateClass) : State :=
  (((s.setStation ix (st.rejoined r rate)).raiseCount r).joinGroups r st.subs ix).addTo (.replay .rejoins) st.subs.length

theorem restore_room (h : s.radioFull r = false) (ix : Nat) (st : Station) (rate : RateClass) :
    s.restore r ix st rate = (((s.rejoin r ix st rate).repause ix).sendAdmit r ix).count (.station .restored) :=
  if_neg (by simp [h])

theorem rejoin_frame (s : State) (r : RadioIx) (ix : Nat) (st : Station) (rate : RateClass) :
    ChangesOnly [.groups, .counters] ((s.setStation ix (st.rejoined r rate)).raiseCount r) (s.rejoin r ix st rate) :=
  (joinGroups_frame _ _ _ _).step (addTo_frame _ _ _)

theorem restored_frame (h : s.radioFull r = false) (ix : Nat) (st : Station) (rate : RateClass) :
    ChangesOnly ([.stations, .stationCount, .groups] ++ sendFields) s (s.restore r ix st rate) := by
  rw [restore_room h]
  have h1 : ChangesOnly ([.stations, .stationCount, .groups] ++ sendFields) s ((s.setStation ix (st.rejoined r rate)).raiseCount r) :=
    ((setStation_frame s ix _).le (gs := [.stations, .stationCount, .groups] ++ sendFields)).step (raiseCount_frame _ _)
  exact (((h1.step (rejoin_frame s r ix st rate)).step (repause_frame _ ix)).step (sendAdmit_frame _ _ _)).step (count_frame _ _)

theorem restore_stations (h : s.radioFull r = false) (ix : Nat) (st : Station) (rate : RateClass) :
    (s.restore r ix st rate).stations = s.stations.put ix (Station.reflagged s.channels (st.rejoined r rate)) := by
  have hst : (s.rejoin r ix st rate).stations = s.stations.put ix (st.rejoined r rate) := rejoin_frame s r ix st rate .stations (by decide)
  have hch : (s.rejoin r ix st rate).channels = s.channels := rejoin_frame s r ix st rate .channels (by decide)
  rw [restore_room h, State.count_stations, sendAdmit_stations, repause_found (found_of_put hst), State.setStation_stations, hst, hch,
    Table.put_put]

theorem restore_stationCount (h : s.radioFull r = false) (ix : Nat) (st : Station) (rate : RateClass) :
    (s.restore r ix st rate).stationCount = s.stationCount.set r (s.stationCount[r] + 1) := by
  rw [restore_room h, State.count_stationCount, sendAdmit_stationCount, repause_frame _ ix .stationCount (by decide),
    rejoin_frame s r ix st rate .stationCount (by decide)]
  rfl

theorem restore_groups (h : s.radioFull r = false) (ix : Nat) (st : Station) (rate : RateClass) :
    (s.restore r ix st rate).groups = (((s.setStation ix (st.rejoined r rate)).raiseCount r).joinGroups r st.subs ix).groups := by
  rw [restore_room h, State.count_groups, sendAdmit_groups, repause_frame _ ix .groups (by decide), State.rejoin, State.addTo_groups]

theorem rejoin_counter (s : State) (r : RadioIx) (ix : Nat) (st : Station) (rate : RateClass) {c : Counter} (h : c.grouping = false)
    (h1 : c ≠ .replay .rejoins) : (s.rejoin r ix st rate).counter c = s.counter c := by
  rw [State.rejoin, addTo_other _ h1, joinGroups_other _ h]
  rfl

theorem restore_counter (h : s.radioFull r = false) (ix : Nat) (st : Station) (rate : RateClass) {c : Counter} (hc : c.sending = false)
    (h1 : c ≠ .station .restored) : (s.restore r ix st rate).counter c = (s.rejoin r ix st rate).counter c := by
  rw [restore_room h, count_other _ h1, sendAdmit_other _ hc, counter_congr (repause_frame _ ix .counters (by decide))]

theorem restore_counts (h : s.radioFull r = false) (ix : Nat) (st : Station) (rate : RateClass) :
    Counted s (s.restore r ix st rate) (.station .restored) 1 ∧ Counted s (s.restore r ix st rate) (.replay .rejoins) st.subs.length := by
  refine ⟨?_, ?_⟩
  · rw [restore_room h, Counted, count_counter, if_pos rfl, sendAdmit_other _ rfl, counter_congr (repause_frame _ ix .counters (by decide)),
      rejoin_counter _ _ _ _ _ rfl (by simp)]
  · rw [Counted, restore_counter h ix st rate rfl (by simp), State.rejoin, addTo_counter, if_pos rfl, joinGroups_other _ rfl]
    rfl

/-- A station that joins the groups of its entries is in each of them (R116). -/
theorem joinGroups_inGroup (s : State) (r : RadioIx) (es : List Subscription) (ix : Nat) (r' : RadioIx) (c : ChannelIx)
    (h : s.inGroup r' c ix ∨ (r' = r ∧ c ∈ es.map Subscription.channel)) : (s.joinGroups r es ix).inGroup r' c ix := by
  unfold State.joinGroups
  induction es generalizing s with
  | nil => simpa using h
  | cons e es ih =>
    rw [List.foldl_cons]
    refine ih _ ?_
    by_cases hrc : r' = r ∧ c = e.channel
    · refine .inl ((joined_mem (s := s) ?_ ix).mpr (.inr rfl))
      rw [joinGroup_group, if_pos hrc]
    · rcases h with h | ⟨hr, hc⟩
      · exact .inl ((inGroup_congr (by rw [joinGroup_group, if_neg hrc]) ix).mpr h)
      · rw [List.map_cons, List.mem_cons] at hc
        exact .inr ⟨hr, hc.resolve_left fun he => hrc ⟨hr, he⟩⟩

end admission

/-! ### JOIN and ROAM, arrived -/

section arrived
variable {r : RadioIx} {q : Byte} {s s1 : State} (ha : Arrives r q s s1)
include ha

theorem join_arrives (a : Address) (b : Byte) :
    exec (.join r q a b) s = .next ((s1.join r a (clampRate b)).settle s.notices) := by
  dsimp only [exec, execJoin]
  rw [arrives_event ha]

theorem roam_arrives (a : Address) (b f : Byte) :
    exec (.roam r q a b f) s = .next ((s1.roam r a (clampRate b) (f.getLsbD 0)).settle s.notices) := by
  dsimp only [exec, execRoam]
  rw [arrives_event ha]

end arrived

/-- A JOIN or a ROAM from radio r that has arrived at `s1`: a ROAM is counted as one (R46). -/
def Boards (i : Instr) (r : RadioIx) (q : Byte) (a : Address) (b : Byte) (s1 base : State) : Prop :=
  (i = .join r q a b ∧ base = s1) ∨ ∃ f, i = .roam r q a b f ∧ base = s1.count (.station .roamsReceived)

section boards
variable {i : Instr} {r : RadioIx} {q : Byte} {a : Address} {b : Byte} {s s1 base : State} (hb : Boards i r q a b s1 base)
include hb

theorem boards_frame : ChangesOnly [.counters] s1 base := by
  rcases hb with ⟨-, rfl⟩ | ⟨f, -, rfl⟩
  · exact .refl _ _
  · exact count_frame _ _

theorem boards_radioFull : base.radioFull r = s1.radioFull r := by
  have hf := boards_frame hb
  have hc : base.stationCount = s1.stationCount := hf .stationCount (by decide)
  unfold State.radioFull
  rw [link_congr (hf .links (by decide)) r]
  simp only [hc]

theorem boards_counter {c : Counter} (h : c ≠ .station .roamsReceived) : base.counter c = s1.counter c := by
  rcases hb with ⟨-, rfl⟩ | ⟨f, -, rfl⟩
  · rfl
  · exact count_other _ h

variable (ha : Arrives r q s s1)
include ha

theorem boards_notices : base.notices = s.notices := by
  rw [boards_frame hb .notices (by decide), arrives_frame ha .notices (by decide)]

theorem boards_unmapped (h : s1.mapped a = none) : exec i s = .next ((base.allocate r a (clampRate b)).settle s.notices) := by
  rcases hb with ⟨rfl, rfl⟩ | ⟨f, rfl, rfl⟩
  · rw [join_arrives ha, join_unmapped _ _ h]
  · rw [roam_arrives ha, roam_unmapped _ _ _ h]

theorem boards_associated {ix : Nat} {st : Station} {p : Option Prior} (h : s1.mapped a = some (ix, st))
    (hp : st.place = .associated r p) : exec i s = .next ((base.readmit r ix st (clampRate b)).settle s.notices) := by
  rcases hb with ⟨rfl, rfl⟩ | ⟨f, rfl, rfl⟩
  · rw [join_arrives ha, join_associated _ _ h hp, if_pos rfl]
  · rw [roam_arrives ha, roam_associated _ _ _ h hp, if_pos rfl]

theorem boards_orphan {ix : Nat} {st : Station} {o : RadioIx} {d : Word} (h : s1.mapped a = some (ix, st)) (hp : st.place = .orphan o d) :
    exec i s = .next ((base.restore r ix st (clampRate b)).settle s.notices) := by
  rcases hb with ⟨rfl, rfl⟩ | ⟨f, rfl, rfl⟩
  · rw [join_arrives ha, join_orphan _ _ h hp]
  · rw [roam_arrives ha, roam_orphan _ _ _ h hp]

end boards

/-- What an admission sends, in the words of `JoinAllocatesOrRestores`. -/
theorem allocated_boards {i : Instr} {r : RadioIx} {q : Byte} {a : Address} {b : Byte} {s s1 base : State}
    (hb : Boards i r q a b s1 base) (ha : Arrives r q s s1) (hm : s1.mapped a = none) {ix : Nat} (hr : s1.radioFull r = false)
    (hf : s1.stations.lowestFree 4096 = some ix) :
    exec i s = .next ((base.allocated r a (clampRate b) ix).send r (.admission ix a (clampRate b))) := by
  have hst : base.stations = s1.stations := boards_frame hb .stations (by decide)
  have hfull : base.radioFull r = false := boards_radioFull hb ▸ hr
  rw [boards_unmapped hb ha hm, allocate_free hfull (hst ▸ hf)]
  refine congrArg _ (settle_same ?_)
  rw [send_notices, ← boards_notices hb ha]
  rfl

theorem allocated_eq {s1 base : State} (h : ChangesOnly [.counters] s1 base) (r : RadioIx) (a : Address) (rate : RateClass) (ix : Nat) :
    base.allocated r a rate ix = { base with
      stations := s1.stations.put ix (.fresh a r rate), addressMap := s1.addressMap.put a.toNat ix,
      stationCount := s1.stationCount.set r (s1.stationCount[r] + 1) }.count (.station .allocated) := by
  have h1 : base.stations = s1.stations := h .stations (by decide)
  have h2 : base.addressMap = s1.addressMap := h .addressMap (by decide)
  have h3 : base.stationCount = s1.stationCount := h .stationCount (by decide)
  rw [State.allocated, State.raiseCount, State.setStation]
  simp only [h1, h2, h3]

/-- Settles O28: by the station that the address maps to, for a JOIN and a ROAM alike; a JOIN from elsewhere is a ROAM. -/
theorem joinAllocatesOrRestores : Obligations.JoinAllocatesOrRestores := by
  refine ⟨fun r q a b s s1 ha i base hi => ?_, fun r q a b s s1 ix st ha hm hp => ?_⟩
  · have hb : Boards i r q a b s1 base := hi
    have hframe := boards_frame hb
    have hst : base.stations = s1.stations := hframe .stations (by decide)
    refine ⟨fun hm => ⟨fun ix hr hf => ?_, fun hr => ?_, fun hr hf => ?_⟩, fun ix st hm => ⟨fun p hp => ?_, fun o d hp =>
      ⟨fun hr => ?_, fun hr => ?_⟩⟩⟩
    · rw [allocated_boards hb ha hm hr hf, allocated_eq hframe]
      rfl
    · rw [boards_unmapped hb ha hm, allocate_full (by rw [boards_radioFull hb, hr])]
      rfl
    · rw [boards_unmapped hb ha hm, allocate_tableFull (by rw [boards_radioFull hb, hr]) (hst ▸ hf)]
    · rw [boards_associated hb ha hm hp, readmit_eq]
      refine (congrArg _ (settle_same ?_)).trans ?_
      · rw [State.count_notices, send_notices, ← boards_notices hb ha]
        rfl
      · rw [State.setStation, hst]
    · have hr' : base.radioFull r = false := by rw [boards_radioFull hb, hr]
      have hcount : base.stationCount = s1.stationCount := hframe .stationCount (by decide)
      have hrestore := restored_frame hr' ix st (clampRate b)
      obtain ⟨h1, h2⟩ := restore_counts hr' ix st (clampRate b)
      refine ⟨_, (boards_orphan hb ha hm hp).trans (congrArg _ (settle_same ?_)), ?_, fun j hj => ?_, ?_, fun e he => ?_, ?_, ?_, ?_, ?_⟩
      · rw [hrestore .notices (by decide), boards_notices hb ha]
      · rw [restore_stations hr', Table.find_put, if_pos rfl, hframe .channels (by decide)]
        rfl
      · rw [restore_stations hr', Table.find_put, if_neg hj, hst]
      · rw [restore_stationCount hr']
        simp only [hcount]
      · have hin := joinGroups_inGroup ((base.setStation ix (st.rejoined r (clampRate b))).raiseCount r) r st.subs ix r e.channel
          (.inr ⟨rfl, List.mem_map_of_mem he⟩)
        obtain ⟨g, hg, hmem⟩ := hin
        exact ⟨g, (group_congr (restore_groups hr' ix st (clampRate b)) r e.channel).trans hg, hmem⟩
      · rw [Counted, h1, boards_counter hb (by simp), arrives_counter ha (by simp)]
      · rw [Counted, h2, boards_counter hb (by simp), arrives_counter ha (by simp)]
      · rw [restore_counter hr' _ _ _ rfl (by simp), rejoin_counter _ _ _ _ _ rfl (by simp)]
      · have h3 : ChangesOnly ([.stations, .stationCount, .groups] ++ sendFields) s base :=
          ((arrives_frame ha).le (gs := [.stations, .stationCount, .groups] ++ sendFields)).step hframe
        exact h3.trans hrestore
    · rw [boards_orphan hb ha hm hp, restore_full (by rw [boards_radioFull hb, hr])]
      rfl
  · rw [join_arrives ha, roam_arrives ha, show (1#8).getLsbD 0 = true from rfl]
    rcases hp with ⟨o, p, hp, hne⟩ | ⟨o, n, d, p, held, hp⟩
    · rw [join_associated _ _ hm hp, if_neg hne]
    · rw [join_handoff _ _ hm hp]

end Sys2Proof.Machine
end

section
/-! PROOFS. A ROAM that begins or supersedes a handoff (O29), and the rate class clamped first (O24). -/

namespace Sys2Proof.Machine

/- The whole text is elaborated in one process: its proofs in turn, so that their threads' stacks stay within its memory. -/
set_option Elab.async false

/-! ### ROAM for an ASSOCIATED station (R47, R48) -/

theorem radioFull_count (s : State) (c : Counter) (r : RadioIx) : (s.count c).radioFull r = s.radioFull r := rfl

section associated
variable {s : State} {n : RadioIx} {p : Option Prior} {l : Bool} (ix : Nat) (st : Station) (o : RadioIx) (rate : RateClass)

theorem roamAssociated_full (h : s.radioFull n = true) :
    s.roamAssociated ix st o n p rate l = s.refuseFull n (some ix) st.device := if_pos h

theorem roamAssociated_guarded (h : s.radioFull n = false) (hg : s.guarded n p l = true) :
    s.roamAssociated ix st o n p rate l = s.deferRoam n ix st p := by
  unfold State.roamAssociated
  rw [h, hg]
  rfl

theorem roamAssociated_begins (h : s.radioFull n = false) (hg : s.guarded n p l = false) :
    s.roamAssociated ix st o n p rate l = s.beginHandoff ix st o n p rate := by
  unfold State.roamAssociated
  rw [h, hg]
  rfl

theorem guarded_prior (hg : s.guarded n p l = true) : ∃ guard, p = some guard := by
  unfold State.guarded at hg
  rcases p with _ | guard
  · simp at hg
  · exact ⟨guard, rfl⟩

end associated

/-- The guard of R47 reads the settings alone. -/
theorem guarded_congr {s t : State} (h : t.settings = s.settings) (n : RadioIx) (p : Option Prior) (l : Bool) :
    t.guarded n p l = s.guarded n p l := by
  unfold State.guarded
  rw [h]

/-- The deadline of a handoff reads the settings and the sector time alone (R48). -/
theorem handoffDeadline_congr {s t : State} (hs : t.settings = s.settings) (hn : t.sectorTime = s.sectorTime) :
    t.handoffDeadline = s.handoffDeadline := by
  unfold State.handoffDeadline State.after
  rw [hs, hn]

/-! ### ROAM, arrived, for a station on another radio -/

section arrived
variable {m : RadioIx} {q : Byte} {s s1 s2 : State} (ha : Arrives m q s s1) {a : Address} {ix : Nat} {st : Station}
  (hm : s1.mapped a = some (ix, st)) (hs2 : s2 = s1.count (.station .roamsReceived)) (b f : Byte)
include ha hs2

theorem roamed_frame : ChangesOnly [.links, .counters] s s2 := by
  rw [hs2]
  exact (arrives_frame ha).step (count_frame _ _)

include hm

theorem roam_elsewhere {o : RadioIx} {p : Option Prior} (hp : st.place = .associated o p) (hne : o ≠ m) : exec (.roam m q a b f) s =
    .next ((s2.roamAssociated ix st o m p (clampRate b) (f.getLsbD 0)).settle s.notices) := by
  rw [roam_arrives ha, roam_associated _ _ _ hm hp, if_neg hne, hs2]

theorem roam_during {o n : RadioIx} {d : Word} {p : Option Prior} {held : List FanFrame} (hp : st.place = .handoff o n d p held) :
    exec (.roam m q a b f) s = .next ((s2.roamHandoff ix st o n m p held (clampRate b)).settle s.notices) := by
  rw [roam_arrives ha, roam_handoff _ _ _ hm hp, hs2]

end arrived

/-! ### ROAM during a handoff (R55 to R58) -/

section handoff
variable {s : State} (ix : Nat) (st : Station) {o n m : RadioIx} (p : Option Prior) (held : List FanFrame) (rate : RateClass)

/-- The station in a handoff towards another radio, its deadline set anew (R56 to R58). -/
def State.towards (s : State) (ix : Nat) (st : Station) (o target : RadioIx) (p : Option Prior) (held : List FanFrame) (rate : RateClass) :
    State := s.setStation ix { st with place := .handoff o target s.handoffDeadline p held, rate := rate }

/-- A supersede, counted and noticed. -/
def State.superseded (s : State) : State := (s.count (.station .supersedes)).note .superseded

theorem roamHandoff_target : s.roamHandoff ix st o n n p held rate = s.readmit n ix st rate := if_pos rfl

theorem roamHandoff_full (h1 : m ≠ n) (h2 : m ≠ o) (hf : s.radioFull m = true) :
    s.roamHandoff ix st o n m p held rate = s.refuseFull m (some ix) st.device := by
  rw [State.roamHandoff, if_neg h1]
  by_cases h3 : o = n
  · rw [if_pos h3]
    exact if_pos hf
  · rw [if_neg h3, if_neg h2]
    exact if_pos hf

theorem roamHandoff_third (h1 : m ≠ n) (h2 : m ≠ o) (h3 : o ≠ n) (hf : s.radioFull m = false) :
    s.roamHandoff ix st o n m p held rate =
      ((((s.towards ix st o m p held rate).raiseCount m).lowerCount n).send n (.refuse (some ix) st.device .superseded)).superseded := by
  rw [State.roamHandoff, if_neg h1, if_neg h3, if_neg h2]
  exact if_neg (by simp [hf])

theorem roamHandoff_back (h : o ≠ n) : s.roamHandoff ix st o n o p held rate =
    (((s.towards ix st o o p held rate).lowerCount n).send n (.refuse (some ix) st.device .superseded)).superseded := by
  rw [State.roamHandoff, if_neg h, if_neg h, if_pos rfl]
  rfl

theorem roamHandoff_outward (h : m ≠ o) (hf : s.radioFull m = false) : s.roamHandoff ix st o o m p held rate =
    (((s.towards ix st o m p held rate).raiseCount m).send o (.release ix st.device)).superseded := by
  rw [State.roamHandoff, if_neg h, if_pos rfl]
  exact if_neg (by simp [hf])

end handoff

/-- Settles O29: a ROAM from another radio by R47, then a ROAM during a handoff by the radio it comes from. -/
theorem roamBeginsOrSupersedesAHandoff : Obligations.RoamBeginsOrSupersedesAHandoff := by
  refine ⟨fun n q a b f s s1 ix st o p ha hm hp hne s2 hs2 => ?_, fun m q a b f s s1 ix st o n d p held ha hm hp s2 hs2 toward htoward
    counted hcounted => ?_⟩
  · have hframe := roamed_frame ha hs2
    have hfull : s2.radioFull n = s1.radioFull n := by rw [hs2, radioFull_count]
    have hguard : s2.guarded n p (f.getLsbD 0) = s1.guarded n p (f.getLsbD 0) :=
      guarded_congr (by rw [hs2, State.count_settings]) _ _ _
    have hdeadline : s2.handoffDeadline = s.handoffDeadline :=
      handoffDeadline_congr (hframe .settings (by decide)) (hframe .sectorTime (by decide))
    have hnow : s2.sectorTime = s.sectorTime := hframe .sectorTime (by decide)
    rw [roam_elsewhere ha hm hs2 b f hp hne]
    refine ⟨fun hr hg => ?_, fun hr hg => ?_, fun hr => ?_⟩
    · rw [roamAssociated_begins _ _ _ _ (hfull.trans hr) (hguard.trans hg), State.beginHandoff, hdeadline]
      refine congrArg _ ((settle_same ?_).trans ?_)
      · rw [send_notices, State.count_notices, State.raiseCount_notices, State.setStation_notices, hframe .notices (by decide)]
      · rfl
    · obtain ⟨guard, rfl⟩ := guarded_prior hg
      refine ⟨guard, rfl, ?_⟩
      rw [roamAssociated_guarded _ _ _ _ (hfull.trans hr) (hguard.trans hg), State.deferRoam]
      rw [hnow]
    · rw [roamAssociated_full _ _ _ _ (hfull.trans hr)]
      rfl
  · have hframe := roamed_frame ha hs2
    have hfull : s2.radioFull m = s1.radioFull m := by rw [hs2, radioFull_count]
    have hdeadline : s2.handoffDeadline = s.handoffDeadline :=
      handoffDeadline_congr (hframe .settings (by decide)) (hframe .sectorTime (by decide))
    have hcount : s2.stationCount = s.stationCount := hframe .stationCount (by decide)
    have htowards (target : RadioIx) : s2.towards ix st o target p held (clampRate b) = toward target := by
      rw [htoward, State.towards, hdeadline]
      rfl
    have hc (target : RadioIx) : (toward target).stationCount = s.stationCount := by rw [htoward]; exact hcount
    rw [roam_during ha hm hs2 b f hp, hcounted]
    refine ⟨fun h => ?_, fun h1 h2 hr => ?_, fun h1 h2 h3 hr => ?_, fun h1 h2 => ?_, fun h1 h2 hr => ?_⟩
    · subst h
      rw [roamHandoff_target, readmit_eq]
      refine congrArg _ (settle_same ?_)
      rw [State.count_notices, send_notices, State.setStation_notices, hframe .notices (by decide)]
    · rw [roamHandoff_full _ _ _ _ _ h1 h2 (hfull.trans hr)]
      rfl
    · rw [roamHandoff_third _ _ _ _ _ h1 h2 h3 (hfull.trans hr), htowards, State.raiseCount, State.lowerCount]
      simp only [hc, vector_set_get, if_neg (Ne.symm h1)]
      rfl
    · subst h1
      rw [roamHandoff_back _ _ _ _ _ h2, htowards, State.lowerCount]
      simp only [hc]
      rfl
    · subst h2
      rw [roamHandoff_outward _ _ _ _ _ h1 (hfull.trans hr), htowards, State.raiseCount]
      simp only [hc]
      rfl

/-! ### The rate class (R8, R12) -/

theorem clampRate_above {b : Byte} (h : 11 < b.toNat) : clampRate b = 11 := dif_neg (by omega)

theorem clampRate_within {b : Byte} (h : b.toNat ≤ 11) : (clampRate b).val = b.toNat := by
  rw [clampRate, dif_pos (by omega)]

/-- A RATE that passes the screen replaces the class and does nothing else (R12). -/
theorem rate_arrives {r : RadioIx} {q : Byte} {i : Half} {s s1 : State} {ix : Nat} {st : Station} (ha : Arrives r q s s1)
    (hs : s1.screened r i = some (ix, st)) (b : Byte) :
    exec (.rate r q i b) s = .next (s1.setStation ix { st with rate := clampRate b }) := by
  dsimp only [exec, execRate]
  rw [arrives_event ha, screen_some hs]
  refine congrArg _ (settle_same ?_)
  rw [State.setStation_notices, arrives_frame ha .notices (by decide)]

theorem recipients_rate (s : State) (c : ChannelIx) (cls : ReplayClass) (members : List Nat) :
    ∀ m ∈ s.recipients c cls members, ∃ st ∈ s.stations.find m.station, m.rate = st.rate := by
  intro m hm
  unfold State.recipients at hm
  rw [List.mem_filterMap] at hm
  obtain ⟨ix, -, hm⟩ := hm
  split at hm
  · cases hm
  next st hf =>
    split at hm
    · cases hm
      exact ⟨st, hf, rfl⟩
    · cases hm

/-- Settles O24: the clamped byte is the class carried, in the messages, in the table and in the ADMIT. -/
theorem rateClassIsClampedFirst : Obligations.RateClassIsClampedFirst := by
  refine ⟨fun b => ⟨clampRate_above, clampRate_within, fun h r q a f st s => ?_⟩, fun r q i b s s1 ix st ha hs => rate_arrives ha hs b,
    fun r q a b s s1 ix ha hm hr hf harm => ?_, recipients_rate⟩
  · have hb : clampRate b = clampRate 11#8 := clampRate_above h
    refine ⟨?_, ?_, ?_⟩
    · dsimp only [exec, execJoin]
      rw [hb]
    · dsimp only [exec, execRoam]
      rw [hb]
    · dsimp only [exec, execRate]
      rw [hb]
  · have hexec := allocated_boards (.inl ⟨rfl, rfl⟩) ha hm hr hf (i := .join r q a b)
    refine ⟨_, hexec, ?_⟩
    have hlinks : (s1.allocated r a (clampRate b) ix).links = s1.links := rfl
    have hwire : (s1.allocated r a (clampRate b) ix).wire = s1.wire := rfl
    generalize s1.allocated r a (clampRate b) ix = u at hlinks hwire
    have hlink : u.links[r] = { s.links[r] with rxSequence := q + 1 } := (link_congr hlinks r).trans (arrives_link ha)
    have hshown := shown_send (s := s) (u := u) (.admission ix a (clampRate b)) (by rw [hwire, arrives_frame ha .wire (by decide)])
      (by rw [hlink]; exact ha.2.1) (by rw [hlink]; exact harm) (List.prefix_refl _)
    rw [hlink] at hshown
    exact hshown

end Sys2Proof.Machine
end

section
/-! PROOFS. Messages on a link: the sequence check, the state gate, strays, late releases and response errors (O23). -/

namespace Sys2Proof.Machine

/- The whole text is elaborated in one process: its proofs in turn, so that their threads' stacks stay within its memory. -/
set_option Elab.async false

/-- Each of the eight messages is its owner's, behind the sequence check and the gate (R33, R35). -/
theorem gated_event {i : Instr} {r : RadioIx} {q : Byte} (h : gatedMessage i = some (r, q)) :
    ∃ owner : State → State, ∀ s, exec i s = event s fun s => s.receive r q owner := by
  unfold gatedMessage at h
  split at h
  case h_9 => cases h
  all_goals
    injection h with h
    injection h with hr hq
    subst hr hq
  · exact ⟨_, fun s => by dsimp only [exec, execJoin]⟩
  · exact ⟨_, fun s => by dsimp only [exec, execRoam]⟩
  · exact ⟨_, fun s => by dsimp only [exec, execLeave]⟩
  · exact ⟨_, fun s => by dsimp only [exec, execRate]⟩
  · exact ⟨_, fun s => by dsimp only [exec, execClaim]⟩
  · exact ⟨_, fun s => by dsimp only [exec, execSubscribe]⟩
  · exact ⟨_, fun s => by dsimp only [exec, execUnsubscribe]⟩
  · exact ⟨_, fun s => by dsimp only [exec, execReleased]⟩

/-- A message that skips sequence numbers (R33). -/
theorem checkSequence_gap {s : State} {r : RadioIx} {q : Byte} (h : s.links[r].rxSequence ≠ q) : s.checkSequence r q =
    ((s.setLink r { s.links[r] with rxSequence := q + 1 }).count (.link r .sequenceGaps)).note .sequenceGap := by
  unfold State.checkSequence
  exact if_neg h

theorem receive_ignored {s : State} {r : RadioIx} (h : s.links[r].state = .detected ∨ s.links[r].state = .down) (q : Byte)
    (owner : State → State) : s.receive r q owner = (s.checkSequence r q).count (.link r .notUpIgnored) := by
  unfold State.receive
  rcases h with h | h <;> rw [h]

/-- What is on the wire stays on it. -/
theorem Shown.lasting {s t u : State} {o : Output} (h : Shown s t o) (k : Lasting t u) : Shown s u o := by
  obtain ⟨before, after, hw⟩ := h
  obtain ⟨w, hw'⟩ := k.wire
  exact ⟨before, after ++ w, by rw [← hw', hw]; simp⟩

/-! ### Strays (R9, R10) -/

section strays
variable {r : RadioIx} {q : Byte} {i : Half} {s s1 : State} (ha : Arrives r q s s1)
include ha

theorem screened_event (hs : s1.screened r i = none) (owner : Nat → Station → State → State) :
    event s (fun s => s.receive r q fun s => s.screen r i owner) = .next (s1.stray.settle s.notices) := by
  rw [arrives_event ha, screen_none hs]

theorem released_absent (h : 4096 ≤ i.toNat ∨ s1.stations.find i.toNat = none) (a : Address) (u : Half) :
    exec (.released r q i a u) s = .next (s1.stray.settle s.notices) := by
  dsimp only [exec, execReleased]
  rw [arrives_event ha]
  by_cases hi : i.toNat < Config.stationContexts
  · rw [if_pos hi, h.resolve_left (Nat.not_le.mpr hi)]
  · rw [if_neg hi]

end strays

section released
variable {s : State} {r : RadioIx} {ix : Nat} {st : Station}

theorem released_orphan {o : RadioIx} {d : Word} (h : st.place = .orphan o d) (a : Address) (u : Nat) :
    s.released r ix st a u = s.stray := by
  unfold State.released
  rw [h]

theorem released_associated {o : RadioIx} {p : Option Prior} (h : st.place = .associated o p) (a : Address) (u : Nat) :
    s.released r ix st a u = s.late := by
  unfold State.released
  rw [h]

variable {o n : RadioIx} {d : Word} {p : Option Prior} {held : List FanFrame}

theorem released_elsewhere (h : st.place = .handoff o n d p held) (he : o ≠ r ∨ n = r) (a : Address) (u : Nat) :
    s.released r ix st a u = s.late := by
  rw [released_handoff h, if_neg]
  rintro ⟨h1, h2⟩
  exact he.elim (absurd h1) h2

theorem released_mismatch (h : st.place = .handoff r n d p held) (hn : n ≠ r) {a : Address} (ha : a ≠ st.device) (u : Nat) :
    s.released r ix st a u = if s.links[r].profile.strict then
      ((s.count (.link r .responseErrors)).note .responseError).force ix st r n held true
    else (s.count (.link r .responseErrors)).note .responseError := by
  rw [released_handoff h, if_pos ⟨rfl, hn⟩, if_neg ha]

end released

/-- What a response error in strict mode leaves (R37, R38). -/
theorem responseError_forces {r : RadioIx} {q : Byte} {s s1 : State} (ha : Arrives r q s s1) (ix : Nat) (st : Station) (n : RadioIx)
    (held : List FanFrame) {u : State} (hu : u = (s1.count (.link r .responseErrors)).note .responseError) :
    (∃ x ∈ (u.force ix st r n held true).stations.find ix, x.place = .associated n (s.priorAfter r)) ∧
      (u.force ix st r n held true).stationCount = s.stationCount.set r (s.stationCount[r] - 1) ∧
      (u.force ix st r n held true).holdFree = s.holdFree + held.length ∧
      Counted s (u.force ix st r n held true) (.link r .responseErrors) 1 ∧
      Counted s (u.force ix st r n held true) (.station .forcedCompletions) 1 ∧
      Counted s (u.force ix st r n held true) (.station .handoffsCompleted) 1 ∧
      Noticed (u.force ix st r n held true) .responseError ∧
      (s.links[r].arm = none →
        Shown s (u.force ix st r n held true) (.control r (ControlOut.bytes (.drop ix st.device) s.links[r].txSequence))) := by
  have hframe : ChangesOnly [.links, .counters, .notices] s u := by
    rw [hu]
    exact (((arrives_frame ha).le (gs := [.links, .counters, .notices])).step (count_frame _ _)).step (note_frame _ _)
  have hlinks : u.links = s1.links := by rw [hu, State.note_links, State.count_links]
  have hcounters (c : Counter) : u.counter c = (s1.count (.link r .responseErrors)).counter c := by
    rw [hu]
    exact counter_congr (State.note_counters _ _) c
  have hnoted : Noticed u .responseError := hu ▸ note_noticed _ _
  have hcount : u.stationCount = s.stationCount := hframe .stationCount (by decide)
  obtain ⟨h1, h2⟩ := force_counts u ix st r n held true
  refine ⟨⟨st.completedTo u r n, ?_, ?_⟩, ?_, ?_, ?_, ?_, ?_, (force_steady u ix st r n held true).noticed hnoted, fun harm => ?_⟩
  · rw [force_stations, Table.find_put, if_pos rfl]
    rfl
  · rw [completedTo_congr (hframe .channels (by decide)) (hframe .settings (by decide)) (hframe .sectorTime (by decide))]
    rfl
  · rw [force_stationCount]
    simp only [hcount]
  · rw [force_holdFree, hframe .holdFree (by decide)]
  · rw [Counted, force_other _ rfl (by simp), hcounters, count_counter, if_pos rfl, arrives_counter ha (by simp)]
  · rw [Counted, h1, hcounters, count_other _ (by simp), arrives_counter ha (by simp)]
  · rw [Counted, h2, hcounters, count_other _ (by simp), arrives_counter ha (by simp)]
  · have hlink : u.links[r] = { s.links[r] with rxSequence := q + 1 } := (link_congr hlinks r).trans (arrives_link ha)
    have hwire : (u.send r (.drop ix st.device)).wire <+: (u.force ix st r n held true).wire := by
      rw [force_eq, State.note_wire, State.count_wire]
      exact (complete_steady _ ix st r n held).wire
    have hshown := shown_send (s := s) (.drop ix st.device) (hframe .wire (by decide)) (by rw [hlink]; exact ha.2.1)
      (by rw [hlink]; exact harm) hwire
    rw [hlink] at hshown
    exact hshown

/-- Settles O23: the sequence check and the gate, the screen, and the cases of R49. -/
theorem straysAndIgnoredMessages : Obligations.StraysAndIgnoredMessages := by
  refine ⟨fun i r q hi => ⟨fun s hr hl u hu => ?_, ?_⟩, fun r q st s s1 ha hs => ?_, fun r q i a u s s1 ha => ⟨fun h => ?_,
    fun st hlt hf => ⟨fun h => ?_, fun n d p held hp hn hne => ?_⟩⟩⟩
  · obtain ⟨owner, hi⟩ := gated_event hi
    rw [hi, event_next _ hr, receive_ignored hl, hu]
    refine ⟨fun hq => ?_, fun hq => ?_⟩
    · rw [checkSequence_expected hq]
      exact congrArg _ (settle_same rfl)
    · rw [checkSequence_gap hq]
  · obtain ⟨owner, hi⟩ := gated_event hi
    refine ⟨owner, fun s hr hl u hu => ?_⟩
    rw [hi, event_next _ hr, receive_up _ hl, hu]
    exact ⟨fun hq => by rw [checkSequence_expected hq], fun hq => by rw [checkSequence_gap hq]⟩
  · have hleave : exec (.leave r q st) s = .next (s1.stray.settle s.notices) := screened_event ha hs _
    refine ⟨hleave, fun b => ?_, fun p k => ?_, fun c => ?_, fun c => ?_⟩
    all_goals
      rw [hleave]
      exact screened_event ha hs _
  · rcases h with h | h | ⟨st, o, d, hf, hp⟩
    · exact released_absent ha (.inl h) a u
    · exact released_absent ha (.inr h) a u
    · by_cases hlt : i.toNat < 4096
      · rw [released_arrives ha hlt hf, released_orphan hp]
        rfl
      · exact released_absent ha (.inl (Nat.not_lt.mp hlt)) a u
  · rw [released_arrives ha hlt hf]
    rcases h with ⟨o, p, hp⟩ | ⟨o, n, d, p, held, hp, he⟩
    · rw [released_associated hp]
      rfl
    · rw [released_elsewhere hp he]
      rfl
  · have hstrict : s1.links[r].profile = s.links[r].profile := by rw [arrives_link ha]
    rw [released_arrives ha hlt hf, released_mismatch hp hn hne, hstrict]
    refine ⟨fun h => ?_, fun h => ?_⟩
    · rw [h]
      rfl
    · rw [h, if_pos rfl]
      obtain ⟨h1, h2, h3, h4, h5, h6, h7, h8⟩ := responseError_forces ha i.toNat st n held rfl
      refine ⟨_, rfl, ?_, ?_, ?_, ?_, ?_, ?_, settle_noticed h7, settle_noticed (force_noticed _ _ _ _ _ _ _), fun harm => ?_⟩
      · rw [settle_stations]
        exact h1
      · rw [settle_stationCount, h2]
      · rw [settle_holdFree, h3]
      · rw [Counted, settle_counter _ (by simp), h4]
      · rw [Counted, settle_counter _ (by simp), h5]
      · rw [Counted, settle_counter _ (by simp), h6]
      · exact (h8 harm).lasting (settle_lasting _ s.notices)

end Sys2Proof.Machine
end

section
/-! PROOFS. KEEPALIVE, corrupt and malformed messages, and the handoffs that a strict radio forces (O22). -/

namespace Sys2Proof.Machine

/- The whole text is elaborated in one process: its proofs in turn, so that their threads' stacks stay within its memory. -/
set_option Elab.async false

/-! ### The sequence check and the KEEPALIVE (R26, R33) -/

theorem checkSequence_links (s : State) (r : RadioIx) (q : Byte) :
    (s.checkSequence r q).links = s.links.set r { s.links[r] with rxSequence := q + 1 } := by
  unfold State.checkSequence
  dsimp only
  split
  · rfl
  · rw [State.note_links, State.count_links]
    rfl

theorem checkSequence_counter (s : State) (r : RadioIx) (q : Byte) {c : Counter} (h : c ≠ .link r .sequenceGaps) :
    (s.checkSequence r q).counter c = s.counter c := by
  unfold State.checkSequence
  dsimp only
  split
  · rfl
  · rw [counter_congr (State.note_counters _ _), count_other _ h]
    rfl

theorem checkSequence_gapNoticed {s : State} {r : RadioIx} {q : Byte} (h : s.links[r].rxSequence ≠ q) :
    Noticed (s.checkSequence r q) .sequenceGap ∧ Counted s (s.checkSequence r q) (.link r .sequenceGaps) 1 := by
  rw [checkSequence_gap h]
  refine ⟨note_noticed _ _, ?_⟩
  rw [Counted, counter_congr (State.note_counters _ _), count_counter, if_pos rfl]
  rfl

theorem takeKeepalive_links (s : State) (r : RadioIx) (alert : Bool) : (s.takeKeepalive r alert).links =
    s.links.set r { s.links[r] with keepaliveSeen := true, alertSeen := alert } := by
  unfold State.takeKeepalive
  dsimp only
  split <;> rfl

theorem takeKeepalive_steady (s : State) (r : RadioIx) (alert : Bool) : Steady s (s.takeKeepalive r alert) := by
  have h : Steady s ((s.setLink r { s.links[r] with keepaliveSeen := true, alertSeen := alert }).count (.link r .keepalivesReceived)) :=
    (setLink_keeps ⟨by rfl, by rfl⟩).trans (count_steady _ _)
  unfold State.takeKeepalive
  exact .ite (fun _ => (h.trans (note_steady _ _)).trans (count_steady _ _)) fun _ => h

theorem takeKeepalive_counter (s : State) (r : RadioIx) (alert : Bool) {c : Counter} (h : c ≠ .link r .headAlerts) :
    (s.takeKeepalive r alert).counter c = (s.count (.link r .keepalivesReceived)).counter c := by
  unfold State.takeKeepalive
  dsimp only
  split
  · rw [count_other _ h]
    exact (counter_congr (State.note_counters _ _) c).trans rfl
  · rfl

theorem takeKeepalive_alerts {s : State} {r : RadioIx} (h : s.links[r].alertSeen = false) :
    Noticed (s.takeKeepalive r true) .headAlert ∧ Counted s (s.takeKeepalive r true) (.link r .headAlerts) 1 := by
  unfold State.takeKeepalive
  dsimp only
  rw [h]
  refine ⟨(count_steady _ _).noticed (note_noticed _ _), ?_⟩
  refine (count_counter _ _ _).trans ?_
  rw [if_pos rfl, counter_congr (State.note_counters _ _), count_other _ (by simp)]
  rfl

theorem takeKeepalive_quiet {s : State} {r : RadioIx} {alert : Bool} (h : s.links[r].alertSeen = true ∨ alert = false) :
    (s.takeKeepalive r alert).notices = s.notices := by
  unfold State.takeKeepalive
  dsimp only
  have hn : ¬ (alert && !s.links[r].alertSeen) = true := by
    rcases h with h | h
    · rw [h, Bool.not_true, Bool.and_false]
      exact Bool.false_ne_true
    · rw [h, Bool.false_and]
      exact Bool.false_ne_true
  rw [if_neg hn]
  rfl

/-- A KEEPALIVE on a link with carrier (R26). -/
def State.kept (s : State) (r : RadioIx) (q : Byte) (alert : Bool) : State :=
  ((s.checkSequence r q).count (.link r .messagesReceived)).takeKeepalive r alert

theorem keepalive_kept {s : State} {r : RadioIx} (hr : s.inReset = false) (h : s.links[r].state ≠ .absent) (q f : Byte) :
    exec (.keepalive r q f) s = .next ((s.kept r q (f.getLsbD 0)).settle s.notices) := by
  dsimp only [exec, execKeepalive]
  rw [event_next _ hr, if_neg h]
  rfl

section kept
variable (s : State) (r : RadioIx) (q : Byte) (alert : Bool)

theorem kept_link : ((s.checkSequence r q).count (.link r .messagesReceived)).links[r] = { s.links[r] with rxSequence := q + 1 } := by
  have h : ((s.checkSequence r q).count (.link r .messagesReceived)).links = s.links.set r { s.links[r] with rxSequence := q + 1 } :=
    (State.count_links _ _).trans (checkSequence_links s r q)
  rw [show ((s.checkSequence r q).count (.link r .messagesReceived)).links[r] = (s.links.set r _)[r] from
    congrArg (fun v : Vector SeatLink 64 => v[r]) h, set_link_same]

theorem kept_links : (s.kept r q alert).links =
    s.links.set r { s.links[r] with rxSequence := q + 1, keepaliveSeen := true, alertSeen := alert } := by
  rw [State.kept, takeKeepalive_links, kept_link, State.count_links, checkSequence_links]
  refine Vector.ext fun i hi => ?_
  simp only [Fin.getElem_fin, Vector.getElem_set]
  split <;> rfl

theorem kept_counts : Counted s (s.kept r q alert) (.link r .keepalivesReceived) 1 ∧
    Counted s (s.kept r q alert) (.link r .messagesReceived) 1 := by
  refine ⟨?_, ?_⟩
  · rw [Counted, State.kept, takeKeepalive_counter _ _ _ (by simp), count_counter, if_pos rfl, count_other _ (by simp),
      checkSequence_counter _ _ _ (by simp)]
  · rw [Counted, State.kept, takeKeepalive_counter _ _ _ (by simp), count_other _ (by simp), count_counter, if_pos rfl,
      checkSequence_counter _ _ _ (by simp)]

variable {s r q}

theorem kept_gap (h : s.links[r].rxSequence ≠ q) :
    Noticed (s.kept r q alert) .sequenceGap ∧ Counted s (s.kept r q alert) (.link r .sequenceGaps) 1 := by
  obtain ⟨h1, h2⟩ := checkSequence_gapNoticed h
  refine ⟨((count_steady _ _).trans (takeKeepalive_steady _ _ _)).noticed h1, ?_⟩
  rw [Counted, State.kept, takeKeepalive_counter _ _ _ (by simp), count_other _ (by simp), count_other _ (by simp), h2]

theorem kept_alerts (h : s.links[r].alertSeen = false) :
    Noticed (s.kept r q true) .headAlert ∧ Counted s (s.kept r q true) (.link r .headAlerts) 1 := by
  obtain ⟨h1, h2⟩ := takeKeepalive_alerts (s := (s.checkSequence r q).count (.link r .messagesReceived)) (r := r) (by rw [kept_link, h])
  refine ⟨h1, ?_⟩
  rw [Counted, State.kept, h2, count_other _ (by simp), checkSequence_counter _ _ _ (by simp)]

theorem kept_quiet (hq : s.links[r].rxSequence = q) {alert : Bool} (h : s.links[r].alertSeen = true ∨ alert = false) :
    (s.kept r q alert).notices = s.notices := by
  rw [State.kept, takeKeepalive_quiet (by rw [kept_link]; exact h), State.count_notices, checkSequence_expected hq]
  rfl

end kept

/-! ### Forcing in strict mode (R37) -/

/-- A station after a strict radio has forced the handoffs that await RELEASED from it. -/
def Station.forcedFrom (s : State) (o : RadioIx) (st : Station) : Station :=
  match st.place with
  | .handoff c n _ _ _ => if c = o ∧ n ≠ o then st.completedTo s o n else st
  | _ => st

theorem awaits_iff {st : Station} {o : RadioIx} : st.awaitsReleasedFrom o = true ↔
    ∃ n d p held, st.place = .handoff o n d p held ∧ n ≠ o := by
  unfold Station.awaitsReleasedFrom
  split
  next c n d p held h =>
    simp only [Bool.and_eq_true, beq_iff_eq, bne_iff_ne]
    refine ⟨fun ⟨h1, h2⟩ => ⟨n, d, p, held, h1 ▸ h, h2⟩, fun ⟨n', d', p', held', h', hn⟩ => ?_⟩
    rw [h] at h'
    cases h'
    exact ⟨rfl, hn⟩
  next h =>
    exact ⟨fun hf => absurd hf Bool.false_ne_true, fun ⟨n, d, p, held, h', _⟩ => (h _ _ _ _ _ h').elim⟩

section one
variable {s : State} {o : RadioIx} {st : Station}

theorem forcedFrom_handoff {n : RadioIx} {d : Word} {p : Option Prior} {held : List FanFrame} (h : st.place = .handoff o n d p held)
    (hn : n ≠ o) : st.forcedFrom s o = st.completedTo s o n := by
  unfold Station.forcedFrom
  rw [h]
  exact if_pos ⟨rfl, hn⟩

theorem forcedFrom_other (h : st.awaitsReleasedFrom o = false) : st.forcedFrom s o = st := by
  unfold Station.forcedFrom
  split
  next c n d p held hp =>
    refine if_neg fun ⟨hc, hn⟩ => ?_
    rw [awaits_iff.mpr ⟨n, d, p, held, hc ▸ hp, hn⟩] at h
    cases h
  · rfl

theorem strictForce_awaiting {ix : Nat} (hf : s.stations.find ix = some st) {n : RadioIx} {d : Word} {p : Option Prior}
    {held : List FanFrame} (h : st.place = .handoff o n d p held) (hn : n ≠ o) :
    State.strictForce o s ix = s.force ix st o n held true := by
  unfold State.strictForce
  rw [hf]
  dsimp only
  rw [h]
  exact if_pos ⟨rfl, hn⟩

theorem strictForce_absent {ix : Nat} (hf : s.stations.find ix = none) : State.strictForce o s ix = s := by
  unfold State.strictForce
  rw [hf]

theorem strictForce_other {ix : Nat} (hf : s.stations.find ix = some st) (h : st.awaitsReleasedFrom o = false) :
    State.strictForce o s ix = s := by
  unfold State.strictForce
  rw [hf]
  dsimp only
  split
  next c n d p held hp =>
    refine if_neg fun ⟨hc, hn⟩ => ?_
    rw [awaits_iff.mpr ⟨n, d, p, held, hc ▸ hp, hn⟩] at h
    cases h
  · rfl

end one

theorem forcedFrom_congr {s t : State} (h : ChangesOnly (.draws :: exitFields) s t) (o : RadioIx) (st : Station) :
    st.forcedFrom t o = st.forcedFrom s o := by
  unfold Station.forcedFrom
  split
  · rw [completedTo_congr (h .channels (by decide)) (h .settings (by decide)) (h .sectorTime (by decide))]
  · rfl

/-- The station of an index awaits RELEASED from radio o. -/
def State.awaiting (s : State) (o : RadioIx) (ix : Nat) : Bool := (s.stations.find ix).any (Station.awaitsReleasedFrom o)

/-- What forcing the handoffs of a list of stations leaves (R37). -/
structure Forces (o : RadioIx) (l : List Nat) (s t : State) : Prop where
  frame : ChangesOnly exitFields s t
  steady : Steady s t
  wf : s.stations.wf = true → t.stations.wf = true
  found : ∀ j, t.stations.find j = if j ∈ l then (s.stations.find j).map (Station.forcedFrom s o) else s.stations.find j
  count : t.stationCount[o] = s.stationCount[o] - l.countP (s.awaiting o)
  forced : Counted s t (.station .forcedCompletions) (l.countP (s.awaiting o))
  completed : Counted s t (.station .handoffsCompleted) (l.countP (s.awaiting o))
  crc : t.counter (.link o .crcErrors) = s.counter (.link o .crcErrors)
  noticed : ∀ ix ∈ l, s.awaiting o ix = true → Noticed t .handoffForced
  idle : l = [] → t.links = s.links
  link : s.links[o].state = .up → s.links[o].arm = none →
    t.links[o] = { s.links[o] with txSequence := s.links[o].txSequence + BitVec.ofNat 8 (l.countP (s.awaiting o)) }
  shown : s.links[o].state = .up → s.links[o].arm = none → ∀ ix ∈ l, ∀ st, s.stations.find ix = some st →
    st.awaitsReleasedFrom o = true → ∃ k, Shown s t (.control o (ControlOut.bytes (.drop ix st.device) k))

theorem Counted.trans {s t u : State} {c : Counter} {a b : Nat} (h : Counted s t c a) (k : Counted t u c b) : Counted s u c (a + b) := by
  unfold Counted at *
  rw [k, h]
  omega

section step
variable {o : RadioIx} {ix : Nat} {l : List Nat} {s t : State}

theorem awaiting_found {st : Station} (h : s.stations.find ix = some st) : s.awaiting o ix = st.awaitsReleasedFrom o := by
  rw [State.awaiting, h]
  rfl

/-- A station that does not await RELEASED from the radio is passed over. -/
theorem Forces.skip (h : Forces o l s t) (hs : s.awaiting o ix = false) : Forces o (ix :: l) s t where
  frame := h.frame
  steady := h.steady
  wf := h.wf
  found j := by
    rw [h.found]
    by_cases hj : j = ix
    · subst hj
      rw [if_pos List.mem_cons_self]
      have hself : (s.stations.find j).map (Station.forcedFrom s o) = s.stations.find j := by
        rcases hf : s.stations.find j with _ | st
        · rfl
        · rw [Option.map_some, forcedFrom_other ((awaiting_found hf).symm.trans hs)]
      rw [hself, ite_self]
    · exact if_congr (by simp [hj]) rfl rfl
  count := by rw [h.count, List.countP_cons_of_neg (by simp [hs])]
  forced := by rw [List.countP_cons_of_neg (by simp [hs])]; exact h.forced
  completed := by rw [List.countP_cons_of_neg (by simp [hs])]; exact h.completed
  crc := h.crc
  noticed j hj ha := by
    rcases List.mem_cons.mp hj with rfl | hj
    · rw [hs] at ha
      cases ha
    · exact h.noticed j hj ha
  idle hl := absurd hl (List.cons_ne_nil _ _)
  link hu ha := by rw [h.link hu ha, List.countP_cons_of_neg (by simp [hs])]
  shown hu ha j hj st hf hst := by
    rcases List.mem_cons.mp hj with rfl | hj
    · rw [awaiting_found hf, hst] at hs
      cases hs
    · exact h.shown hu ha j hj st hf hst

theorem forced_link {st : Station} {n : RadioIx} {held : List FanFrame} (hn : n ≠ o) (hu : s.links[o].state = .up)
    (ha : s.links[o].arm = none) :
    (s.force ix st o n held true).links[o] = { s.links[o] with txSequence := s.links[o].txSequence + 1 } := by
  rw [force_eq, link_congr (State.note_links _ _), link_congr (State.count_links _ _), complete_link_other _ _ _ _ (Ne.symm hn)]
  show (s.send o (.drop ix st.device)).links[o] = _
  rw [send_up _ hu ha, link_congr (State.count_links _ _)]
  exact set_link_same _ _ _

/-- A station that awaits RELEASED from the radio is forced, and then the others. -/
theorem Forces.cons {st : Station} {n : RadioIx} {d : Word} {p : Option Prior} {held : List FanFrame}
    (hf : s.stations.find ix = some st) (hp : st.place = .handoff o n d p held) (hn : n ≠ o) (hix : ix ∉ l)
    (h : Forces o l (s.force ix st o n held true) t) : Forces o (ix :: l) s t := by
  have hframe := force_frame s ix st o n held true
  have hsteady := force_steady s ix st o n held true
  have hstations := force_stations s ix st o n held true
  have hcount := force_stationCount s ix st o n held true
  obtain ⟨hc1, hc2⟩ := force_counts s ix st o n held true
  have hcrc : (s.force ix st o n held true).counter (.link o .crcErrors) = s.counter (.link o .crcErrors) :=
    force_other _ rfl (by simp) _ _ _ _ _ _
  have hnoted := force_noticed s ix st o n held true
  have hlink := forced_link (ix := ix) (st := st) (held := held) (s := s) hn
  have hwire : (s.send o (.drop ix st.device)).wire <+: (s.force ix st o n held true).wire := by
    rw [force_eq, State.note_wire, State.count_wire]
    exact (complete_steady _ ix st o n held).wire
  generalize s.force ix st o n held true = u at *
  have hother (j : Nat) (hj : j ≠ ix) : u.stations.find j = s.stations.find j := by rw [hstations, Table.find_put, if_neg hj]
  have hst : st.awaitsReleasedFrom o = true := awaits_iff.mpr ⟨n, d, p, held, hp, hn⟩
  have hself : s.awaiting o ix = true := (awaiting_found hf).trans hst
  have hsame (j : Nat) (hj : j ∈ l) : u.awaiting o j = s.awaiting o j := by
    rw [State.awaiting, State.awaiting, hother j fun he => hix (he ▸ hj)]
  have hk : (ix :: l).countP (s.awaiting o) = l.countP (u.awaiting o) + 1 := by
    rw [List.countP_cons_of_pos hself, List.countP_congr (p := u.awaiting o) fun j hj => by rw [hsame j hj]]
  rw [← Nat.add_comm 1] at hk
  refine ⟨hframe.trans h.frame, hsteady.trans h.steady, fun hw => h.wf (hstations ▸ Table.wf_put _ _ hw), fun j => ?_, ?_,
    hk ▸ hc1.trans h.forced, hk ▸ hc2.trans h.completed, h.crc.trans hcrc, fun j hj ha => ?_,
    fun hl => absurd hl (List.cons_ne_nil _ _), fun hu ha => ?_, fun hu ha j hj x hx hxa => ?_⟩
  · rw [h.found]
    have hc : Station.forcedFrom u o = Station.forcedFrom s o :=
      funext fun st => forcedFrom_congr (hframe.mono (by decide)) o st
    rw [hc]
    by_cases hj : j = ix
    · subst hj
      rw [if_neg hix, if_pos List.mem_cons_self, hstations, Table.find_put, if_pos rfl, hf, Option.map_some, forcedFrom_handoff hp hn]
    · rw [hother j hj]
      exact if_congr (by simp [hj]) rfl rfl
  · rw [h.count, hk]
    simp only [hcount, vector_set_get, if_pos]
    omega
  · rcases List.mem_cons.mp hj with rfl | hj
    · exact h.steady.noticed hnoted
    · exact h.noticed j hj ((hsame j hj).trans ha)
  · have hl := hlink hu ha
    rw [h.link (by rw [hl]; exact hu) (by rw [hl]; exact ha), hl, hk]
    refine congrArg (fun q => { s.links[o] with txSequence := q }) ?_
    rw [BitVec.ofNat_add, BitVec.add_assoc]
    rfl
  · have hl := hlink hu ha
    rcases List.mem_cons.mp hj with rfl | hj
    · rw [hf] at hx
      cases hx
      exact ⟨_, shown_send (.drop j st.device) rfl hu ha (hwire.trans h.steady.wire)⟩
    · obtain ⟨k, before, after, hw⟩ := h.shown (by rw [hl]; exact hu) (by rw [hl]; exact ha) j hj x
        ((hother j fun he => hix (he ▸ hj)).trans hx) hxa
      obtain ⟨w, hw'⟩ := hsteady.wire
      exact ⟨k, w ++ before, after, by rw [hw, ← hw']; simp⟩

end step

theorem Forces.refl (o : RadioIx) (s : State) (h1 : s.counter (.station .forcedCompletions) ≤ Config.counterMax)
    (h2 : s.counter (.station .handoffsCompleted) ≤ Config.counterMax) : Forces o [] s s where
  frame := .refl _ _
  steady := .refl _
  wf := id
  found _ := rfl
  count := rfl
  forced := (Nat.min_eq_left h1).symm
  completed := (Nat.min_eq_left h2).symm
  crc := rfl
  noticed _ hm := absurd hm List.not_mem_nil
  idle _ := rfl
  link _ _ := by simp
  shown _ _ _ hm := absurd hm List.not_mem_nil

/-- Forcing the handoffs of a list of stations, each once, as `Forces` has it. -/
theorem forces_foldl (o : RadioIx) (l : List Nat) (hn : l.Nodup) (s : State)
    (h1 : s.counter (.station .forcedCompletions) ≤ Config.counterMax)
    (h2 : s.counter (.station .handoffsCompleted) ≤ Config.counterMax) : Forces o l s (l.foldl (State.strictForce o) s) := by
  induction l generalizing s with
  | nil => exact .refl o s h1 h2
  | cons ix l ih =>
    rw [List.nodup_cons] at hn
    rw [List.foldl_cons]
    rcases hf : s.stations.find ix with _ | st
    · rw [strictForce_absent hf]
      exact (ih hn.2 s h1 h2).skip (by rw [State.awaiting, hf]; rfl)
    · rcases hst : st.awaitsReleasedFrom o with _ | _
      · rw [strictForce_other hf hst]
        exact (ih hn.2 s h1 h2).skip ((awaiting_found hf).trans hst)
      · obtain ⟨n, d, p, held, hp, hne⟩ := awaits_iff.mp hst
        obtain ⟨hc1, hc2⟩ := force_counts s ix st o n held true
        rw [strictForce_awaiting hf hp hne]
        exact .cons hf hp hne hn.1 (ih hn.2 _ (hc1 ▸ Nat.min_le_right _ _) (hc2 ▸ Nat.min_le_right _ _))

/-! ### The stations on a radio, in a free order (log entry 9) -/

theorem freeOrder_perm (d : Nat) (l : List Nat) : (freeOrder d l).Perm l := List.perm_insertionSort _ l

theorem stationsOn_nodup {s : State} (hw : s.stations.wf = true) (r : RadioIx) : (s.stationsOn r).Nodup :=
  (List.filter_sublist.map Prod.fst).nodup (keys_nodup hw)

theorem mem_stationsOn {s : State} (hw : s.stations.wf = true) (r : RadioIx) (ix : Nat) :
    ix ∈ s.stationsOn r ↔ ∃ st, s.stations.find ix = some st ∧ st.isOn r = true := by
  rw [State.stationsOn, List.mem_map]
  refine ⟨fun ⟨e, he, hix⟩ => ?_, fun ⟨st, hf, hon⟩ => ?_⟩
  · rw [List.mem_filter] at he
    exact ⟨e.2, hix ▸ Table.find_of_mem hw he.1, he.2⟩
  · exact ⟨(ix, st), List.mem_filter.mpr ⟨Table.mem_of_find hf, hon⟩, rfl⟩

theorem isOn_of_awaits {st : Station} {r : RadioIx} (h : st.awaitsReleasedFrom r = true) : st.isOn r = true := by
  obtain ⟨n, d, p, held, hp, -⟩ := awaits_iff.mp h
  unfold Station.isOn
  rw [hp]
  simp

theorem countP_awaiting {s : State} (hw : s.stations.wf = true) (r : RadioIx) :
    (s.stationsOn r).countP (s.awaiting r) = (s.stations.filter fun e => e.2.awaitsReleasedFrom r).length := by
  rw [State.stationsOn, List.countP_map, List.countP_filter, List.countP_eq_length_filter]
  congr 1
  refine List.filter_congr fun e he => ?_
  rw [Function.comp_apply, awaiting_found (Table.find_of_mem hw he)]
  rcases ha : e.2.awaitsReleasedFrom r with _ | _
  · rfl
  · rw [isOn_of_awaits ha]
    rfl

theorem counter_le_max {s : State} (h : s.CountersInRange) (c : Counter) : s.counter c ≤ Config.counterMax := by
  show ((s.counters.find _).getD 0) ≤ _
  rcases hf : s.counters.find c.key with _ | v
  · exact Nat.zero_le _
  · exact (h _ (Table.mem_of_find hf)).2

/-! ### Corrupt messages (R32, R37) -/

section corrupt
variable {r : RadioIx} {bytes : List Byte} {s : State} (hr : s.inReset = false) (hl : s.links[r].state ≠ .absent)
  (hcrc : crcFails bytes = true)
include hr hl hcrc

/-- The state that a message with a wrong CRC leaves, before a strict radio forces anything (R32). -/
theorem corrupt_lax (h : s.links[r].profile.strict = false) : exec (.corruptControlMessage r bytes) s =
    .next (((s.count (.link r .crcErrors)).note .crcError).settle s.notices) := by
  dsimp only [exec, execCorruptControlMessage]
  rw [event_next _ hr, if_neg (not_or.mpr ⟨hl, by simp [hcrc]⟩), h]
  rfl

theorem corrupt_strict (h : s.links[r].profile.strict = true) : exec (.corruptControlMessage r bytes) s =
    .next ((((s.count (.link r .crcErrors)).note .crcError).strictForceAll r).settle s.notices) := by
  dsimp only [exec, execCorruptControlMessage]
  rw [event_next _ hr, if_neg (not_or.mpr ⟨hl, by simp [hcrc]⟩), h]
  rfl

end corrupt

/-- The state in which a strict radio forces handoffs: the wrong CRC counted and noticed, an order drawn (R37). -/
def State.crcError (s : State) (r : RadioIx) : State :=
  { (s.count (.link r .crcErrors)).note .crcError with draws := s.draws + 1 }

theorem crcError_frame (s : State) (r : RadioIx) : ChangesOnly [.counters, .notices, .draws] s (s.crcError r) :=
  (((count_frame s _).le (gs := [.counters, .notices, .draws])).step (note_frame _ _)).step (fs := [.draws])
    (by rintro (_ | _) h <;> first | rfl | simp at h)

theorem crcError_counter (s : State) (r : RadioIx) {c : Counter} (h : c ≠ .link r .crcErrors) : (s.crcError r).counter c = s.counter c :=
  (counter_congr (State.note_counters _ .crcError) c).trans (count_other s h)

theorem crcError_counted (s : State) (r : RadioIx) : Counted s (s.crcError r) (.link r .crcErrors) 1 :=
  (counter_congr (State.note_counters _ .crcError) _).trans ((count_counter _ _ _).trans (if_pos rfl))

/-- A strict radio forces every handoff that awaits RELEASED from it (R37). -/
theorem strict_forces {s : State} (hw : s.stations.wf = true) (hc : s.CountersInRange) (r : RadioIx) :
    ∃ l : List Nat, l.Perm (s.stationsOn r) ∧
      Forces r l (s.crcError r) (((s.count (.link r .crcErrors)).note .crcError).strictForceAll r) := by
  have hperm := freeOrder_perm s.draws (s.stationsOn r)
  have hforces := forces_foldl r _ (hperm.nodup_iff.mpr (stationsOn_nodup hw r)) (s.crcError r)
    (by rw [crcError_counter _ _ (by simp)]; exact counter_le_max hc _) (by rw [crcError_counter _ _ (by simp)]; exact counter_le_max hc _)
  exact ⟨_, hperm, hforces⟩

/-- What a message with a wrong CRC leaves on a strict radio (R37), in terms of the state it arrives in. -/
structure StrictlyForced (r : RadioIx) (l : List Nat) (s t : State) : Prop where
  wf : t.stations.wf = true
  found : ∀ j, t.stations.find j = (s.stations.find j).map (Station.forcedFrom s r)
  count : t.stationCount[r] = s.stationCount[r] - l.countP (s.awaiting r)
  forced : Counted s t (.station .forcedCompletions) (l.countP (s.awaiting r))
  completed : Counted s t (.station .handoffsCompleted) (l.countP (s.awaiting r))
  crc : Counted s t (.link r .crcErrors) 1
  error : Noticed t .crcError
  noticed : ∀ ix ∈ l, s.awaiting r ix = true → Noticed t .handoffForced
  link : s.links[r].arm = none → t.links[r].txSequence = s.links[r].txSequence + BitVec.ofNat 8 (l.countP (s.awaiting r))
  shown : s.links[r].arm = none → ∀ ix ∈ l, ∀ st, s.stations.find ix = some st →
    st.awaitsReleasedFrom r = true → ∃ k, Shown s t (.control r (ControlOut.bytes (.drop ix st.device) k))

/-- On a link that is not UP there is no station, and so nothing to force (R20). -/
theorem stationsOn_down {s : State} (h : s.LinksSound) {r : RadioIx} (hd : s.links[r].state ≠ .up) : s.stationsOn r = [] := by
  rw [State.stationsOn, List.map_eq_nil_iff, List.filter_eq_nil_iff]
  exact fun e he hon => hd (h.2 e he r hon)

theorem strictlyForced {s : State} (hinv : s.Inv) (r : RadioIx) : ∃ l : List Nat, l.Perm (s.stationsOn r) ∧
    StrictlyForced r l s (((s.count (.link r .crcErrors)).note .crcError).strictForceAll r) := by
  have hw := hinv.canonical.1
  obtain ⟨l, hperm, h⟩ := strict_forces hw hinv.counters r
  refine ⟨l, hperm, ?_⟩
  have hf := crcError_frame s r
  have hst : (s.crcError r).stations = s.stations := hf .stations (by decide)
  have hlinks : (s.crcError r).links = s.links := hf .links (by decide)
  have hcount : (s.crcError r).stationCount = s.stationCount := hf .stationCount (by decide)
  have hwire : (s.crcError r).wire = s.wire := hf .wire (by decide)
  have hother := crcError_counter s r (c := .station .forcedCompletions) (by simp)
  have hother' := crcError_counter s r (c := .station .handoffsCompleted) (by simp)
  have hcrc := crcError_counted s r
  have hnoted : Noticed (s.crcError r) .crcError := note_noticed _ _
  have hforced (st : Station) : st.forcedFrom (s.crcError r) r = st.forcedFrom s r := by
    unfold Station.forcedFrom
    split
    · rw [completedTo_congr (hf .channels (by decide)) (hf .settings (by decide)) (hf .sectorTime (by decide))]
    · rfl
  have hawait : (s.crcError r).awaiting r = s.awaiting r := funext fun j => by rw [State.awaiting, State.awaiting, hst]
  generalize s.crcError r = v at *
  generalize ((s.count (.link r .crcErrors)).note .crcError).strictForceAll r = t at *
  have hup : l ≠ [] → s.links[r].state = .up := fun hne => by
    by_contra hd
    exact hne (List.perm_nil.mp (stationsOn_down hinv.links hd ▸ hperm))
  refine ⟨h.wf (hst ▸ hw), fun j => ?_, ?_, ?_, ?_, ?_, h.steady.noticed hnoted, fun ix hix ha => ?_, fun ha => ?_,
    fun ha ix hix st hst' hsa => ?_⟩
  · rw [h.found, hst, funext hforced]
    split
    · rfl
    next hj =>
      rcases hfind : s.stations.find j with _ | st
      · rfl
      · have haw : st.awaitsReleasedFrom r = false := by
          by_contra ha
          rw [Bool.not_eq_false] at ha
          exact hj (hperm.mem_iff.mpr ((mem_stationsOn hw r j).mpr ⟨st, hfind, isOn_of_awaits ha⟩))
        rw [Option.map_some, forcedFrom_other haw]
  · rw [h.count, hawait]
    simp only [hcount]
  · rw [Counted, h.forced, hawait, hother]
  · rw [Counted, h.completed, hawait, hother']
  · rw [Counted, h.crc, hcrc]
  · exact h.noticed ix hix (hawait ▸ ha)
  · by_cases hl : l = []
    · rw [link_congr (h.idle hl), link_congr hlinks, hl]
      simp
    · have hu := hup hl
      have hlink := link_congr hlinks r
      rw [h.link (by rw [hlink]; exact hu) (by rw [hlink]; exact ha), hlink, hawait]
  · have hu := hup (List.ne_nil_of_mem hix)
    obtain ⟨k, before, after, hk⟩ := h.shown (by rw [link_congr hlinks]; exact hu) (by rw [link_congr hlinks]; exact ha) ix hix st
        (hst ▸ hst') hsa
    exact ⟨k, before, after, by rw [hk, hwire]⟩

/-- Settles O22: a KEEPALIVE, a corrupt message in a lax radio and in a strict one, and a malformed message. -/
theorem keepalivesAndBadMessages : Obligations.KeepalivesAndBadMessages := by
  refine ⟨⟨fun r q f s hr hl => ?_, fun r bytes s hr hl hcrc hstrict => ?_, fun r bytes s hr hl hcrc hshape => ?_⟩,
    fun r bytes s hinv hr hl hcrc hstrict forced hforced => ?_⟩
  · obtain ⟨h1, h2⟩ := kept_counts s r q (f.getLsbD 0)
    refine ⟨_, keepalive_kept hr hl q f, ?_, ?_, ?_, fun hq => ?_, fun ha hf => ?_, fun hq ha => ?_⟩
    · rw [settle_links, kept_links]
    · rw [Counted, settle_counter _ (by simp), h1]
    · rw [Counted, settle_counter _ (by simp), h2]
    · obtain ⟨h3, h4⟩ := kept_gap (f.getLsbD 0) hq
      exact ⟨settle_noticed h3, by rw [Counted, settle_counter _ (by simp), h4]⟩
    · rw [hf]
      obtain ⟨h3, h4⟩ := kept_alerts (q := q) ha
      exact ⟨settle_noticed h3, by rw [Counted, settle_counter _ (by simp), h4]⟩
    · rw [settle_same (kept_quiet hq ha), kept_quiet hq ha]
  · refine ⟨_, corrupt_lax hr hl hcrc hstrict, ?_, settle_noticed (note_noticed _ _), ?_⟩
    · exact (((count_frame s _).le (gs := noticeFields)).step (note_frame _ _)).step (settle_frame _ _)
    · rw [Counted, settle_counter _ (by simp), counter_congr (State.note_counters _ _), count_counter, if_pos rfl]
  · have hexec : exec (.malformedControlMessage r bytes) s =
        .next (((s.checkSequence r (bytes.getD 1 0#8)).count (.link r .malformedMessages)).settle s.notices) := by
      dsimp only [exec, execMalformedControlMessage]
      rw [event_next _ hr, if_neg (by rw [hcrc, hshape]; simp only [Bool.false_eq_true, Bool.true_eq_false, or_false]; exact hl)]
    refine ⟨_, hexec, ?_, ?_, fun hq => ?_⟩
    · rw [settle_links, State.count_links, checkSequence_links]
    · rw [Counted, settle_counter _ (by simp), count_counter, if_pos rfl, checkSequence_counter _ _ _ (by simp)]
    · obtain ⟨h1, h2⟩ := checkSequence_gapNoticed hq
      refine ⟨settle_noticed ((count_steady _ _).noticed h1), ?_⟩
      rw [Counted, settle_counter _ (by simp), count_other _ (by simp), h2]
  · have hw := hinv.canonical.1
    obtain ⟨l, hperm, h⟩ := strictlyForced hinv r
    have hlen : l.countP (s.awaiting r) = forced.length := by
      rw [hperm.countP_eq, countP_awaiting hw, hforced]
    have hfind (e : Nat × Station) (he : e ∈ s.stations) := Table.find_of_mem hw he
    have hmem {e : Nat × Station} {n : RadioIx} {d : Word} {p : Option Prior} {held : List FanFrame}
        (hp : e.2.place = .handoff r n d p held) (hn : n ≠ r) (he : e ∈ s.stations) : e.1 ∈ l :=
      hperm.mem_iff.mpr ((mem_stationsOn hw r e.1).mpr ⟨e.2, hfind e he, isOn_of_awaits (awaits_iff.mpr ⟨n, d, p, held, hp, hn⟩)⟩)
    refine ⟨_, corrupt_strict hr hl hcrc hstrict, fun e he n d p held hp => ?_, fun e he hno => ?_, fun e he n d p held hp hn =>
      ⟨?_, ?_, fun ha => ?_⟩, ?_, fun ha => ?_, ?_, ?_, ?_, settle_noticed h.error⟩
    · rw [settle_stations] at he
      have hfe := Table.find_of_mem h.wf he
      rw [h.found, Option.map_eq_some_iff] at hfe
      obtain ⟨st, -, hst⟩ := hfe
      rcases haw : st.awaitsReleasedFrom r with _ | _
      · rw [forcedFrom_other haw] at hst
        by_contra hn
        rw [awaits_iff.mpr ⟨n, d, p, held, hst ▸ hp, hn⟩] at haw
        cases haw
      · obtain ⟨n', d', p', held', hp', hn'⟩ := awaits_iff.mp haw
        rw [forcedFrom_handoff hp' hn'] at hst
        rw [← hst] at hp
        cases hp
    · rw [settle_stations, h.found, hfind e he, Option.map_some, forcedFrom_other]
      by_contra ha
      rw [Bool.not_eq_false] at ha
      obtain ⟨n, d, p, held, hp, hn⟩ := awaits_iff.mp ha
      exact hn (hno n d p held hp)
    · rw [settle_stations, h.found, hfind e he, Option.map_some, forcedFrom_handoff hp hn]
      rfl
    · exact settle_noticed (h.noticed e.1 (hmem hp hn he) ((awaiting_found (hfind e he)).trans (awaits_iff.mpr ⟨n, d, p, held, hp, hn⟩)))
    · obtain ⟨k, hk⟩ := h.shown ha e.1 (hmem hp hn he) e.2 (hfind e he) (awaits_iff.mpr ⟨n, d, p, held, hp, hn⟩)
      exact ⟨k, hk.lasting (settle_lasting _ _)⟩
    · simp only [settle_stationCount]
      rw [h.count, hlen]
    · rw [link_congr (settle_links _ _), h.link ha, hlen]
    · rw [Counted, settle_counter _ (by simp), h.forced, hlen]
    · rw [Counted, settle_counter _ (by simp), h.completed, hlen]
    · rw [Counted, settle_counter _ (by simp), h.crc]

end Sys2Proof.Machine
end

section
/-! PROOFS. The laws about stations as one invariant, in terms of what the tables read: what an edit of one station keeps of it. -/

namespace Sys2Proof.Machine

/- The whole text is elaborated in one process: its proofs in turn, so that their threads' stacks stay within its memory. -/
set_option Elab.async false

/-! ### The invariant -/

/-- A station by itself is as R115, R64 and R92 have it: its entries are few, distinct and permitted, its hold queue is within its depth,
and without a binding it is a GUEST. -/
structure Station.Lawful (channels : Vector Channel 16) (st : Station) : Prop where
  few : st.subs.length ≤ Config.subscriptionLimit
  distinct : (st.subs.map Subscription.channel).Nodup
  permitted : ∀ c ∈ st.subs.map Subscription.channel, permitted channels st.binding c = true
  depth : st.held.length ≤ st.tier.holdDepth
  guest : st.binding = none → st.tier = .guest

/-- The laws about stations: the first, second, fifth, sixth and eighth (R3, R4, R115, R116, R64), the form of their tables, and the
soundness of the links. `up` are the radios whose link is UP; `down` is a radio whose link has left UP while stations are still on it, as
the exit of R29 has it on the way. -/
structure State.Upheld (up : RadioIx → Prop) (down : Option RadioIx) (s : State) : Prop where
  wf : s.stations.wf = true
  keys : ∀ ix st, s.stations.find ix = some st → ix < Config.stationContexts
  mapWf : s.addressMap.wf = true
  formed : s.GroupsFormed
  mapped : ∀ ix st, s.stations.find ix = some st → s.addressMap.find st.device.toNat = some ix
  named : ∀ a ix, s.addressMap.find a = some ix → ∃ st, s.stations.find ix = some st ∧ st.device.toNat = a
  count : ∀ r : RadioIx, s.stationCount[r] = Table.total (Station.load r) s.stations
  limit : ∀ r : RadioIx, s.stationCount[r] ≤ s.links[r].profile.stationLimit
  lawful : ∀ ix st, s.stations.find ix = some st → st.Lawful s.channels
  sound : s.GroupsSound
  membered : s.Membered
  pool : s.holdFree + s.heldFrames = Config.holdPool
  links : ∀ r : RadioIx, s.links[r].Sound
  homed : ∀ ix st, s.stations.find ix = some st → ∀ r : RadioIx, st.isOn r = true → up r ∨ down = some r
  ups : ∀ r : RadioIx, s.links[r].state = .up ↔ up r

theorem State.Inv.upheld {s : State} (h : s.Inv) : s.Upheld (fun r => s.links[r].state = .up) none where
  wf := h.canonical.1
  keys := (Table.forall_iff h.canonical.1 (P := fun ix _ => ix < _)).mp h.keys.1
  mapWf := h.canonical.2.1
  formed := ⟨h.canonical.2.2.2.2.2.1, h.keys.2.2.2⟩
  mapped := (Table.forall_iff h.canonical.1 (P := fun ix st => s.addressMap.find st.device.toNat = some ix)).mp h.addresses.1
  named a ix ha := (Table.forall_iff h.canonical.2.1 (P := fun a ix => ∃ st, s.stations.find ix = some st ∧ st.device.toNat = a)).mp
    h.addresses.2 a ix ha
  count r := (h.counts r).1.trans (stationsOn_length s r)
  limit r := (h.counts r).2
  lawful ix st hf := by
    obtain ⟨h1, h2, h3⟩ := h.subscriptions _ (Table.mem_of_find hf)
    refine ⟨h1, h2, fun c hc => ?_, h.holds.2 _ (Table.mem_of_find hf), fun hb => ?_⟩
    · obtain ⟨x, hx, rfl⟩ := List.mem_map.mp hc
      exact h3 x hx
    · have ht := (h.entitlements _ (Table.mem_of_find hf)).1
      unfold Station.TierLaw at ht
      dsimp only at ht
      rw [ht, hb]
  sound := groupLaw_sound h.groups
  membered := groupLaw_membered h.groups
  pool := h.holds.1
  links := h.links.1
  homed ix st hf r hon := .inl (h.links.2 _ (Table.mem_of_find hf) r hon)
  ups _ := Iff.rfl

section laws
variable {up : RadioIx → Prop} {s : State} (h : s.Upheld up none)
include h

theorem State.Upheld.addressLaw : s.AddressLaw :=
  ⟨(Table.forall_iff h.wf (P := fun ix st => s.addressMap.find st.device.toNat = some ix)).mpr h.mapped,
    (Table.forall_iff h.mapWf (P := fun a ix => ∃ st, s.stations.find ix = some st ∧ st.device.toNat = a)).mpr h.named⟩

theorem State.Upheld.countLaw : s.CountLaw := fun r => ⟨(h.count r).trans (stationsOn_length s r).symm, h.limit r⟩

theorem State.Upheld.subscriptionLaw : s.SubscriptionLaw := fun e he => by
  obtain ⟨h1, h2, h3, -, -⟩ := h.lawful e.1 e.2 (Table.find_of_mem h.wf he)
  exact ⟨h1, h2, fun x hx => h3 _ (List.mem_map_of_mem hx)⟩

theorem State.Upheld.groupLaw : s.GroupLaw := groupLaw_of h.wf h.sound h.membered

theorem State.Upheld.holdLaw : s.HoldLaw := ⟨h.pool, fun e he => (h.lawful e.1 e.2 (Table.find_of_mem h.wf he)).depth⟩

theorem State.Upheld.linksSound : s.LinksSound :=
  ⟨h.links, fun e he r hon =>
    (h.ups r).mpr ((h.homed e.1 e.2 (Table.find_of_mem h.wf he) r hon).resolve_right (Option.some_ne_none r).symm)⟩

end laws

/-! ### What the invariant reads -/

/-- The fields that the invariant reads. -/
def upheldFields : List Field := [.stations, .addressMap, .stationCount, .holdFree, .links, .channels, .groups]

/-- The invariant reads nothing else, and of the links only what they carry. -/
theorem State.Upheld.congr {up : RadioIx → Prop} {down : Option RadioIx} {s t : State} (h : s.Upheld up down)
    (hst : t.stations = s.stations)
    (hm : t.addressMap = s.addressMap) (hc : t.stationCount = s.stationCount) (hh : t.holdFree = s.holdFree)
    (hch : t.channels = s.channels) (hg : t.groups = s.groups) (hl : LinksCarry s t) : t.Upheld up down where
  wf := hst ▸ h.wf
  keys := hst ▸ h.keys
  mapWf := hm ▸ h.mapWf
  formed := h.formed.congr hg
  mapped := by rw [hst, hm]; exact h.mapped
  named := by rw [hst, hm]; exact h.named
  count r := by
    simp only [hc, hst]
    exact h.count r
  limit r := by
    simp only [hc, (hl r).profile]
    exact h.limit r
  lawful := by rw [hst, hch]; exact h.lawful
  sound := h.sound.congr hg
  membered r c ix := by
    rw [inGroup_congr (group_congr hg r c), hst]
    exact h.membered r c ix
  pool := by rw [State.heldFrames, hh, hst]; exact h.pool
  links r := (hl r).sound (h.links r)
  homed ix st hf r hon := h.homed ix st (hst ▸ hf) r hon
  ups r := hl.up.trans (h.ups r)

theorem State.Upheld.of_frame {up : RadioIx → Prop} {down : Option RadioIx} {s t : State} (h : s.Upheld up down) {fs : List Field}
    (hf : ChangesOnly fs s t)
    (hl : LinksCarry s t) (hd : ∀ f ∈ [Field.stations, .addressMap, .stationCount, .holdFree, .channels, .groups], f ∉ fs := by decide) :
    t.Upheld up down :=
  h.congr (hf .stations (hd _ (by decide))) (hf .addressMap (hd _ (by decide))) (hf .stationCount (hd _ (by decide)))
    (hf .holdFree (hd _ (by decide))) (hf .channels (hd _ (by decide))) (hf .groups (hd _ (by decide))) hl

/-! ### An edit of one station -/

/-- From `s` to `t` one station is replaced, with what goes with it: the counts, the hold pool, the groups. -/
structure Edits (s t : State) (ix : Nat) (st st' : Station) : Prop where
  stations : t.stations = s.stations.put ix st'
  device : st'.device = st.device
  addressMap : t.addressMap = s.addressMap
  channels : t.channels = s.channels
  counts : ∀ r : RadioIx, t.stationCount[r] = s.stationCount[r] - st.load r + st'.load r
  pool : t.holdFree + st'.held.length = s.holdFree + st.held.length
  links : LinksCarry s t
  formed : s.GroupsFormed → t.GroupsFormed
  groups : s.GroupsSound → s.Membered → t.GroupsSound ∧
    ∀ r c j, t.inGroup r c j ↔ if j = ix then st'.belongs r c = true else s.inGroup r c j

section edits
variable {up : RadioIx → Prop} {down : Option RadioIx} {s t : State} {ix : Nat} {st st' : Station} (h : s.Upheld up down)
    (hf : s.stations.find ix = some st)
  (e : Edits s t ix st st')
include h hf

theorem State.Upheld.load_le (r : RadioIx) : st.load r ≤ s.stationCount[r] := by
  have hw := Table.weight_le_total (Station.load r) h.wf ix
  rw [hf] at hw
  rw [h.count r]
  exact hw

include e

/-- An edit of one station keeps the invariant where the station is lawful after it, and every radio that it is newly on has room and
is UP. -/
theorem State.Upheld.edited (hl : st'.Lawful s.channels) (hr : ∀ r : RadioIx, st'.isOn r = true → st.isOn r = false →
    s.stationCount[r] < s.links[r].profile.stationLimit ∧ s.links[r].state = .up) : t.Upheld up down where
  wf := e.stations ▸ Table.wf_put _ _ h.wf
  keys j x hj := by
    rw [e.stations, Table.find_put] at hj
    split at hj
    next hji => exact hji ▸ h.keys ix st hf
    next => exact h.keys j x hj
  mapWf := e.addressMap ▸ h.mapWf
  formed := e.formed h.formed
  mapped j x hj := by
    rw [e.addressMap]
    rw [e.stations, Table.find_put] at hj
    split at hj
    next hji =>
      cases hj
      rw [e.device, hji]
      exact h.mapped ix st hf
    next => exact h.mapped j x hj
  named a j ha := by
    obtain ⟨x, hx, hxa⟩ := h.named a j (e.addressMap ▸ ha)
    rw [e.stations, Table.find_put]
    split
    next hji =>
      rw [hji, hf] at hx
      cases hx
      exact ⟨st', rfl, e.device ▸ hxa⟩
    next => exact ⟨x, hx, hxa⟩
  count r := by
    have ht := Table.total_put (Station.load r) h.wf ix st'
    have hle := h.load_le hf r
    rw [hf] at ht
    rw [e.counts, e.stations]
    rw [h.count r] at hle ⊢
    simp only [Table.weight] at ht
    omega
  limit r := by
    have hle := h.load_le hf r
    have hlim := h.limit r
    rw [e.counts, (e.links r).profile]
    rcases h1 : st'.isOn r with _ | _
    · rw [Station.load, Station.load, h1]
      simp only [Bool.toNat_false, Nat.add_zero]
      omega
    · rcases h2 : st.isOn r with _ | _
      · have := (hr r h1 h2).1
        rw [Station.load, Station.load, h1, h2]
        simp only [Bool.toNat_false, Bool.toNat_true]
        omega
      · have heq : st'.load r = st.load r := by rw [Station.load, Station.load, h1, h2]
        omega
  lawful j x hj := by
    rw [e.channels]
    rw [e.stations, Table.find_put] at hj
    split at hj
    next =>
      cases hj
      exact hl
    next => exact h.lawful j x hj
  sound := (e.groups h.sound h.membered).1
  membered r c j := by
    rw [(e.groups h.sound h.membered).2, e.stations, Table.find_put]
    split
    next => simp
    next => exact h.membered r c j
  pool := by
    have ht := Table.total_put (fun st : Station => st.held.length) h.wf ix st'
    have hle := Table.weight_le_total (fun st : Station => st.held.length) h.wf ix
    have hp := h.pool
    have he := e.pool
    rw [hf] at ht hle
    rw [heldFrames_eq] at hp ⊢
    rw [e.stations]
    simp only [Table.weight] at ht hle
    omega
  links r := (e.links r).sound (h.links r)
  homed j x hj r hon := by
    rw [e.stations, Table.find_put] at hj
    split at hj
    next =>
      cases hj
      rcases h2 : st.isOn r with _ | _
      · exact .inl ((h.ups r).mp (hr r hon h2).2)
      · exact h.homed ix st hf r h2
    next => exact h.homed j x hj r hon
  ups r := e.links.up.trans (h.ups r)

end edits

end Sys2Proof.Machine
end

section
/-! PROOFS. Edits of one station's place: what the life of a handoff, orphaning and restoring keep of the invariant. -/

namespace Sys2Proof.Machine

/- The whole text is elaborated in one process: its proofs in turn, so that their threads' stacks stay within its memory. -/
set_option Elab.async false

/-! ### What an edit does to the groups -/

section groups
variable {s t u : State} {ix : Nat} {st st' : Station}

theorem belongs_congr (h1 : st'.groupRadio = st.groupRadio) (h2 : st'.subs.map Subscription.channel = st.subs.map Subscription.channel)
    (r : RadioIx) (c : ChannelIx) : st'.belongs r c = true ↔ st.belongs r c = true := by
  rw [belongs_iff, belongs_iff, h1, h2]

theorem inGroup_self (hm : s.Membered) (hf : s.stations.find ix = some st) (r : RadioIx) (c : ChannelIx) :
    s.inGroup r c ix ↔ st.belongs r c = true := by
  rw [hm, hf]
  simp

/-- A station that leaves some groups and none else. -/
theorem inGroup_left {P : RadioIx → ChannelIx → Prop} [∀ r c, Decidable (P r c)] (hm : s.Membered) (hf : s.stations.find ix = some st)
    (hg : ∀ r c, t.group r c = if P r c then s.groupWithout ix r c else s.group r c)
    (hb : ∀ r c, st'.belongs r c = true ↔ st.belongs r c = true ∧ ¬ P r c) (r : RadioIx) (c : ChannelIx) (j : Nat) :
    t.inGroup r c j ↔ if j = ix then st'.belongs r c = true else s.inGroup r c j := by
  have hgr := hg r c
  by_cases hp : P r c
  · rw [if_pos hp] at hgr
    rw [groupWithout_mem hgr]
    split
    next hj => simp [hj, hb, hp]
    next hj => simp [hj]
  · rw [if_neg hp] at hgr
    rw [inGroup_congr hgr]
    split
    next hj => rw [hj, inGroup_self hm hf, hb, and_iff_left hp]
    next hj => rfl

/-- A station whose groups stand. -/
theorem inGroup_same (hm : s.Membered) (hf : s.stations.find ix = some st) (hg : t.groups = s.groups)
    (hb : ∀ r c, st'.belongs r c = true ↔ st.belongs r c = true) (r : RadioIx) (c : ChannelIx) (j : Nat) :
    t.inGroup r c j ↔ if j = ix then st'.belongs r c = true else s.inGroup r c j :=
  inGroup_left (P := fun _ _ => False) hm hf (fun r c => by rw [if_neg not_false]; exact group_congr hg r c)
    (fun r c => by rw [hb, and_iff_left not_false]) r c j

/-- A station that joins some groups of a state in which it is in others. -/
theorem inGroup_joined {P B : RadioIx → ChannelIx → Prop} [∀ r c, Decidable (P r c)]
    (hu : ∀ r c j, u.inGroup r c j ↔ if j = ix then B r c else s.inGroup r c j)
    (hg : ∀ r c, t.group r c = if P r c then some (Group.joined ix (u.group r c)) else u.group r c)
    (hb : ∀ r c, st'.belongs r c = true ↔ B r c ∨ P r c) (r : RadioIx) (c : ChannelIx) (j : Nat) :
    t.inGroup r c j ↔ if j = ix then st'.belongs r c = true else s.inGroup r c j := by
  have hgr := hg r c
  by_cases hp : P r c
  · rw [if_pos hp] at hgr
    rw [joined_mem hgr, hu]
    split
    next hj => simp [hj, hb, hp]
    next hj => simp [hj]
  · rw [if_neg hp] at hgr
    rw [inGroup_congr hgr, hu]
    split
    next hj => rw [hb, or_iff_left hp]
    next hj => rfl

end groups

/-! ### What an edit does to the counts -/

section load
variable {st : Station} (r : RadioIx)

theorem load_associated {o : RadioIx} {p : Option Prior} (h : st.place = .associated o p) : st.load r = if r = o then 1 else 0 := by
  rw [Station.load, Station.isOn, h]
  by_cases hr : r = o
  · simp [hr]
  · simp [hr, Ne.symm hr]

theorem load_handoff {o n : RadioIx} {d : Word} {p : Option Prior} {held : List FanFrame} (h : st.place = .handoff o n d p held) :
    st.load r = if r = o ∨ r = n then 1 else 0 := by
  rw [Station.load, Station.isOn, h]
  by_cases h1 : r = o
  · simp [h1]
  · by_cases h2 : r = n
    · simp [h2]
    · simp [h1, h2, Ne.symm h1, Ne.symm h2]

theorem load_orphan {o : RadioIx} {d : Word} (h : st.place = .orphan o d) : st.load r = 0 := by
  rw [Station.load, Station.isOn, h]
  rfl

theorem isOn_associated {o : RadioIx} {p : Option Prior} (h : st.place = .associated o p) : st.isOn r = true ↔ r = o := by
  rw [Station.isOn, h, beq_iff_eq, eq_comm]

theorem isOn_handoff {o n : RadioIx} {d : Word} {p : Option Prior} {held : List FanFrame} (h : st.place = .handoff o n d p held) :
    st.isOn r = true ↔ r = o ∨ r = n := by
  rw [Station.isOn, h, Bool.or_eq_true, beq_iff_eq, beq_iff_eq, eq_comm, @eq_comm _ n]

theorem isOn_orphan {o : RadioIx} {d : Word} (h : st.place = .orphan o d) : st.isOn r = false := by
  rw [Station.isOn, h]

theorem held_associated {o : RadioIx} {p : Option Prior} (h : st.place = .associated o p) : st.held = [] := by
  rw [Station.held, h]

theorem held_handoff {o n : RadioIx} {d : Word} {p : Option Prior} {held : List FanFrame} (h : st.place = .handoff o n d p held) :
    st.held = held := by
  rw [Station.held, h]

theorem held_orphan {o : RadioIx} {d : Word} (h : st.place = .orphan o d) : st.held = [] := by
  rw [Station.held, h]

theorem groupRadio_associated {o : RadioIx} {p : Option Prior} (h : st.place = .associated o p) : st.groupRadio = some o := by
  rw [Station.groupRadio, h]

theorem groupRadio_handoff {o n : RadioIx} {d : Word} {p : Option Prior} {held : List FanFrame} (h : st.place = .handoff o n d p held) :
    st.groupRadio = some o := by
  rw [Station.groupRadio, h]

theorem groupRadio_orphan {o : RadioIx} {d : Word} (h : st.place = .orphan o d) : st.groupRadio = none := by
  rw [Station.groupRadio, h]

end load

/-- A station with the same binding and entries for the same channels is lawful with it, but for its hold queue. -/
theorem Station.Lawful.kin {channels : Vector Channel 16} {st st' : Station} (h : st.Lawful channels) (hb : st'.binding = st.binding)
    (ht : st'.tier = st.tier) (hs : st'.subs.map Subscription.channel = st.subs.map Subscription.channel)
    (hh : st'.held.length ≤ st.tier.holdDepth) : st'.Lawful channels where
  few := by
    have hl := congrArg List.length hs
    rw [List.length_map, List.length_map] at hl
    exact hl ▸ h.few
  distinct := hs ▸ h.distinct
  permitted := by rw [hs, hb]; exact h.permitted
  depth := ht ▸ hh
  guest hu := by rw [ht]; exact h.guest (hb ▸ hu)

/-! ### A place that stands in the counts and the groups (R12, R54, R63) -/

section still
variable {up : RadioIx → Prop} {down : Option RadioIx} {s : State} {ix : Nat} {st : Station} (h : s.Upheld up down)
    (hf : s.stations.find ix = some st)
include h hf

/-- A station whose device, binding, entries, group radio and hold queue stand, moved between radios with its counts. -/
theorem State.Upheld.moved {t : State} {st' : Station} (ht : t.stations = s.stations.put ix st')
    (hframe : ChangesOnly [.stations, .stationCount] s t)
    (hd : st'.device = st.device) (hb : st'.binding = st.binding) (htier : st'.tier = st.tier)
    (hs : st'.subs.map Subscription.channel = st.subs.map Subscription.channel) (hg : st'.groupRadio = st.groupRadio)
    (hh : st'.held = st.held)
    (hc : ∀ r : RadioIx, t.stationCount[r] = s.stationCount[r] - st.load r + st'.load r)
    (hr : ∀ r : RadioIx, st'.isOn r = true → st.isOn r = false →
      s.stationCount[r] < s.links[r].profile.stationLimit ∧ s.links[r].state = .up) : t.Upheld up down := by
  have hgroups : t.groups = s.groups := hframe .groups (by decide)
  have hfree : t.holdFree = s.holdFree := hframe .holdFree (by decide)
  exact h.edited hf ⟨ht, hd, hframe .addressMap (by decide), hframe .channels (by decide), hc, by rw [hh, hfree], hframe.linksCarry,
    fun hs => hs.congr hgroups, fun h1 h2 => ⟨h1.congr hgroups, inGroup_same h2 hf hgroups (belongs_congr hg hs)⟩⟩
    ((h.lawful ix st hf).kin hb htier hs (hh ▸ (h.lawful ix st hf).depth)) hr

/-- A station whose device, binding, entries, radios and hold queue stand. -/
theorem State.Upheld.restated {st' : Station} (hd : st'.device = st.device) (hb : st'.binding = st.binding) (ht : st'.tier = st.tier)
    (hs : st'.subs.map Subscription.channel = st.subs.map Subscription.channel) (hg : st'.groupRadio = st.groupRadio)
    (ho : ∀ r, st'.isOn r = st.isOn r) (hh : st'.held = st.held) : (s.setStation ix st').Upheld up down := by
  refine h.moved hf rfl (setStation_frame s ix st').le hd hb ht hs hg hh (fun r => ?_) fun r h1 h2 => ?_
  · have hload : st'.load r = st.load r := by rw [Station.load, Station.load, ho]
    rw [hload, Nat.sub_add_cancel (h.load_le hf r)]
    rfl
  · rw [ho, h2] at h1
    cases h1

theorem State.Upheld.rated (rate : RateClass) : (s.setStation ix { st with rate := rate }).Upheld up down :=
  h.restated hf rfl rfl rfl rfl rfl (fun _ => rfl) rfl

theorem State.Upheld.unguarded : (s.setStation ix st.withoutPrior).Upheld up down := by
  obtain ⟨_, place, _, _, _, _⟩ := st
  cases place <;> exact h.restated hf rfl rfl rfl rfl rfl (fun _ => rfl) rfl

/-- A downlink frame held for a station in HANDOFF (R63). -/
theorem State.Upheld.hold {o n : RadioIx} {d : Word} {p : Option Prior} {held : List FanFrame} (hp : st.place = .handoff o n d p held)
    (f : FanFrame) : (s.hold ix st o n d p held f).Upheld up down := by
  have hlaw := h.lawful ix st hf
  have hheld := held_handoff hp
  have hedit {st' : Station} {t : State} (hst' : ∃ held', st' = { st with place := .handoff o n d p held' } ∧
      held'.length ≤ st.tier.holdDepth ∧ t.holdFree + held'.length = s.holdFree + held.length)
      (ht : t.stations = s.stations.put ix st') (hframe : ChangesOnly [.stations, .holdFree] s t) : t.Upheld up down := by
    obtain ⟨held', rfl, hlen, hpool⟩ := hst'
    have hload (r : RadioIx) : Station.load r { st with place := .handoff o n d p held' } = st.load r := by
      rw [load_handoff r hp, load_handoff r rfl]
    refine h.edited hf ⟨ht, rfl, hframe .addressMap (by decide), hframe .channels (by decide), fun r => ?_, by rw [hheld]; exact hpool,
      hframe.linksCarry, fun hs => hs.congr (hframe .groups (by decide)), fun h1 h2 => ⟨h1.congr (hframe .groups (by decide)),
      inGroup_same h2 hf (hframe .groups (by decide)) (belongs_congr ?_ rfl)⟩⟩ (hlaw.kin rfl rfl rfl hlen) fun r h1 h2 => ?_
    · have hc : t.stationCount = s.stationCount := hframe .stationCount (by decide)
      rw [hload, Nat.sub_add_cancel (h.load_le hf r)]
      simp only [hc]
    · rw [groupRadio_handoff hp, groupRadio_handoff rfl]
    · rw [isOn_handoff r rfl, ← isOn_handoff r hp, h2] at h1
      cases h1
  have hdepth := hlaw.depth
  rw [hheld] at hdepth
  unfold State.hold
  split
  next hlt =>
    split
    · exact h.of_frame (((count_frame s _).le (gs := [.counters, .notices])).step (note_frame _ _)) (.same (by rfl))
    next hfree =>
      refine (hedit (t := { s.setStation ix { st with place := .handoff o n d p (held ++ [f]) } with holdFree := s.holdFree - 1 })
        ⟨held ++ [f], rfl, ?_, ?_⟩ rfl ?_).of_frame (count_frame _ _) (.same (by rfl))
      · rw [List.length_append]
        exact hlt
      · show s.holdFree - 1 + (held ++ [f]).length = s.holdFree + held.length
        rw [List.length_append, List.length_singleton]
        omega
      · rintro (_ | _) h <;> first | rfl | simp at h
  next hge =>
    have hpos : 8 ≤ st.tier.holdDepth := by cases st.tier <;> decide
    have hlen : (held.drop 1 ++ [f]).length = held.length := by
      rw [List.length_append, List.length_drop, List.length_singleton]
      omega
    refine (hedit (t := s.setStation ix { st with place := .handoff o n d p (held.drop 1 ++ [f]) })
      ⟨held.drop 1 ++ [f], rfl, ?_, ?_⟩ rfl ?_).of_frame (((count_frame _ _).le (gs := [.counters])).step (count_frame _ _))
          (.same (by rfl))
    · rw [hlen]
      exact hdepth
    · rw [hlen]
      rfl
    · exact (setStation_frame s ix _).le

end still

end Sys2Proof.Machine
end

section
/-! PROOFS. The life of a handoff, orphaning and restoring keep the invariant of stations. -/

namespace Sys2Proof.Machine

/- The whole text is elaborated in one process: its proofs in turn, so that their threads' stacks stay within its memory. -/
set_option Elab.async false

theorem room_of_radioFull {s : State} {r : RadioIx} (h : s.radioFull r = false) : s.stationCount[r] < s.links[r].profile.stationLimit := by
  unfold State.radioFull at h
  simpa using h

/-! ### Handoffs that begin and are superseded (R48, R56 to R58) -/

section towards
variable {up : RadioIx → Prop} {down : Option RadioIx} {s : State} {ix : Nat} {st : Station} (h : s.Upheld up down)
    (hf : s.stations.find ix = some st)
include h hf

theorem State.Upheld.begins {o n : RadioIx} {p : Option Prior} (hp : st.place = .associated o p) (hne : o ≠ n)
    (hr : s.radioFull n = false) (hu : s.links[n].state = .up) (d : Word) (rate : RateClass) :
    ((s.setStation ix { st with place := .handoff o n d p [], rate := rate }).raiseCount n).Upheld up down := by
  refine h.moved hf rfl (((setStation_frame s ix _).le).step (raiseCount_frame _ _)) rfl rfl rfl rfl ?_ ?_ (fun r => ?_) fun r h1 h2 => ?_
  · rw [groupRadio_associated hp, groupRadio_handoff rfl]
  · rw [held_associated hp, held_handoff rfl]
  · have hle := h.load_le hf r
    rw [load_associated r hp] at hle
    rw [load_associated r hp, load_handoff r rfl]
    show (s.stationCount.set n (s.stationCount[n] + 1))[r] = _
    rw [vector_set_get]
    by_cases hrn : r = n
    · subst hrn
      simp [Ne.symm hne]
    · by_cases hro : r = o
      · subst hro
        simp only [if_true] at hle
        simp only [hrn, true_or, if_false, if_true]
        omega
      · simp [hrn, hro]
  · rcases (isOn_handoff r rfl).mp h1 with rfl | rfl
    · rw [(isOn_associated r hp).mpr rfl] at h2
      cases h2
    · exact ⟨room_of_radioFull hr, hu⟩

variable {o n : RadioIx} {d : Word} {p : Option Prior} {held : List FanFrame} (hp : st.place = .handoff o n d p held)
include hp

/-- A handoff whose target moves, with its counts. -/
theorem State.Upheld.retargeted {t : State} {m : RadioIx} {rate : RateClass}
    (ht : ChangesOnly [.stationCount] (s.towards ix st o m p held rate) t)
    (hc : ∀ r : RadioIx, t.stationCount[r] = s.stationCount[r] - st.load r + if r = o ∨ r = m then 1 else 0)
    (hm : m = o ∨ m = n ∨ (s.radioFull m = false ∧ s.links[m].state = .up)) : t.Upheld up down := by
  have hframe : ChangesOnly [.stations, .stationCount] s t := ((setStation_frame s ix _).le (gs := [.stations, .stationCount])).step ht
  refine h.moved hf (ht .stations (by decide)) hframe rfl rfl rfl rfl ?_ ?_ (fun r => ?_) fun r h1 h2 => ?_
  · rw [groupRadio_handoff hp, groupRadio_handoff rfl]
  · rw [held_handoff hp, held_handoff rfl]
  · rw [hc, load_handoff (st := { st with place := .handoff o m s.handoffDeadline p held, rate := rate }) r rfl]
  · have hoff : ¬ (r = o ∨ r = n) := fun hon => by
      rw [(isOn_handoff r hp).mpr hon] at h2
      cases h2
    rcases (isOn_handoff r rfl).mp h1 with rfl | rfl
    · exact absurd (.inl rfl) hoff
    · rcases hm with hm | hm | hm
      · exact absurd (.inl hm) hoff
      · exact absurd (.inr hm) hoff
      · exact ⟨room_of_radioFull hm.1, hm.2⟩

theorem State.Upheld.supersedes {m : RadioIx} (h1 : m ≠ n) (h2 : m ≠ o) (h3 : o ≠ n) (hr : s.radioFull m = false)
    (hu : s.links[m].state = .up)
    (rate : RateClass) : (((s.towards ix st o m p held rate).raiseCount m).lowerCount n).Upheld up down := by
  refine h.retargeted hf hp (((raiseCount_frame _ _).le).step (lowerCount_frame _ _)) (fun r => ?_) (.inr (.inr ⟨hr, hu⟩))
  have hle := h.load_le hf r
  rw [load_handoff r hp] at hle
  rw [load_handoff r hp]
  show ((s.stationCount.set m (s.stationCount[m] + 1)).set n ((s.stationCount.set m (s.stationCount[m] + 1))[n] - 1))[r] = _
  rw [vector_set_get, vector_set_get, vector_set_get]
  by_cases hrn : r = n
  · subst hrn
    simp [Ne.symm h1, Ne.symm h3]
  · by_cases hrm : r = m
    · subst hrm
      simp [h1, h2]
    · by_cases hro : r = o
      · subst hro
        simp only [true_or, if_true] at hle
        simp only [hrn, hrm, true_or, if_false, if_true]
        omega
      · simp [hrn, hrm, hro]

theorem State.Upheld.turnsBack (h3 : o ≠ n) (rate : RateClass) : ((s.towards ix st o o p held rate).lowerCount n).Upheld up down := by
  refine h.retargeted hf hp (lowerCount_frame _ _) (fun r => ?_) (.inl rfl)
  have hle := h.load_le hf r
  rw [load_handoff r hp] at hle
  rw [load_handoff r hp]
  show (s.stationCount.set n (s.stationCount[n] - 1))[r] = _
  rw [vector_set_get]
  by_cases hrn : r = n
  · subst hrn
    simp [Ne.symm h3]
  · by_cases hro : r = o
    · subst hro
      simp only [true_or, if_true] at hle
      simp only [hrn, true_or, if_false, if_true]
      omega
    · simp [hrn, hro]

omit hp in
theorem State.Upheld.turnsOutward (hp : st.place = .handoff o o d p held) {m : RadioIx} (h2 : m ≠ o) (hr : s.radioFull m = false)
    (hu : s.links[m].state = .up) (rate : RateClass) : ((s.towards ix st o m p held rate).raiseCount m).Upheld up down := by
  refine h.retargeted hf hp (raiseCount_frame _ _) (fun r => ?_) (.inr (.inr ⟨hr, hu⟩))
  have hle := h.load_le hf r
  rw [load_handoff r hp] at hle
  rw [load_handoff r hp]
  show (s.stationCount.set m (s.stationCount[m] + 1))[r] = _
  rw [vector_set_get]
  by_cases hrm : r = m
  · subst hrm
    simp [h2]
  · by_cases hro : r = o
    · subst hro
      simp only [true_or, if_true] at hle
      simp only [hrm, true_or, if_false, if_true]
      omega
    · simp [hrm, hro]

end towards

/-! ### Handoffs that end on their old radio (R57, R61) -/

section back
variable {up : RadioIx → Prop} {down : Option RadioIx} {s : State} {ix : Nat} {st : Station} (h : s.Upheld up down)
    (hf : s.stations.find ix = some st)
  {o n : RadioIx} {d : Word} {p : Option Prior} {held : List FanFrame}
include h hf

/-- A handoff that ends on its old radio, its hold queue given back. -/
theorem State.Upheld.settlesBack (hp : st.place = .handoff o n d p held) {t : State}
    (ht : t.stations = s.stations.put ix { st with place := .associated o p }) (hframe : ChangesOnly exitFields s t)
    (hg : t.groups = s.groups) (hh : t.holdFree = s.holdFree + held.length) (hl : LinksCarry s t)
    (hc : ∀ r : RadioIx, t.stationCount[r] = s.stationCount[r] - (if r = o ∨ r = n then 1 else 0) + if r = o then 1 else 0) :
    t.Upheld up down := by
  refine h.edited hf (st' := { st with place := .associated o p }) ⟨ht, rfl, hframe .addressMap (by decide), hframe .channels (by decide),
    fun r => ?_, ?_, hl, fun hs => hs.congr hg, fun h1 h2 => ⟨h1.congr hg, inGroup_same h2 hf hg (belongs_congr ?_ rfl)⟩⟩
    ((h.lawful ix st hf).kin rfl rfl rfl (Nat.zero_le _)) fun r h1 h2 => ?_
  · rw [hc, load_handoff r hp, load_associated r rfl]
  · rw [hh, held_handoff hp]
    rfl
  · rw [groupRadio_handoff hp]
    rfl
  · rw [(isOn_handoff r hp).mpr (.inl ((isOn_associated r rfl).mp h1))] at h2
    cases h2

theorem State.Upheld.endReturn (hp : st.place = .handoff o o d p held) (ho : s.links[o].state = .up) :
    (s.endReturn ix st o p held).Upheld up down := by
  refine h.settlesBack hf hp (endReturn_stations s ix st o p held) (endReturn_frame s ix st o p held) (endReturn_groups s ix st o p held)
    (endReturn_holdFree s ix st o p held) (endReturn_carry ho ix st p held) fun r => ?_
  have hle := h.load_le hf r
  rw [load_handoff r hp] at hle
  have hcount := endReturn_stationCount s ix st o p held
  simp only [hcount, or_self] at hle ⊢
  omega

theorem State.Upheld.abandonToOld (hp : st.place = .handoff o n d p held) (hne : n ≠ o) (ho : s.links[o].state = .up) :
    (s.abandonToOld ix st o n p held).Upheld up down := by
  refine h.settlesBack hf hp (abandonToOld_stations s ix st o n p held) (abandonToOld_frame s ix st o n p held)
    (abandonToOld_groups s ix st o n p held) (abandonToOld_holdFree s ix st o n p held) (abandonToOld_carry ho ix st n p held) fun r => ?_
  have hle := h.load_le hf r
  rw [load_handoff r hp] at hle
  have hcount := abandonToOld_stationCount s ix st o n p held
  simp only [hcount, vector_set_get]
  by_cases hrn : r = n
  · subst hrn
    simp [hne]
  · by_cases hro : r = o
    · subst hro
      simp only [true_or, if_true] at hle
      simp only [hrn, true_or, if_false, if_true]
      omega
    · simp [hrn, hro]

end back

/-! ### Completions (R51, R53, R120) -/

section completion
variable {up : RadioIx → Prop} {down : Option RadioIx} {s : State} {ix : Nat} {st : Station} (h : s.Upheld up down)
    (hf : s.stations.find ix = some st)
  {o n : RadioIx} {d : Word} {p : Option Prior} {held : List FanFrame} (hp : st.place = .handoff o n d p held) (hne : n ≠ o)

theorem completedTo_channels (s : State) (o n : RadioIx) (st : Station) :
    (st.completedTo s o n).subs.map Subscription.channel = st.subs.map Subscription.channel := by
  rw [Station.completedTo, reflagged_channels, List.map_map]
  rfl

theorem complete_groups (s : State) (ix : Nat) (st : Station) (o n : RadioIx) (held : List FanFrame) :
    (s.complete ix st o n held).groups = (((s.arrived ix st o n held).leaveGroups (some o) st.subs ix).joinGroups n st.subs ix).groups := by
  rw [complete_frame' s ix st o n held .groups (by decide), State.migrated, State.addTo_groups]

theorem arrived_groups (s : State) (ix : Nat) (st : Station) (o n : RadioIx) (held : List FanFrame) :
    (s.arrived ix st o n held).groups = s.groups := by
  rw [State.arrived, flush_groups, sendAdmit_groups]
  rfl

include h hf hp hne

omit hne in
/-- A completion takes the station from its old radio's groups to its new radio's (R120). -/
theorem complete_inGroup : (s.complete ix st o n held).GroupsSound ∧ ∀ r c j, (s.complete ix st o n held).inGroup r c j ↔
    if j = ix then (st.completedTo s o n).belongs r c = true else s.inGroup r c j := by
  have hdistinct := (h.lawful ix st hf).distinct
  have harr : (s.arrived ix st o n held).GroupsSound := h.sound.congr (arrived_groups s ix st o n held)
  have hleft := inGroup_left (t := (s.arrived ix st o n held).leaveGroups (some o) st.subs ix) (st' := { st with subs := [] })
    (P := fun r c => some o = some r ∧ c ∈ st.subs.map Subscription.channel) h.membered hf
    (fun r c => by
      rw [leaveGroups_group harr, groupWithout_congr (group_congr (arrived_groups s ix st o n held) r c),
        group_congr (arrived_groups s ix st o n held) r c])
    (fun r c => by rw [belongs_iff, belongs_iff, groupRadio_handoff hp]; simp)
  have hsound := harr.leaveGroups (some o) st.subs ix
  have hgroups := complete_groups s ix st o n held
  generalize (s.arrived ix st o n held).leaveGroups (some o) st.subs ix = u at hleft hsound hgroups
  have hno (r : RadioIx) (c : ChannelIx) : ¬ Station.belongs { st with subs := [] } r c = true := by
    rw [belongs_iff]
    simp
  have hout (e : Subscription) (_ : e ∈ st.subs) : ¬ u.inGroup n e.channel ix := by
    rw [hleft, if_pos rfl]
    exact hno n e.channel
  refine ⟨(hsound.joinGroups n ix st.subs hdistinct hout).congr hgroups, inGroup_joined
    (P := fun r c => r = n ∧ c ∈ st.subs.map Subscription.channel) hleft (fun r c => ?_) fun r c => ?_⟩
  · rw [group_congr hgroups, joinGroups_group n ix st.subs u hdistinct]
  · rw [belongs_iff, completedTo_channels, groupRadio_associated (st := st.completedTo s o n) rfl, Option.some_inj, or_iff_right (hno r c),
      eq_comm]

theorem State.Upheld.complete (hn : s.links[n].state = .up) : (s.complete ix st o n held).Upheld up down := by
  have hframe := complete_frame s ix st o n held
  have hle := h.load_le hf
  have hcount := complete_stationCount s ix st o n held
  refine h.edited hf (st' := st.completedTo s o n) ⟨complete_stations s ix st o n held, rfl, hframe .addressMap (by decide),
    hframe .channels (by decide), fun r => ?_, ?_, complete_carry hn ix st o held, fun hs => ?_, fun _ _ => complete_inGroup h hf hp⟩
    ((h.lawful ix st hf).kin rfl rfl (completedTo_channels s o n st) (Nat.zero_le _)) fun r h1 h2 => ?_
  · have hler := hle r
    rw [load_handoff r hp] at hler
    rw [load_handoff r hp, load_associated (st := st.completedTo s o n) r rfl]
    simp only [hcount, vector_set_get]
    by_cases hro : r = o
    · subst hro
      simp [Ne.symm hne]
    · by_cases hrn : r = n
      · subst hrn
        simp only [or_true, if_true] at hler
        simp only [hro, or_true, if_false, if_true]
        omega
      · simp [hrn, hro]
  · rw [complete_holdFree, held_handoff hp]
    rfl
  · exact (((hs.congr (arrived_groups s ix st o n held)).leaveGroups _ _ _).joinGroups _ _ _).congr (complete_groups s ix st o n held)
  · rw [(isOn_handoff r hp).mpr (.inr ((isOn_associated r rfl).mp h1))] at h2
    cases h2

theorem State.Upheld.force (hn : s.links[n].state = .up) (withDrop : Bool) : (s.force ix st o n held withDrop).Upheld up down := by
  have hd : (s.dropped ix st o withDrop).Upheld up down ∧ LinksCarry s (s.dropped ix st o withDrop) := by
    have hl : LinksCarry s (s.dropped ix st o withDrop) := by
      unfold State.dropped
      split
      · exact send_carry s o _
      · exact .refl s
    exact ⟨h.of_frame (dropped_frame s ix st o withDrop) hl, hl⟩
  have hstations : (s.dropped ix st o withDrop).stations = s.stations := dropped_frame s ix st o withDrop .stations (by decide)
  rw [force_eq]
  exact (hd.1.complete (hstations ▸ hf) hp hne (hd.2.up.mpr hn)).of_frame
    (((count_frame _ _).le (gs := [.counters, .notices])).step (note_frame _ _)) (.same (by rw [State.note_links, State.count_links]))

end completion

/-! ### Orphaning and restoring (R15, R17, R59, R62, R122) -/

section orphaning
variable {up : RadioIx → Prop} {down : Option RadioIx} {s : State} {ix : Nat} {st : Station} (h : s.Upheld up down)
    (hf : s.stations.find ix = some st)
include h hf

/-- A station that becomes ORPHAN, off its radios and with its hold queue given back. -/
theorem State.Upheld.orphaned {t : State} (ht : ChangesOnly [.stationCount, .holdFree, .counters] (s.orphan ix st) t)
    (hc : t.stationCount = (s.lowerCounts st.place).stationCount) (hh : t.holdFree = s.holdFree + st.held.length) : t.Upheld up down := by
  have hframe : ChangesOnly exitFields s t := ((orphan_frame s ix st).le (gs := exitFields)).step ht
  have hgroups : t.groups = (s.orphan ix st).groups := ht .groups (by decide)
  have hformed (hs : s.GroupsFormed) : (s.orphan ix st).GroupsFormed := by
    refine State.GroupsFormed.congr (t := s.orphan ix st)
        (s := (s.setStation ix (st.orphaned s)).leaveGroups st.groupRadio st.subs ix) rfl ?_
    exact State.GroupsFormed.leaveGroups (hs.congr (by rfl)) _ _ _
  refine h.edited hf (st' := st.orphaned s) ⟨?_, rfl, hframe .addressMap (by decide), hframe .channels (by decide), fun r => ?_, ?_, ?_,
    fun hs => (hformed hs).congr hgroups, fun hs hm => ⟨(orphan_sound s ix st hs).congr hgroups, inGroup_left
      (P := fun r c => st.groupRadio = some r ∧ c ∈ st.subs.map Subscription.channel) hm hf
      (fun r c => (group_congr hgroups r c).trans (orphan_group s ix st hs r c)) fun r c => ?_⟩⟩
    ((h.lawful ix st hf).kin rfl rfl (by simp [Station.orphaned, Function.comp_def]) (Nat.zero_le _)) fun r h1 h2 => ?_
  · rw [ht .stations (by decide), orphan_stations]
  · rw [load_orphan (st := st.orphaned s) r rfl]
    simp only [hc]
    exact lowerCounts_count s st r
  · rw [hh]
    rfl
  · exact (orphan_carry s ix st).trans ht.linksCarry
  · rw [belongs_iff, belongs_iff, groupRadio_orphan (st := st.orphaned s) rfl]
    simp
  · rw [isOn_orphan (st := st.orphaned s) r rfl] at h1
    cases h1

theorem State.Upheld.stranded {held : List FanFrame} (hh : st.held = held) : (s.strand ix st held).Upheld up down :=
  h.orphaned hf (strand_frame s ix st held) (strand_stationCount s ix st held) (by rw [strand_holdFree, hh])

theorem State.Upheld.abandonToOrphan {held : List FanFrame} (hh : st.held = held) : (s.abandonToOrphan ix st held).Upheld up down := by
  rw [abandonToOrphan_eq]
  exact (h.stranded hf hh).of_frame (count_frame _ _) (.same (State.count_links _ _))

/-- A station orphaned by the exit of its radio's link (R15). -/
theorem State.Upheld.orphanedFrom {r : RadioIx} {p : Option Prior} (hp : st.place = .associated r p) :
    ((s.orphan ix st).lowerCount r).Upheld up down := by
  refine h.orphaned hf (lowerCount_frame _ _).le ?_ ?_
  · rw [hp]
    exact lowerCount_congr (orphan_stationCount s ix st) r
  · rw [held_associated hp]
    exact orphan_holdFree s ix st

/-- A restore on a radio with room (R17). -/
theorem State.Upheld.restored {o r : RadioIx} {d : Word} (hp : st.place = .orphan o d) (hr : s.radioFull r = false)
    (hu : s.links[r].state = .up) (rate : RateClass) : (s.restore r ix st rate).Upheld up down := by
  have hframe := restored_frame hr ix st rate
  have hcount := restore_stationCount hr ix st rate
  have hgroups := restore_groups hr ix st rate
  have hchannels : (Station.reflagged s.channels (st.rejoined r rate)).subs.map Subscription.channel =
      st.subs.map Subscription.channel := by
    rw [reflagged_channels, Station.rejoined, List.map_map]
    rfl
  have hplace : (Station.reflagged s.channels (st.rejoined r rate)).place = .associated r none := rfl
  have hcarry : LinksCarry s (s.restore r ix st rate) := by
    rw [restore_room hr]
    have h1 : LinksCarry s ((s.rejoin r ix st rate).repause ix) := by
      refine .same ?_
      rw [repause_frame _ ix .links (by decide), rejoin_frame s r ix st rate .links (by decide)]
      rfl
    exact (h1.trans (sendAdmit_carry _ r ix)).trans (.same (State.count_links _ _))
  have hout (r' : RadioIx) (c : ChannelIx) : ¬ st.belongs r' c = true := by
    rw [belongs_iff, groupRadio_orphan hp]
    simp
  generalize hv : (s.setStation ix (st.rejoined r rate)).raiseCount r = v at hgroups
  have hvg : v.groups = s.groups := by rw [← hv]; rfl
  refine h.edited hf (st' := Station.reflagged s.channels (st.rejoined r rate)) ⟨restore_stations hr ix st rate, rfl,
    hframe .addressMap (by decide), hframe .channels (by decide), fun r' => ?_, ?_, hcarry,
    fun hs => (State.GroupsFormed.joinGroups (hs.congr hvg) r st.subs ix).congr hgroups, fun hs hm => ⟨?_, ?_⟩⟩
    ((h.lawful ix st hf).kin rfl rfl hchannels (Nat.zero_le _)) fun r' h1 h2 => ?_
  · rw [load_orphan r' hp, load_associated r' hplace]
    simp only [hcount, vector_set_get]
    by_cases hrr : r' = r
    · subst hrr
      simp
    · simp [hrr]
  · rw [hframe .holdFree (by decide), held_orphan hp]
    rfl
  · refine (State.GroupsSound.joinGroups r ix st.subs (hs.congr hvg) (h.lawful ix st hf).distinct fun e _ => ?_).congr hgroups
    rw [inGroup_congr (group_congr hvg _ _), inGroup_self hm hf]
    exact hout r e.channel
  · refine inGroup_joined (P := fun r' c => r' = r ∧ c ∈ st.subs.map Subscription.channel)
      (inGroup_same (st' := st) hm hf hvg fun _ _ => Iff.rfl) (fun r' c => ?_) fun r' c => ?_
    · rw [group_congr hgroups, joinGroups_group r ix st.subs v (h.lawful ix st hf).distinct]
    · rw [belongs_iff, hchannels, groupRadio_associated hplace, Option.some_inj, or_iff_right (hout r' c), eq_comm]
  · rw [(isOn_associated r' hplace).mp h1]
    exact ⟨room_of_radioFull hr, hu⟩

end orphaning

end Sys2Proof.Machine
end

section
/-! PROOFS. Allocation, freeing, realignment, subscription and channel examination keep the invariant of stations. -/

namespace Sys2Proof.Machine

/- The whole text is elaborated in one process: its proofs in turn, so that their threads' stacks stay within its memory. -/
set_option Elab.async false

/-! ### Formed groups -/

theorem realign_formed {s : State} (hs : s.GroupsFormed) (ix : Nat) (b : Option Binding) : (s.realign ix b).GroupsFormed := by
  have hset : (s.setBinding ix b).GroupsFormed := hs.congr (setBinding_frame s ix b .groups (by decide))
  have hprune : ((s.setBinding ix b).prune ix).GroupsFormed := by
    unfold State.prune
    split
    · exact hset
    · exact State.GroupsFormed.congr (State.addTo_groups _ _ _) (State.GroupsFormed.leaveGroups (hset.congr (by rfl)) _ _ _)
  exact (hprune.congr (repause_frame _ ix .groups (by decide))).congr (shrinkHold_frame _ ix .groups (by decide))

theorem unbind_formed {s : State} (hs : s.GroupsFormed) (slot ix : Nat) : (s.unbind slot ix).GroupsFormed := by
  rw [unbind_eq]
  exact (realign_formed (hs.congr (dropBound_frame s slot ix .groups (by decide))) ix none).congr (State.count_groups _ _)

theorem unbindStation_formed {s : State} (hs : s.GroupsFormed) (ix : Nat) (st : Station) : (s.unbindStation ix st).GroupsFormed := by
  unfold State.unbindStation
  split
  · exact hs
  · exact unbind_formed hs _ _

theorem unbindStation_wf {s : State} (hw : s.stations.wf = true) (ix : Nat) (st : Station) :
    (s.unbindStation ix st).stations.wf = true := by
  unfold State.unbindStation
  split
  · exact hw
  · exact unbind_wf hw

theorem emptied_formed {s : State} (hs : s.GroupsFormed) (ix : Nat) (st : Station) : (s.emptied ix st).GroupsFormed := by
  have hu := unbindStation_formed hs ix st
  have he : ((s.unbindStation ix st).endSubscriptions ix).GroupsFormed := by
    unfold State.endSubscriptions
    split
    · exact hu
    · exact State.GroupsFormed.leaveGroups (hu.congr (by rfl)) _ _ _
  exact he.congr (discardHold_frame _ ix .groups (by decide))

theorem emptied_wf {s : State} (hw : s.stations.wf = true) (ix : Nat) (st : Station) : (s.emptied ix st).stations.wf = true := by
  have hu := unbindStation_wf hw ix st
  have he : ((s.unbindStation ix st).endSubscriptions ix).stations.wf = true := by
    unfold State.endSubscriptions
    split
    · exact hu
    · rw [leaveGroups_stations]
      exact Table.wf_put _ _ hu
  rw [State.emptied, discardHold_frame _ ix .stations (by decide)]
  exact he

theorem free_stations {s : State} (hw : s.stations.wf = true) {ix : Nat} {st : Station} (hf : s.stations.find ix = some st) :
    (s.free ix st).stations = s.stations.drop ix := by
  have hdrop : (s.free ix st).stations.wf = true := Table.wf_drop ix (emptied_wf hw ix st)
  exact Table.ext_of_find hdrop (Table.wf_drop ix hw) fun j => by rw [free_station hf, Table.find_drop]

/-! ### Freeing (R13) -/

section free
variable {up : RadioIx → Prop} {down : Option RadioIx} {s : State} {ix : Nat} {st : Station} (h : s.Upheld up down)
    (hf : s.stations.find ix = some st)
include h hf

theorem State.Upheld.unique {j : Nat} {x : Station} (hj : s.stations.find j = some x) (hd : x.device.toNat = st.device.toNat) : j = ix :=
  Option.some_inj.mp ((h.mapped j x hj).symm.trans (hd ▸ h.mapped ix st hf))

theorem State.Upheld.free : (s.free ix st).Upheld up down := by
  have hframe := free_frame s ix st
  have hst := free_stations h.wf hf
  have hmap := free_addressMap s ix st
  have hcount := free_stationCount s ix st
  have hlinks : (s.free ix st).links = s.links := hframe .links (by decide)
  have hfree := free_holdFree hf
  obtain ⟨hsound, hgroup⟩ := free_groups hf h.sound
  have hformed : (s.free ix st).GroupsFormed := by
    rw [free_eq]
    refine State.GroupsFormed.congr (State.count_groups _ _) ((emptied_formed h.formed ix st).congr ?_)
    show (State.lowerCounts _ st.place).groups = _
    rw [lowerCounts_groups]
  have hin := inGroup_left (t := s.free ix st) (st' := { st with subs := [] }) h.membered hf hgroup fun r c => by
    rw [belongs_iff, belongs_iff]
    simp
  have hchannels : (s.free ix st).channels = s.channels := hframe .channels (by decide)
  generalize s.free ix st = t at *
  have hfind (j : Nat) : t.stations.find j = if j = ix then none else s.stations.find j := by rw [hst, Table.find_drop]
  have hold {j : Nat} {x : Station} (hj : t.stations.find j = some x) : j ≠ ix ∧ s.stations.find j = some x := by
    rw [hfind] at hj
    split at hj
    · cases hj
    next hne => exact ⟨hne, hj⟩
  refine ⟨hst ▸ Table.wf_drop _ h.wf, fun j x hj => h.keys j x (hold hj).2, hmap ▸ Table.wf_drop _ h.mapWf, hformed, fun j x hj => ?_,
    fun a j ha => ?_, fun r => ?_, fun r => ?_, fun j x hj => ?_, hsound, fun r c j => ?_, ?_, fun r => ?_, fun j x hj r hon => ?_,
    fun r => by rw [link_congr hlinks]; exact h.ups r⟩
  · obtain ⟨hne, hj'⟩ := hold hj
    rw [hmap, Table.find_drop, if_neg fun he => hne (h.unique hf hj' he)]
    exact h.mapped j x hj'
  · rw [hmap, Table.find_drop] at ha
    split at ha
    · cases ha
    next hne =>
      obtain ⟨x, hx, hxa⟩ := h.named a j ha
      rw [hfind, if_neg]
      · exact ⟨x, hx, hxa⟩
      · rintro rfl
        rw [hf] at hx
        cases hx
        exact hne hxa.symm
  · have ht := Table.total_drop (Station.load r) h.wf ix
    have hlow := lowerCounts_count s st r
    rw [hf] at ht
    simp only [hcount, hst]
    rw [hlow, h.count r]
    simp only [Table.weight] at ht
    omega
  · have hlow := lowerCounts_count s st r
    have hlim := h.limit r
    rw [link_congr hlinks]
    simp only [hcount]
    omega
  · rw [hchannels]
    exact h.lawful j x (hold hj).2
  · rw [hin, hfind]
    split
    · rw [belongs_iff]
      simp
    · exact h.membered r c j
  · have ht := Table.total_drop (fun st : Station => st.held.length) h.wf ix
    have hp := h.pool
    rw [hf] at ht
    rw [heldFrames_eq] at hp ⊢
    rw [hfree, hst]
    simp only [Table.weight] at ht
    omega
  · rw [link_congr hlinks]
    exact h.links r
  · exact h.homed j x (hold hj).2 r hon

end free

/-! ### Allocation (R6) -/

theorem State.Upheld.unmapped {up : RadioIx → Prop} {down : Option RadioIx} {s : State} (h : s.Upheld up down) {a : Address}
    (ha : s.mapped a = none) :
    s.addressMap.find a.toNat = none := by
  rcases hm : s.addressMap.find a.toNat with _ | ix
  · rfl
  · obtain ⟨st, hst, -⟩ := h.named _ _ hm
    have hl : s.lookup a = some ix := hm
    unfold State.mapped at ha
    rw [hl] at ha
    dsimp only at ha
    rw [hst] at ha
    cases ha

theorem State.Upheld.allocated {up : RadioIx → Prop} {down : Option RadioIx} {s : State} (h : s.Upheld up down) {r : RadioIx}
    {a : Address} (ha : s.mapped a = none)
    (hr : s.radioFull r = false) (hu : s.links[r].state = .up) {ix : Nat} (hix : s.stations.lowestFree 4096 = some ix) (rate : RateClass) :
    (s.allocated r a rate ix).Upheld up down := by
  obtain ⟨hlt, hfree, -⟩ := Table.lowestFree_spec hix
  have hnone := h.unmapped ha
  have hst : (s.allocated r a rate ix).stations = s.stations.put ix (.fresh a r rate) := rfl
  have hmap : (s.allocated r a rate ix).addressMap = s.addressMap.put a.toNat ix := rfl
  have hcount : (s.allocated r a rate ix).stationCount = s.stationCount.set r (s.stationCount[r] + 1) := rfl
  have hrest : ChangesOnly [.stations, .addressMap, .stationCount, .counters] s (s.allocated r a rate ix) := by
    rintro (_ | _) h <;> first | rfl | simp at h
  generalize s.allocated r a rate ix = t at *
  have hlinks : t.links = s.links := hrest .links (by decide)
  have hgroups : t.groups = s.groups := hrest .groups (by decide)
  have hfind (j : Nat) : t.stations.find j = if j = ix then some (.fresh a r rate) else s.stations.find j := by rw [hst, Table.find_put]
  have hplace : (Station.fresh a r rate).place = .associated r none := rfl
  refine ⟨hst ▸ Table.wf_put _ _ h.wf, fun j x hj => ?_, hmap ▸ Table.wf_put _ _ h.mapWf, h.formed.congr hgroups, fun j x hj => ?_,
    fun b j hb => ?_, fun r' => ?_, fun r' => ?_, fun j x hj => ?_, h.sound.congr hgroups, fun r' c j => ?_, ?_, fun r' => ?_,
    fun j x hj r' hon => ?_, fun r' => by rw [link_congr hlinks]; exact h.ups r'⟩
  · rw [hfind] at hj
    split at hj
    next hji => exact hji ▸ hlt
    next => exact h.keys j x hj
  · rw [hfind] at hj
    rw [hmap, Table.find_put]
    split at hj
    next hji =>
      cases hj
      rw [hji]
      exact if_pos rfl
    next =>
      rw [if_neg fun he => ?_]
      · exact h.mapped j x hj
      · have hx := h.mapped j x hj
        rw [he, hnone] at hx
        cases hx
  · rw [hmap, Table.find_put] at hb
    rw [hfind]
    split at hb
    next hba =>
      cases hb
      exact ⟨_, if_pos rfl, hba.symm⟩
    next =>
      obtain ⟨x, hx, hxb⟩ := h.named b j hb
      rw [if_neg fun hji => ?_]
      · exact ⟨x, hx, hxb⟩
      · rw [hji, hfree] at hx
        cases hx
  · have ht := Table.total_put (Station.load r') h.wf ix (.fresh a r rate)
    rw [hfree, load_associated r' hplace] at ht
    simp only [hcount, vector_set_get, hst]
    simp only [Table.weight, Nat.add_zero] at ht
    rw [ht, h.count r', h.count r]
    by_cases hrr : r' = r
    · subst hrr
      simp
    · simp [hrr]
  · have hroom := room_of_radioFull hr
    have hlim := h.limit r'
    rw [link_congr hlinks]
    simp only [hcount, vector_set_get]
    by_cases hrr : r' = r
    · subst hrr
      rw [if_pos rfl]
      exact hroom
    · rw [if_neg hrr]
      exact hlim
  · rw [hrest .channels (by decide)]
    rw [hfind] at hj
    split at hj
    next =>
      cases hj
      exact ⟨Nat.zero_le _, List.nodup_nil, fun c hc => absurd hc List.not_mem_nil, Nat.zero_le _, fun _ => rfl⟩
    next => exact h.lawful j x hj
  · rw [inGroup_congr (group_congr hgroups r' c), hfind, h.membered]
    split
    next hji =>
      rw [hji, hfree]
      simp [belongs_iff, Station.fresh]
    next => rfl
  · have ht := Table.total_put (fun st : Station => st.held.length) h.wf ix (.fresh a r rate)
    have hp := h.pool
    have hfreeBuf : t.holdFree = s.holdFree := hrest .holdFree (by decide)
    rw [hfree, held_associated hplace] at ht
    rw [heldFrames_eq] at hp ⊢
    rw [hst, hfreeBuf]
    simp only [Table.weight, List.length_nil] at ht
    omega
  · rw [link_congr hlinks]
    exact h.links r'
  · rw [hfind] at hj
    split at hj
    next =>
      cases hj
      rw [(isOn_associated r' hplace).mp hon]
      exact .inl ((h.ups r).mp hu)
    next => exact h.homed j x hj r' hon

/-! ### Bindings that change (R96, R99, R101, R108) -/

section binding
variable {up : RadioIx → Prop} {down : Option RadioIx} {s : State}

theorem realigned_lawful {channels : Vector Channel 16} {st : Station} (h : st.Lawful channels) (b : Option Binding) :
    (st.realigned channels b).Lawful channels := by
  have hc := realigned_channels channels b st
  have hb := realigned_binding channels b st
  have hh := realigned_held channels b st
  have ht : (st.realigned channels b).tier = (st.bindTo b).tier := rfl
  generalize st.realigned channels b = x at hc hb hh ht
  refine ⟨?_, ?_, fun c hm => ?_, ?_, fun hn => ?_⟩
  · have hl := congrArg List.length hc
    rw [List.length_map] at hl
    rw [hl]
    refine (List.length_filter_le _ _).trans ?_
    rw [List.length_map]
    exact h.few
  · rw [hc]
    exact h.distinct.filter _
  · rw [hc, List.mem_filter] at hm
    rw [hb]
    exact hm.2
  · rw [hh, ht, List.length_drop]
    omega
  · rw [hb] at hn
    rw [ht, hn]
    rfl

theorem realign_edits {ix : Nat} {st : Station} (hw : s.stations.wf = true) (hf : s.stations.find ix = some st) (b : Option Binding)
    (hl : ∀ r, st.load r ≤ s.stationCount[r]) : Edits s (s.realign ix b) ix st (st.realigned s.channels b) := by
  have hframe := realign_frame s ix b
  have hcount : (s.realign ix b).stationCount = s.stationCount := hframe .stationCount (by decide)
  have hload (r : RadioIx) : Station.load r (st.realigned s.channels b) = st.load r := by
    rw [Station.load, Station.load, realigned_isOn]
  refine ⟨Table.ext_of_find (realign_wf b hw) (Table.wf_put _ _ hw) fun j => by rw [realign_station hf, Table.find_put],
    realigned_device s.channels b st, hframe .addressMap (by decide), hframe .channels (by decide), fun r => ?_, ?_, hframe.linksCarry,
    fun hs => realign_formed hs ix b, fun hs hm =>
      ⟨(realign_groups hf b hs).1, inGroup_left hm hf (realign_groups hf b hs).2 fun r c => ?_⟩⟩
  · rw [hload, Nat.sub_add_cancel (hl r)]
    simp only [hcount]
  · rw [realign_holdFree hf, realigned_held, List.length_drop]
    omega
  · rw [belongs_iff, belongs_iff, realigned_groupRadio, realigned_channels, List.mem_filter]
    cases permitted s.channels b c <;> simp

theorem State.Upheld.realign (h : s.Upheld up down) (ix : Nat) (b : Option Binding) : (s.realign ix b).Upheld up down := by
  rcases hf : s.stations.find ix with _ | st
  · rwa [realign_none hf]
  · refine h.edited hf (realign_edits h.wf hf b (h.load_le hf)) (realigned_lawful (h.lawful ix st hf) b) fun r h1 h2 => ?_
    rw [realigned_isOn, h2] at h1
    cases h1

theorem State.Upheld.unbind (h : s.Upheld up down) (slot ix : Nat) : (s.unbind slot ix).Upheld up down := by
  have hd := h.of_frame (dropBound_frame s slot ix) (dropBound_frame s slot ix).linksCarry
  rw [unbind_eq]
  exact (hd.realign ix none).of_frame (count_frame _ _) (.same (State.count_links _ _))

theorem State.Upheld.unbindAll (h : s.Upheld up down) (slot : Nat) (l : List Nat) : (s.unbindAll slot l).Upheld up down :=
  foldl_induction (P := fun s => s.Upheld up down) (fun _ ix h => h.unbind slot ix) l h

theorem State.Upheld.reload (h : s.Upheld up down) (slot : Nat) (p : Pass) (ix : Nat) : (s.reload slot p ix).Upheld up down := by
  rw [reload_eq]
  exact (h.realign ix _).of_frame (count_frame _ _) (.same (State.count_links _ _))

theorem State.Upheld.setPass (h : s.Upheld up down) (slot : Nat) (p : Pass) : (s.setPass slot p).Upheld up down :=
  h.of_frame (setPass_frame s slot p) (setPass_frame s slot p).linksCarry

theorem State.Upheld.endPass (h : s.Upheld up down) (slot : Nat) (p : Pass) (e : PassState) : (s.endPass slot p e).Upheld up down :=
  (h.setPass slot _).unbindAll slot p.bound

/-- A station whose place stands and which is lawful with its new binding and flags. -/
theorem State.Upheld.refitted (h : s.Upheld up down) {ix : Nat} {st st' : Station} (hf : s.stations.find ix = some st)
    (hd : st'.device = st.device) (hp : st'.place = st.place) (hs : st'.subs.map Subscription.channel = st.subs.map Subscription.channel)
    (hl : st'.Lawful s.channels) : (s.setStation ix st').Upheld up down := by
  have hload (r : RadioIx) : st'.load r = st.load r := by rw [Station.load, Station.load, isOn_congr hp]
  refine h.edited hf ⟨rfl, hd, rfl, rfl, fun r => ?_, by rw [held_congr hp]; rfl, .same rfl, fun hs => hs.congr (by rfl), fun h1 h2 =>
    ⟨h1.congr (by rfl), inGroup_same h2 hf rfl (belongs_congr (groupRadio_congr hp) hs)⟩⟩ hl fun r h1 h2 => ?_
  · rw [hload, Nat.sub_add_cancel (h.load_le hf r)]
    rfl
  · rw [isOn_congr hp, h2] at h1
    cases h1

theorem permitted_none {channels : Vector Channel 16} {c : ChannelIx} (h : permitted channels none c = true) (b : Option Binding) :
    permitted channels b c = true := by
  unfold permitted at h ⊢
  simp only [Bool.or_false, Bool.and_eq_true] at h
  rw [h.1, h.2]
  rfl

/-- A station without a binding is lawful with any. -/
theorem Station.Lawful.bound {channels : Vector Channel 16} {st : Station} (h : st.Lawful channels) (hu : st.binding = none) (b : Binding) :
    ((st.bindTo (some b)).reflagged channels).Lawful channels := by
  have hc : ((st.bindTo (some b)).reflagged channels).subs.map Subscription.channel = st.subs.map Subscription.channel :=
    reflagged_channels channels (st.bindTo (some b))
  have hheld : ((st.bindTo (some b)).reflagged channels).held = st.held := held_congr (bindTo_place (some b) st)
  refine ⟨?_, hc ▸ h.distinct, fun c hm => ?_, ?_, fun hn => ?_⟩
  · have hl := congrArg List.length hc
    rw [List.length_map, List.length_map] at hl
    exact hl ▸ h.few
  · rw [hc] at hm
    exact permitted_none (hu ▸ h.permitted c hm) _
  · have hd := h.depth
    have hle : st.tier.holdDepth ≤ b.tier.holdDepth := by
      rw [h.guest hu]
      cases b.tier <;> decide
    rw [hheld]
    exact hd.trans hle
  · cases hn

end binding

end Sys2Proof.Machine
end

section
/-! PROOFS. Subscriptions and channels keep the invariant of stations: an entry added or dropped, a channel opened anew or closed. -/

namespace Sys2Proof.Machine

/- The whole text is elaborated in one process: its proofs in turn, so that their threads' stacks stay within its memory. -/
set_option Elab.async false

theorem without_channels (c : ChannelIx) (st : Station) :
    (st.without c).subs.map Subscription.channel = (st.subs.map Subscription.channel).filter fun d => d != c := by
  rw [Station.without, List.filter_map]
  rfl

theorem Station.Lawful.without {channels : Vector Channel 16} {st : Station} (h : st.Lawful channels) (c : ChannelIx) :
    (st.without c).Lawful channels := by
  have hc := without_channels c st
  refine ⟨(List.length_filter_le _ _).trans h.few, hc ▸ h.distinct.filter _, fun d hd => ?_, h.depth, h.guest⟩
  rw [hc] at hd
  exact h.permitted d (List.mem_of_mem_filter hd)

/-- An entry dropped, and the station with it from the group it is in (R113, R119). -/
theorem dropEntry_edits {s : State} {ix : Nat} {st : Station} (hl : ∀ r, st.load r ≤ s.stationCount[r])
    (hf : s.stations.find ix = some st) (c : ChannelIx) : Edits s (s.dropEntry ix st c) ix st (st.without c) := by
  have hframe := dropEntry_frame s ix st c
  have hcount : (s.dropEntry ix st c).stationCount = s.stationCount := hframe .stationCount (by decide)
  refine ⟨dropEntry_stations c s ix st, rfl, hframe .addressMap (by decide), hframe .channels (by decide), fun r => ?_, ?_,
    hframe.linksCarry, fun hs => ?_, fun hs hm => ?_⟩
  · have hload : (st.without c).load r = st.load r := rfl
    rw [hload, Nat.sub_add_cancel (hl r)]
    simp only [hcount]
  · rw [hframe .holdFree (by decide)]
    rfl
  · unfold State.dropEntry
    dsimp only
    split
    · exact hs.congr (by rfl)
    · exact State.GroupsFormed.leaveGroup (hs.congr (by rfl)) _ c ix
  · have hset : (s.setStation ix (st.without c)).GroupsSound := hs.congr (by rfl)
    have hdrop : s.dropEntry ix st c = (s.setStation ix (st.without c)).leaveGroups st.groupRadio [⟨c, false, false⟩] ix := by
      unfold State.dropEntry
      cases st.groupRadio with
      | none => rfl
      | some r => rfl
    rw [hdrop]
    refine ⟨hset.leaveGroups _ _ _, inGroup_left (P := fun r c' => st.groupRadio = some r ∧ c' ∈ [c]) hm hf
      (fun r c' => leaveGroups_group hset st.groupRadio [⟨c, false, false⟩] ix r c') fun r c' => ?_⟩
    have hgr : (st.without c).groupRadio = st.groupRadio := rfl
    rw [belongs_iff, belongs_iff, without_channels, hgr, List.mem_filter, List.mem_singleton, bne_iff_ne]
    constructor
    · rintro ⟨h1, h2, h3⟩
      exact ⟨⟨h1, h2⟩, fun hp => h3 hp.2⟩
    · rintro ⟨⟨h1, h2⟩, h3⟩
      exact ⟨h1, h2, fun hp => h3 ⟨h1, hp⟩⟩

section entry
variable {up : RadioIx → Prop} {down : Option RadioIx} {s : State} (h : s.Upheld up down) {ix : Nat} {st : Station}
    (hf : s.stations.find ix = some st)
include h hf

/-- An entry appended for a channel that is permitted and not yet subscribed to (R118). -/
theorem State.Upheld.addEntry {r : RadioIx} (hr : st.groupRadio = some r) {c : ChannelIx} (he : st.entry c = none)
    (hfew : st.subs.length < Config.subscriptionLimit) (hp : permitted s.channels st.binding c = true) :
    (s.addEntry r ix st c).Upheld up down := by
  have hc : c ∉ st.subs.map Subscription.channel := fun hm => by
    rw [← entry_isSome_iff, he] at hm
    cases hm
  have hlaw := h.lawful ix st hf
  unfold State.addEntry
  generalize hst' : { st with subs := st.subs ++ [({ channel := c, awaitingKey := true, paused := pausedNow s.channels st c } :
      Subscription)] } = st'
  have hchannels : st'.subs.map Subscription.channel = st.subs.map Subscription.channel ++ [c] := by
    rw [← hst', List.map_append]
    rfl
  have hplace : st'.place = st.place := by rw [← hst']
  have hbinding : st'.binding = st.binding := by rw [← hst']
  have htier : st'.tier = st.tier := by rw [← hst']
  have hlen : st'.subs.length = st.subs.length + 1 := by rw [← hst', List.length_append, List.length_singleton]
  have hload (r : RadioIx) : st'.load r = st.load r := by rw [Station.load, Station.load, isOn_congr hplace]
  have hgr := groupRadio_congr hplace
  have hframe := (joinGroup_frame (s.setStation ix st') r c ix).step (count_frame _ (.replay .added))
  have hjoin := joinGroup_group (s.setStation ix st') r c ix
  have hout : ¬ (s.setStation ix st').inGroup r c ix := by
    rw [inGroup_congr (State.setStation_group s ix st' r c), inGroup_self h.membered hf, belongs_iff]
    exact fun hb => hc hb.2
  refine h.edited hf (st' := st') ⟨hframe .stations (by decide), by rw [← hst'], hframe .addressMap (by decide),
    hframe .channels (by decide), fun r' => ?_, ?_, .same (hframe .links (by decide)), fun hs => ?_, fun hs hm => ⟨?_, ?_⟩⟩
    ⟨?_, ?_, fun d hd => ?_, ?_, fun hn => ?_⟩ fun r' h1 h2 => ?_
  · have hcount : (((s.setStation ix st').joinGroup r c ix).count (.replay .added)).stationCount = s.stationCount :=
      hframe .stationCount (by decide)
    rw [hload, Nat.sub_add_cancel (h.load_le hf r')]
    simp only [hcount]
  · rw [held_congr hplace, hframe .holdFree (by decide)]
    rfl
  · exact (State.GroupsFormed.joinGroup (hs.congr (by rfl)) r c ix).congr (State.count_groups _ _)
  · exact (State.GroupsSound.joinGroup (hs.congr (by rfl)) r c hout).congr (State.count_groups _ _)
  · refine inGroup_joined (P := fun r' c' => r' = r ∧ c' = c) (u := s.setStation ix st')
      (inGroup_same (st' := st) hm hf rfl fun _ _ => Iff.rfl)
      (fun r' c' => by rw [State.count_group, hjoin]) fun r' c' => ?_
    rw [belongs_iff, belongs_iff, hgr, hchannels, hr, List.mem_append, List.mem_singleton, Option.some_inj]
    constructor
    · rintro ⟨rfl, hm | rfl⟩
      · exact .inl ⟨rfl, hm⟩
      · exact .inr ⟨rfl, rfl⟩
    · rintro (⟨rfl, hm⟩ | ⟨rfl, rfl⟩)
      · exact ⟨rfl, .inl hm⟩
      · exact ⟨rfl, .inr rfl⟩
  · rw [hlen]
    exact hfew
  · rw [hchannels]
    exact hlaw.distinct.append (List.nodup_singleton c) (List.disjoint_singleton.mpr hc)
  · rw [hchannels, List.mem_append, List.mem_singleton] at hd
    rw [hbinding]
    rcases hd with hd | rfl
    · exact hlaw.permitted d hd
    · exact hp
  · rw [held_congr hplace, htier]
    exact hlaw.depth
  · rw [htier]
    exact hlaw.guest (hbinding ▸ hn)
  · rw [isOn_congr hplace, h2] at h1
    cases h1

theorem State.Upheld.dropEntry (c : ChannelIx) : (s.dropEntry ix st c).Upheld up down := by
  refine h.edited hf (dropEntry_edits (h.load_le hf) hf c) ((h.lawful ix st hf).without c) fun r h1 h2 => ?_
  have h3 : (st.without c).isOn r = st.isOn r := rfl
  rw [h3, h2] at h1
  cases h1

end entry

/-! ### Channels with new attributes (R112, R113, R125) -/

/-- A state with other channel records. -/
def State.withChannels (s : State) (channels : Vector Channel 16) : State := { s with channels := channels }

theorem Edits.withChannels {s t : State} {ix : Nat} {st st' : Station} (e : Edits s t ix st st') (channels : Vector Channel 16) :
    Edits (s.withChannels channels) (t.withChannels channels) ix st st' :=
  ⟨e.stations, e.device, e.addressMap, rfl, e.counts, e.pool, e.links, fun hs => (e.formed (hs.congr (by rfl))).congr (by rfl),
    fun hs hm => by
      obtain ⟨h1, h2⟩ := e.groups (hs.congr (by rfl)) hm
      exact ⟨h1.congr (by rfl), h2⟩⟩

/-- The channel records matter to the invariant only in what they permit. -/
theorem State.Upheld.rechannel {up : RadioIx → Prop} {down : Option RadioIx} {s : State} {channels : Vector Channel 16}
    (h : (s.withChannels channels).Upheld up down)
    (hp : ∀ ix st, s.stations.find ix = some st → ∀ c ∈ st.subs.map Subscription.channel, permitted s.channels st.binding c = true) :
    s.Upheld up down where
  wf := h.wf
  keys := h.keys
  mapWf := h.mapWf
  formed := State.GroupsFormed.congr (s := s.withChannels channels) (by rfl) h.formed
  mapped := h.mapped
  named := h.named
  count := h.count
  limit := h.limit
  lawful ix st hf := by
    obtain ⟨h1, h2, -, h4, h5⟩ := h.lawful ix st hf
    exact ⟨h1, h2, hp ix st hf, h4, h5⟩
  sound := State.GroupsSound.congr (s := s.withChannels channels) (by rfl) h.sound
  membered := h.membered
  pool := h.pool
  links := h.links
  homed := h.homed
  ups := h.ups

/-- Attributes of one channel that permit at least as much to those who are subscribed to it. -/
theorem State.Upheld.setChannel {up : RadioIx → Prop} {down : Option RadioIx} {s : State} (h : s.Upheld up down) {c : ChannelIx}
    {ch : Channel}
    (hc : s.channels[c].state = .live → ch.state = .live ∧ (s.channels[c].openAll = true → ch.openAll = true)) :
    (s.setChannel c ch).Upheld up down := by
  refine State.Upheld.rechannel (channels := s.channels) h fun ix st hf d hd => ?_
  have hp := (h.lawful ix st hf).permitted d hd
  show permitted (s.channels.set c ch) st.binding d = true
  unfold permitted at hp ⊢
  rw [vector_set_get]
  split
  next hdc =>
    subst hdc
    simp only [Bool.and_eq_true, Bool.or_eq_true, decide_eq_true_eq] at hp ⊢
    obtain ⟨h1, h2⟩ := hc hp.1
    exact ⟨h1, hp.2.imp_left h2⟩
  next => exact hp

theorem reflaggedFor_channels (channels : Vector Channel 16) (c : ChannelIx) (st : Station) :
    (st.reflaggedFor channels c).subs.map Subscription.channel = st.subs.map Subscription.channel := by
  unfold Station.reflaggedFor
  rw [List.map_map]
  refine List.map_congr_left fun e _ => ?_
  dsimp only [Function.comp_apply]
  split <;> rfl

theorem State.Upheld.examine {up : RadioIx → Prop} {down : Option RadioIx} {s : State} {channels : Vector Channel 16}
    (h : (s.withChannels channels).Upheld up down)
    (c : ChannelIx) (oc lc : Bool) (ix : Nat) : ((State.examine c oc lc s ix).withChannels channels).Upheld up down := by
  rcases hf : s.stations.find ix with _ | st
  · rwa [examine_none c oc lc s ix hf]
  · have hf' : (s.withChannels channels).stations.find ix = some st := hf
    rw [examine_found c oc lc s ix hf]
    split
    · have hd : ((s.dropEntry ix st c).withChannels channels).Upheld up down := by
        refine h.edited hf' ((dropEntry_edits (s := s) (h.load_le hf') hf c).withChannels channels) ((h.lawful ix st hf').without c)
            fun r h1 h2 => ?_
        have h3 : (st.without c).isOn r = st.isOn r := rfl
        rw [h3, h2] at h1
        cases h1
      exact hd.congr rfl rfl rfl rfl rfl rfl (.refl _)
    · split
      · exact h.restated hf' rfl rfl rfl (reflaggedFor_channels s.channels c st) rfl (fun _ => rfl) rfl
      · exact h

theorem examined_lawful {s : State} {st : Station} (h : st.Lawful s.channels) {c : ChannelIx} (hc : s.channels[c].state = .live)
    (o l : Bool) :
    ∀ d ∈ (st.examined (s.reopened c o l) c (s.channels[c].openAll && !o) (s.channels[c].seatLocked != l)).subs.map Subscription.channel,
      permitted (s.reopened c o l) st.binding d = true := by
  have hother (d : ChannelIx) (hd : d ∈ st.subs.map Subscription.channel) (hne : d ≠ c) :
      permitted (s.reopened c o l) st.binding d = true := by
    have hp := h.permitted d hd
    unfold permitted at hp ⊢
    rw [State.reopened, vector_set_get, if_neg hne]
    exact hp
  have hself (hd : c ∈ st.subs.map Subscription.channel) (hl : st.loses (s.reopened c o l) c (s.channels[c].openAll && !o) = false) :
      permitted (s.reopened c o l) st.binding c = true := by
    have hp := h.permitted c hd
    rw [Station.loses, forbiddenTo, (entry_isSome_iff st c).mpr hd, Bool.true_and] at hl
    rcases ho : s.channels[c].openAll && !o with _ | _
    · unfold permitted at hp ⊢
      rw [State.reopened, vector_set_get, if_pos rfl]
      simp only [hc, decide_true, Bool.true_and, Bool.or_eq_true] at hp ⊢
      refine hp.imp_left fun hopen => ?_
      rw [hopen, Bool.true_and, Bool.not_eq_false'] at ho
      exact ho
    · rw [ho, Bool.true_and, Bool.not_eq_false'] at hl
      exact hl
  intro d hd
  unfold Station.examined at hd
  split at hd
  · rw [without_channels, List.mem_filter, bne_iff_ne] at hd
    exact hother d hd.1 hd.2
  next hl =>
    have hd' : d ∈ st.subs.map Subscription.channel := by
      split at hd
      · rwa [reflaggedFor_channels] at hd
      · exact hd
    by_cases hdc : d = c
    · subst hdc
      exact hself hd' (Bool.eq_false_iff.mpr hl)
    · exact hother d hd' hdc

theorem examined_binding (channels : Vector Channel 16) (c : ChannelIx) (oc lc : Bool) (st : Station) :
    (st.examined channels c oc lc).binding = st.binding := by
  unfold Station.examined
  split
  · rfl
  · split <;> rfl

theorem State.Upheld.openLive {s : State} (h : s.Upheld up none) {c : ChannelIx} (hc : s.channels[c].state = .live) (o l : Bool) :
    (s.openLive c o l).2.Upheld up none := by
  have hexamined : State.Upheld up none (((s.reopen c o l).examineAll c (s.channels[c].openAll && !o) (s.channels[c].seatLocked != l)
      (s.stations.map Prod.fst)).withChannels s.channels) :=
    foldl_induction (P := fun t => (t.withChannels s.channels).Upheld up none) (fun t ix ht => ht.examine c _ _ ix) _ h
  have hcounted : ((s.openLive c o l).2.withChannels s.channels).Upheld up none := by
    rw [openLive_owned]
    exact hexamined.congr rfl rfl rfl rfl rfl rfl (.refl _)
  refine hcounted.rechannel fun ix st hf d hd => ?_
  have hchannels : (s.openLive c o l).2.channels = s.reopened c o l := by
    rw [openLive_owned, State.count_channels, examineAll_channels]
    rfl
  rw [openLive_station c o l h.wf, Option.map_eq_some_iff] at hf
  obtain ⟨x, hx, rfl⟩ := hf
  rw [hchannels, examined_binding]
  exact examined_lawful (h.lawful ix x hx) hc o l d hd

/-! ### A channel closed (R114) -/

theorem State.Upheld.closeLive {s : State} (h : s.Upheld up none) (c : ChannelIx) : (s.closeLive c).2.Upheld up none := by
  obtain ⟨hchannels, hstations, hgone, hrest, -⟩ := closeLive_effect s c
  have hframe := closeLive_frame s c
  have hformed : (s.closeLive c).2.GroupsFormed :=
    State.GroupsFormed.congr (State.count_groups _ _) (State.GroupsFormed.discardChannel (h.formed.congr (by rfl)) c)
  have hsound : (s.closeLive c).2.GroupsSound :=
    State.GroupsSound.congr (State.count_groups _ _) (State.GroupsSound.discardChannel (h.sound.congr (by rfl)) c)
  generalize (s.closeLive c).2 = t at *
  have hfind (j : Nat) : t.stations.find j = (s.stations.find j).map (Station.without c) := by
    rw [hstations]
    exact Table.find_map s.stations (Station.without c) j
  have hold {j : Nat} {x : Station} (hj : t.stations.find j = some x) : ∃ st, s.stations.find j = some st ∧ st.without c = x := by
    rwa [hfind, Option.map_eq_some_iff] at hj
  have hlinks : t.links = s.links := hframe .links (by decide)
  have hcount : t.stationCount = s.stationCount := hframe .stationCount (by decide)
  have hmap : t.addressMap = s.addressMap := hframe .addressMap (by decide)
  refine ⟨hstations ▸ Table.wf_map (Station.without c) h.wf, fun j x hj => ?_, hmap ▸ h.mapWf, hformed, fun j x hj => ?_, fun a j ha => ?_,
    fun r => ?_, fun r => ?_, fun j x hj => ?_, hsound, fun r d j => ?_, ?_, fun r => ?_, fun j x hj r hon => ?_,
    fun r => by rw [link_congr hlinks]; exact h.ups r⟩
  · obtain ⟨st, hst, -⟩ := hold hj
    exact h.keys j st hst
  · obtain ⟨st, hst, rfl⟩ := hold hj
    rw [hmap]
    exact h.mapped j st hst
  · obtain ⟨st, hst, hsa⟩ := h.named a j (hmap ▸ ha)
    exact ⟨st.without c, by rw [hfind, hst]; rfl, hsa⟩
  · simp only [hcount]
    rw [h.count r, hstations]
    exact (Table.total_map (Station.load r) (Station.without c) s.stations).symm
  · rw [link_congr hlinks]
    simp only [hcount]
    exact h.limit r
  · obtain ⟨st, hst, rfl⟩ := hold hj
    obtain ⟨h1, h2, h3, h4, h5⟩ := (h.lawful j st hst).without c
    refine ⟨h1, h2, fun d hd => ?_, h4, h5⟩
    have hp := h3 d hd
    rw [without_channels, List.mem_filter, bne_iff_ne] at hd
    unfold permitted at hp ⊢
    rw [hchannels, vector_set_get, if_neg hd.2]
    exact hp
  · have hbelongs (st : Station) : (st.without c).belongs r d = true ↔ st.belongs r d = true ∧ d ≠ c := by
      have hgr : (st.without c).groupRadio = st.groupRadio := rfl
      rw [belongs_iff, belongs_iff, without_channels, hgr, List.mem_filter, bne_iff_ne, and_assoc]
    rw [hfind]
    by_cases hdc : d = c
    · subst hdc
      rw [State.inGroup, hgone]
      simp [hbelongs]
    · rw [inGroup_congr (hrest r d hdc), h.membered r d j]
      simp [hbelongs, hdc]
  · rw [hframe .holdFree (by decide), heldFrames_eq, hstations]
    exact (congrArg (s.holdFree + ·) (Table.total_map (fun st : Station => st.held.length) (Station.without c) s.stations)).trans h.pool
  · rw [link_congr hlinks]
    exact h.links r
  · obtain ⟨st, hst, rfl⟩ := hold hj
    exact h.homed j st hst r hon

/-! ### The tables emptied (R150) -/

theorem State.Upheld.cleared {s : State} (h : s.Upheld up none) : s.cleared.Upheld up none where
  wf := rfl
  keys _ _ hj := by cases hj
  mapWf := rfl
  formed := ⟨rfl, fun _ he => absurd he List.not_mem_nil⟩
  mapped _ _ hj := by cases hj
  named _ _ ha := by cases ha
  count r := by
    show (Vector.replicate 64 0)[r] = 0
    simp
  limit r := by
    show (Vector.replicate 64 0)[r] ≤ _
    simp
  lawful _ _ hj := by cases hj
  sound := ⟨fun _ _ _ hg => by cases hg⟩
  membered r c j := by
    refine ⟨fun ⟨g, hg, _⟩ => ?_, fun ⟨st, hf, _⟩ => ?_⟩
    · cases hg
    · cases hf
  pool := rfl
  links := h.links
  homed _ _ hj := by cases hj
  ups := h.ups

end Sys2Proof.Machine
end

section
/-! PROOFS. The exit of a link from UP, station by station (R15, R29, R60 to R62). -/

namespace Sys2Proof.Machine

/- The whole text is elaborated in one process: its proofs in turn, so that their threads' stacks stay within its memory. -/
set_option Elab.async false

/-! ### Nothing is sent to a radio (R29) -/

/-- From `s` to `t` no control message has gone to a radio. -/
def SilentTo (r : RadioIx) (s t : State) : Prop := ∃ w, t.wire = s.wire ++ w ∧ ∀ bytes, Output.control r bytes ∉ w

section silent
variable {r : RadioIx} {s t u : State}

theorem SilentTo.same (h : t.wire = s.wire) : SilentTo r s t := ⟨[], by rw [h, List.append_nil], fun _ => List.not_mem_nil⟩

theorem SilentTo.refl (s : State) : SilentTo r s s := .same rfl

theorem SilentTo.trans (h : SilentTo r s t) (k : SilentTo r t u) : SilentTo r s u := by
  obtain ⟨v, hv, hv'⟩ := h
  obtain ⟨w, hw, hw'⟩ := k
  exact ⟨v ++ w, by rw [hw, hv, List.append_assoc], fun b hb => (List.mem_append.mp hb).elim (hv' b) (hw' b)⟩

theorem ChangesOnly.silent {fs : List Field} (h : ChangesOnly fs s t) (hf : Field.wire ∉ fs := by decide) : SilentTo r s t :=
  .same (h .wire hf)

theorem SilentTo.emit (s : State) {o : Output} (h : ∀ bytes, o ≠ .control r bytes) : SilentTo r s (s.emit o) :=
  ⟨[o], State.emit_wire s o, fun b hb => h b (List.mem_singleton.mp hb).symm⟩

theorem SilentTo.send (s : State) {n : RadioIx} (h : n ≠ r) (m : ControlOut) : SilentTo r s (s.send n m) := by
  have hne (bytes bytes' : List Byte) : Output.control n bytes' ≠ .control r bytes := fun he => h (by cases he; rfl)
  have htransmit (l : SeatLink) : SilentTo r s (s.transmit n l m) := (SilentTo.emit s fun b => hne b _).trans (.same rfl)
  have hinject (l : SeatLink) (k : FaultKind) : SilentTo r s (s.inject n l k m) := by
    cases k with
    | corruptCrc => exact (SilentTo.emit s fun b => hne b _).trans (.same rfl)
    | skipSequence => exact (SilentTo.emit s fun b => hne b _).trans (.same rfl)
    | dropMessage => exact .same rfl
  unfold State.send
  dsimp only
  split
  · split
    · exact (htransmit _).trans (.same (State.count_wire _ _))
    · split
      · exact (hinject _ _).trans (.same (by rw [State.count_wire, State.count_wire]))
      · exact SilentTo.trans (t := s.transmit n _ m) (htransmit _) (.same (State.count_wire _ _))
  · exact .same (State.count_wire _ _)

theorem SilentTo.sendAdmit (s : State) {n : RadioIx} (h : n ≠ r) (ix : Nat) : SilentTo r s (s.sendAdmit n ix) := by
  unfold State.sendAdmit
  split
  · exact .refl s
  · exact .send s h _

theorem SilentTo.driveLine (s : State) (lane : LaneIx) (up : Bool) : SilentTo r s (s.driveLine lane up) := by
  have h0 : SilentTo r s { s with notices := s.notices.set lane { s.notices[lane] with lineUp := up } } := .same rfl
  unfold State.driveLine
  dsimp only
  split
  · exact h0
  · split
    · split
      · refine SilentTo.trans (h0.trans (SilentTo.emit _ fun b hb => ?_)) (.same rfl)
        cases hb
      · exact h0
    · exact h0.trans (.same rfl)

theorem SilentTo.settle (s : State) (before : Vector Notice 4) : SilentTo r s (s.settle before) := by
  unfold State.settle
  generalize List.finRange 4 = lanes
  induction lanes generalizing s with
  | nil => exact .refl s
  | cons a lanes ih =>
    refine SilentTo.trans ?_ (ih _)
    unfold State.evaluateLine
    split
    · exact .refl s
    · split
      · exact .refl s
      · exact .driveLine s _ _

theorem SilentTo.complete (s : State) (ix : Nat) (st : Station) (o : RadioIx) {n : RadioIx} (h : n ≠ r) (held : List FanFrame) :
    SilentTo r s (s.complete ix st o n held) := by
  have harr : SilentTo r s (s.arrived ix st o n held) :=
    ((SilentTo.same rfl).trans (SilentTo.sendAdmit ((s.setStation ix _).lowerCount o) h ix)).trans (.same (flush_wire _ _ _))
  exact (harr.trans (migrated_frame s ix st o n held).silent).trans (complete_frame' s ix st o n held).silent

end silent

/-! ### One station (R15, R60 to R62) -/

/-- A station after the exit of radio r's link: orphaned where it was ASSOCIATED with the radio or in a return on it, completed where its
handoff was away from the radio, back on its old radio where the handoff was towards it. -/
def Station.exited (s : State) (r : RadioIx) (st : Station) : Station :=
  match st.place with
  | .associated o _ => if o = r then st.orphaned s else st
  | .handoff o n _ p _ =>
    if o = r then (if n = r then st.orphaned s else st.completedTo s r n)
    else if n = r then { st with place := .associated o p } else st
  | .orphan _ _ => st

theorem exited_congr {s t : State} (hc : t.channels = s.channels) (hs : t.settings = s.settings) (hn : t.sectorTime = s.sectorTime)
    (r : RadioIx) (st : Station) : st.exited t r = st.exited s r := by
  have hcompleted (o n : RadioIx) : st.completedTo t o n = st.completedTo s o n := completedTo_congr hc hs hn o n st
  have horphaned : st.orphaned t = st.orphaned s := by
    rw [Station.orphaned, Station.orphaned, State.orphanDeadline, State.orphanDeadline, State.after, State.after, hs, hn]
  unfold Station.exited
  split
  · rw [horphaned]
  · rw [horphaned, hcompleted]
  · rfl

section exited
variable (s : State) {r : RadioIx} {st : Station}

theorem exited_associated {p : Option Prior} (h : st.place = .associated r p) : st.exited s r = st.orphaned s := by
  unfold Station.exited
  rw [h]
  exact if_pos rfl

theorem exited_return {d : Word} {p : Option Prior} {held : List FanFrame} (h : st.place = .handoff r r d p held) :
    st.exited s r = st.orphaned s := by
  unfold Station.exited
  rw [h]
  exact (if_pos rfl).trans (if_pos rfl)

theorem exited_outward {n : RadioIx} {d : Word} {p : Option Prior} {held : List FanFrame} (h : st.place = .handoff r n d p held)
    (hn : n ≠ r) : st.exited s r = st.completedTo s r n := by
  unfold Station.exited
  rw [h]
  exact (if_pos rfl).trans (if_neg hn)

theorem exited_towards {o : RadioIx} {d : Word} {p : Option Prior} {held : List FanFrame} (h : st.place = .handoff o r d p held)
    (ho : o ≠ r) : st.exited s r = { st with place := .associated o p } := by
  unfold Station.exited
  rw [h]
  exact (if_neg ho).trans (if_pos rfl)

theorem exited_off (h : st.isOn r = false) : st.exited s r = st := by
  unfold Station.exited
  unfold Station.isOn at h
  split
  next o p hp =>
    rw [hp] at h
    exact if_neg fun he => by simp [he] at h
  next o n d p held hp =>
    rw [hp] at h
    rw [if_neg fun he => by simp [he] at h, if_neg fun he => by simp [he] at h]
  next => rfl

theorem exited_isOn : (st.exited s r).isOn r = false := by
  obtain ⟨_, place, _, _, _, _⟩ := st
  cases place with
  | associated o p =>
    by_cases ho : o = r
    · subst ho
      rw [exited_associated s rfl]
      rfl
    · unfold Station.exited
      dsimp only
      rw [if_neg ho]
      simp [Station.isOn, ho]
  | handoff o n d p held =>
    by_cases ho : o = r
    · subst ho
      by_cases hn : n = o
      · subst hn
        rw [exited_return s rfl]
        rfl
      · rw [exited_outward s rfl hn]
        show (n == o) = false
        simp [hn]
    · unfold Station.exited
      dsimp only
      rw [if_neg ho]
      by_cases hn : n = r
      · rw [if_pos hn]
        simp [Station.isOn, ho]
      · rw [if_neg hn]
        simp [Station.isOn, ho, hn]
  | orphan o d => rfl

end exited

/-- What the exit of radio r's link does to a list of stations (R15, R60 to R62). -/
structure Exits (up : RadioIx → Prop) (r : RadioIx) (l : List Nat) (s t : State) : Prop where
  frame : ChangesOnly exitFields s t
  steady : Steady s t
  upheld : t.Upheld up (some r)
  silent : SilentTo r s t
  found : ∀ j, t.stations.find j = if j ∈ l then (s.stations.find j).map (Station.exited s r) else s.stations.find j
  noticed : ∀ ix ∈ l, ∀ st n d p held, s.stations.find ix = some st → st.place = .handoff r n d p held → n ≠ r → Noticed t .handoffForced

section step
variable {up : RadioIx → Prop} {r : RadioIx} {s t u : State} {ix : Nat} {l : List Nat}

theorem Exits.nil (h : s.Upheld up (some r)) : Exits up r [] s s :=
  ⟨.refl _ _, .refl _, h, .refl s, fun _ => rfl, fun _ hm => absurd hm List.not_mem_nil⟩

theorem Exits.trans (h : Exits up r [ix] s t) (k : Exits up r l t u) (hix : ix ∉ l) : Exits up r (ix :: l) s u where
  frame := h.frame.trans k.frame
  steady := h.steady.trans k.steady
  upheld := k.upheld
  silent := h.silent.trans k.silent
  found j := by
    have hc : Station.exited t r = Station.exited s r := funext fun st =>
      exited_congr (h.frame .channels (by decide)) (h.frame .settings (by decide)) (h.frame .sectorTime (by decide)) r st
    rw [k.found, h.found, hc]
    by_cases hj : j = ix
    · subst hj
      simp [hix]
    · simp [hj]
  noticed j hj st n d p held hf hp hn := by
    rcases List.mem_cons.mp hj with rfl | hjl
    · exact k.steady.noticed (h.noticed j (List.mem_singleton.mpr rfl) st n d p held hf hp hn)
    · refine k.noticed j hjl st n d p held ?_ hp hn
      rw [h.found, if_neg (by rw [List.mem_singleton]; rintro rfl; exact hix hjl)]
      exact hf

theorem Exits.one {st : Station} (hf : s.stations.find ix = some st) (hframe : ChangesOnly exitFields s t) (hsteady : Steady s t)
    (hup : t.Upheld up (some r)) (hsilent : SilentTo r s t) (hst : t.stations = s.stations.put ix (st.exited s r))
    (hnoted : ∀ n d p held, st.place = .handoff r n d p held → n ≠ r → Noticed t .handoffForced) : Exits up r [ix] s t where
  frame := hframe
  steady := hsteady
  upheld := hup
  silent := hsilent
  found j := by
    rw [hst, Table.find_put]
    by_cases hj : j = ix
    · subst hj
      simp [hf]
    · simp [hj]
  noticed j hj x n d p held hx hp hn := by
    rw [List.mem_singleton.mp hj, hf] at hx
    cases hx
    exact hnoted n d p held hp hn

theorem Exits.skip (h : s.Upheld up (some r)) (hskip : ∀ st, s.stations.find ix = some st → st.isOn r = false) : Exits up r [ix] s s where
  frame := .refl _ _
  steady := .refl _
  upheld := h
  silent := .refl s
  found j := by
    by_cases hj : j = ix
    · subst hj
      rw [if_pos (List.mem_singleton.mpr rfl)]
      rcases hf : s.stations.find j with _ | st
      · rfl
      · rw [Option.map_some, exited_off s (hskip st hf)]
    · rw [if_neg (by rwa [List.mem_singleton])]
  noticed j hj x n d p held hx hp _ := by
    have hoff := hskip x (List.mem_singleton.mp hj ▸ hx)
    rw [(isOn_handoff r hp).mpr (.inl rfl)] at hoff
    cases hoff

/-- The exit of a link treats one station as `Exits` has it. -/
theorem exitStation_exits (h : s.Upheld up (some r)) (hdown : ¬ up r) (ix : Nat) : Exits up r [ix] s (State.exitStation r s ix) := by
  unfold State.exitStation
  split
  next hf => exact .skip h fun st hst => by rw [hf] at hst; cases hst
  next st hf =>
    have hupright (m : RadioIx) (hon : st.isOn m = true) (hm : m ≠ r) : s.links[m].state = .up :=
      (h.ups m).mpr ((h.homed ix st hf m hon).resolve_right fun he => hm (Option.some_inj.mp he).symm)
    have hskip (hoff : st.isOn r = false) : Exits up r [ix] s s := .skip h fun x hx => by
      rw [hf] at hx
      cases hx
      exact hoff
    split
    next o p hp =>
      split
      next ho =>
        subst ho
        refine .one hf (((orphan_frame s ix st).le (gs := exitFields)).step (lowerCount_frame _ _)) ?_ (h.orphanedFrom hf hp)
          ((orphan_frame s ix st).silent.trans (lowerCount_frame _ _).silent) ?_ fun n d p' held hp' => ?_
        · exact (orphan_steady s ix st).trans (lowerCount_frame _ _).steady
        · rw [exited_associated s hp, State.lowerCount_stations, orphan_stations]
        · rw [hp] at hp'
          cases hp'
      next ho => exact hskip (Bool.eq_false_iff.mpr fun hon => ho ((isOn_associated r hp).mp hon).symm)
    next o n d p held hp =>
      have hon := isOn_handoff r hp
      split_ifs with h1 h2 h3
      · obtain ⟨ho, hn, hnup⟩ := h1
        subst ho
        refine .one hf (force_frame s ix st o n held false) (force_steady s ix st o n held false)
          (h.force hf hp hn ((isUp_iff s n).mp hnup) false) ?_ ?_ fun _ _ _ _ _ _ => force_noticed s ix st o n held false
        · rw [force_eq]
          exact (SilentTo.complete s ix st o hn held).trans (.same (by rw [State.note_wire, State.count_wire]; rfl))
        · rw [force_stations, exited_outward s hp hn]
      · obtain ⟨hn, ho, houp⟩ := h2
        subst hn
        refine .one hf (abandonToOld_frame s ix st o n p held) (abandonToOld_steady s ix st o n p held)
          (h.abandonToOld hf hp (Ne.symm ho) ((isUp_iff s o).mp houp)) ?_ ?_ fun n' d' p' held' hp' => ?_
        · unfold State.abandonToOld
          refine SilentTo.trans ?_ (.same (State.count_wire _ _))
          exact (SilentTo.same (by rw [flush_wire]; rfl)).trans (SilentTo.sendAdmit _ ho ix)
        · rw [abandonToOld_stations, exited_towards s hp ho]
        · rw [hp] at hp'
          cases hp'
          exact absurd rfl ho
      · have hreturn : o = r ∧ n = r := by
          rcases h3 with ho | hn
          · refine ⟨ho, by_contra fun hn => h1 ⟨ho, hn, (isUp_iff s n).mpr (hupright n ((isOn_handoff n hp).mpr (.inr rfl)) hn)⟩⟩
          · refine ⟨by_contra fun ho => h2 ⟨hn, ho, (isUp_iff s o).mpr (hupright o ((isOn_handoff o hp).mpr (.inl rfl)) ho)⟩, hn⟩
        obtain ⟨rfl, rfl⟩ := hreturn
        have hstrand := strand_frame s ix st held
        refine .one (t := s.strand ix st held) hf (((orphan_frame s ix st).le (gs := exitFields)).step hstrand) ?_
          (h.stranded hf (held_handoff hp)) ((orphan_frame s ix st).silent.trans hstrand.silent) ?_ fun n' d' p' held' hp' hn' => ?_
        · exact ((orphan_steady s ix st).trans (lowerCounts_frame _ _).steady).trans (discardHeld_steady _ held)
        · rw [hstrand .stations (by decide), orphan_stations, exited_return s hp]
        · rw [hp] at hp'
          cases hp'
          exact absurd rfl hn'
      · refine hskip (Bool.eq_false_iff.mpr fun hr => h3 ((hon.mp hr).imp Eq.symm Eq.symm))
    next o d hp => exact hskip (isOn_orphan r hp)

theorem exits_foldl (h : s.Upheld up (some r)) (hdown : ¬ up r) (hn : l.Nodup) : Exits up r l s (l.foldl (State.exitStation r) s) := by
  induction l generalizing s with
  | nil => exact .nil h
  | cons ix l ih =>
    rw [List.nodup_cons] at hn
    have hone := exitStation_exits h hdown ix
    exact hone.trans (ih hone.upheld hn.2) hn.1

end step

end Sys2Proof.Machine
end

section
/-! PROOFS. Whatever takes a link out of UP clears its radio (O19). -/

namespace Sys2Proof.Machine

/- The whole text is elaborated in one process: its proofs in turn, so that their threads' stacks stay within its memory. -/
set_option Elab.async false

/-! ### A link that fails -/

/-- A link out of UP, its queue empty, while stations are still on its radio. -/
theorem State.Upheld.fails {up : RadioIx → Prop} {s t : State} (h : s.Upheld up none) {r : RadioIx} {l : SeatLink}
    (hframe : ChangesOnly [.links, .counters, .samplesDue, .notices, .draws] s t) (hl : t.links = s.links.set r l)
    (hp : l.profile = s.links[r].profile) (hs : l.Sound) (hu : l.state ≠ .up) : t.Upheld (fun m => up m ∧ m ≠ r) (some r) := by
  have hst : t.stations = s.stations := hframe .stations (by decide)
  have hc : t.stationCount = s.stationCount := hframe .stationCount (by decide)
  have hg : t.groups = s.groups := hframe .groups (by decide)
  have hlink (m : RadioIx) : t.links[m] = if m = r then l else s.links[m] := by
    rw [show t.links[m] = (s.links.set r l)[m] by rw [hl], vector_set_get]
  refine ⟨hst ▸ h.wf, hst ▸ h.keys, ?_, h.formed.congr hg, ?_, ?_, fun m => ?_, fun m => ?_, ?_, h.sound.congr hg, fun m c ix => ?_, ?_,
    fun m => ?_, fun ix st hf m hon => ?_, fun m => ?_⟩
  · rw [hframe .addressMap (by decide)]
    exact h.mapWf
  · rw [hst, hframe .addressMap (by decide)]
    exact h.mapped
  · rw [hst, hframe .addressMap (by decide)]
    exact h.named
  · simp only [hc, hst]
    exact h.count m
  · have hprofile : t.links[m].profile = s.links[m].profile := by
      rw [hlink]
      split
      next he => rw [he, hp]
      next => rfl
    rw [hprofile]
    simp only [hc]
    exact h.limit m
  · rw [hst, hframe .channels (by decide)]
    exact h.lawful
  · rw [inGroup_congr (group_congr hg m c), hst]
    exact h.membered m c ix
  · rw [State.heldFrames, hst, hframe .holdFree (by decide)]
    exact h.pool
  · rw [hlink]
    split
    · exact hs
    · exact h.links m
  · by_cases hm : m = r
    · exact .inr (by rw [hm])
    · exact .inl ⟨(h.homed ix st (hst ▸ hf) m hon).resolve_right (Option.some_ne_none m).symm, hm⟩
  · rw [hlink]
    split
    next he => exact ⟨fun hup => absurd hup hu, fun hup => absurd he hup.2⟩
    next he => exact ⟨fun hup => ⟨(h.ups m).mp hup, he⟩, fun hup => (h.ups m).mpr hup.1⟩

/-- Groups of a radio without stations: there are none. -/
theorem State.Upheld.group_none {up : RadioIx → Prop} {down : Option RadioIx} {s : State} (h : s.Upheld up down) {r : RadioIx}
    (hoff : ∀ ix st, s.stations.find ix = some st → st.isOn r = false) (c : ChannelIx) : s.group r c = none := by
  rcases hg : s.group r c with _ | g
  · rfl
  · obtain ⟨ix, hix⟩ := List.exists_mem_of_ne_nil _ (h.sound.members r c g hg).1
    obtain ⟨st, hf, hb⟩ := (h.membered r c ix).mp ⟨g, hg, hix⟩
    have hradio := ((belongs_iff st r c).mp hb).1
    have hon : st.isOn r = true := by
      obtain ⟨_, place, _, _, _, _⟩ := st
      cases place with
      | associated o p =>
        rw [isOn_associated r rfl]
        exact (Option.some_inj.mp hradio).symm
      | handoff o n d p held =>
        rw [isOn_handoff r rfl]
        exact .inl (Option.some_inj.mp hradio).symm
      | orphan o d => cases hradio
    rw [hoff ix st hf] at hon
    cases hon

theorem State.Upheld.discardGroups_off {up : RadioIx → Prop} {s : State} {r : RadioIx} (h : s.Upheld up (some r))
    (hoff : ∀ ix st, s.stations.find ix = some st → st.isOn r = false) : (s.discardGroups r).Upheld up none := by
  have hnone := h.group_none hoff
  have hdiscard := discardGroups_frame s r
  have hformed := h.formed.discardGroups r
  have hsound := h.sound.discardGroups r
  have hgroup (m : RadioIx) (c : ChannelIx) : (s.discardGroups r).group m c = s.group m c := by
    rw [discardGroups_group]
    split
    next hm => rw [hm, hnone]
    next => rfl
  generalize s.discardGroups r = t at *
  have hst : t.stations = s.stations := hdiscard .stations (by decide)
  have hcount : t.stationCount = s.stationCount := hdiscard .stationCount (by decide)
  have hmap : t.addressMap = s.addressMap := hdiscard .addressMap (by decide)
  have hlinks : t.links = s.links := hdiscard .links (by decide)
  have hpool : t.holdFree = s.holdFree := hdiscard .holdFree (by decide)
  have hchannels : t.channels = s.channels := hdiscard .channels (by decide)
  refine ⟨hst ▸ h.wf, hst ▸ h.keys, hmap ▸ h.mapWf, hformed, ?_, ?_, fun m => ?_, fun m => ?_, ?_, hsound, fun m c ix => ?_, ?_,
    fun m => ?_, fun ix st hf m hon => ?_, fun m => ?_⟩
  · rw [hst, hmap]
    exact h.mapped
  · rw [hst, hmap]
    exact h.named
  · simp only [hcount, hst]
    exact h.count m
  · rw [link_congr hlinks]
    simp only [hcount]
    exact h.limit m
  · rw [hst, hchannels]
    exact h.lawful
  · rw [inGroup_congr (hgroup m c), hst]
    exact h.membered m c ix
  · rw [State.heldFrames, hst, hpool]
    exact h.pool
  · rw [link_congr hlinks]
    exact h.links m
  · rw [hst] at hf
    refine .inl ((h.homed ix st hf m hon).resolve_right fun he => ?_)
    rw [← Option.some_inj.mp he, hoff ix st hf] at hon
    cases hon
  · rw [link_congr hlinks]
    exact h.ups m

theorem discardGroups_none (s : State) (r : RadioIx) (c : ChannelIx) : (s.discardGroups r).group r c = none := by
  rw [discardGroups_group, if_pos rfl]

theorem Exits.all {up : RadioIx → Prop} {r : RadioIx} {s t : State} {order : List Nat} (h : Exits up r order s t)
    (hwf : Table.wf s.stations)
    (hperm : order.Perm (s.stationsOn r)) (j : Nat) : t.stations.find j = (s.stations.find j).map (Station.exited s r) := by
  rw [h.found]
  split
  · rfl
  next hj =>
    rcases hf : s.stations.find j with _ | st
    · rfl
    · rw [Option.map_some, exited_off]
      by_contra hon
      exact hj (hperm.mem_iff.mpr ((mem_stationsOn hwf r j).mpr ⟨st, hf, by simpa using hon⟩))

theorem found_exited_off {s t : State} {r : RadioIx} (h : ∀ j, t.stations.find j = (s.stations.find j).map (Station.exited s r)) (ix : Nat)
    (st : Station) (hf : t.stations.find ix = some st) : st.isOn r = false := by
  rw [h, Option.map_eq_some_iff] at hf
  obtain ⟨st', -, rfl⟩ := hf
  exact exited_isOn s

theorem Noticed.same {s t : State} {src : Source} (h : Noticed s src) (hn : t.notices = s.notices) : Noticed t src := by
  intro m
  rw [hn]
  exact h m

/-- What the exit of radio r's link leaves: nothing on the radio, and each station that was on it as R29 has it. -/
structure Vacated (up : RadioIx → Prop) (r : RadioIx) (s t : State) : Prop where
  upheld : t.Upheld up none
  found : ∀ j, t.stations.find j = (s.stations.find j).map (Station.exited s r)
  groups : ∀ c, t.group r c = none
  silent : SilentTo r s t
  down : Noticed t .linkDown
  forced : ∀ ix st n d p held, s.stations.find ix = some st → st.place = .handoff r n d p held → n ≠ r → Noticed t .handoffForced

/-- The state that the stations leave the radio in: the exit noticed and counted, the transmit queue discarded, an order drawn (R29). -/
def State.failing (v : State) (r : RadioIx) : State :=
  { (((v.note .linkDown).count (.link r .linkDownExits)).discardQueue r) with draws := v.draws + 1 }

theorem exitUp_eq (v : State) (r : RadioIx) : v.exitUp r =
    ((freeOrder v.draws (v.stationsOn r)).foldl (State.exitStation r) (v.failing r)).discardGroups r := rfl

theorem failing_frame (v : State) (r : RadioIx) : ChangesOnly [.links, .counters, .notices, .draws] v (v.failing r) := by
  have h : ChangesOnly [.links, .counters, .notices, .draws] v (((v.note .linkDown).count (.link r .linkDownExits)).discardQueue r) :=
    ((((note_frame v .linkDown).le (gs := [.links, .counters, .notices, .draws])).step (count_frame _ _)).step (setLink_frame _ r _)).step
      (addTo_frame _ _ _)
  exact h.step (fs := [.draws]) (by rintro (_ | _) h <;> first | rfl | simp at h)

theorem failing_links (v : State) (r : RadioIx) : (v.failing r).links = v.links.set r { v.links[r] with queue := [] } := rfl

theorem failing_noticed (v : State) (r : RadioIx) : Noticed (v.failing r) .linkDown := note_noticed v .linkDown

theorem links_set_set {v w : Vector SeatLink 64} {r : RadioIx} {l : SeatLink} (h : w = v.set r l) (l' : SeatLink) :
    w.set r l' = v.set r l' := by
  rw [h]
  refine Vector.ext fun i hi => ?_
  simp only [Vector.getElem_set]
  split <;> rfl

/-- The stations leave a radio whose link is out of UP, and its groups are discarded. -/
theorem emptied_failed {up : RadioIx → Prop} {s w : State} {r : RadioIx} {order : List Nat} (h : w.Upheld up (some r)) (hdown : ¬ up r)
    (hframe : ChangesOnly [.links, .counters, .samplesDue, .notices, .draws] s w) (hperm : order.Perm (s.stationsOn r))
    (hnoted : Noticed w .linkDown) :
    Vacated up r s ((order.foldl (State.exitStation r) w).discardGroups r) := by
  have hst : w.stations = s.stations := hframe .stations (by decide)
  have hwf := h.wf
  have hon : s.stationsOn r = w.stationsOn r := by rw [State.stationsOn, State.stationsOn, hst]
  rw [hon] at hperm
  have hexits := exits_foldl h hdown (hperm.nodup_iff.mpr (stationsOn_nodup hwf r))
  generalize order.foldl (State.exitStation r) w = x at *
  have hexited : Station.exited w r = Station.exited s r := funext fun st =>
    exited_congr (hframe .channels (by decide)) (hframe .settings (by decide)) (hframe .sectorTime (by decide)) r st
  have hfound := hexits.all hwf hperm
  have hdiscard := discardGroups_frame x r
  have hsame : (x.discardGroups r).notices = x.notices := hdiscard .notices (by decide)
  refine ⟨hexits.upheld.discardGroups_off (found_exited_off hfound), fun j => ?_, discardGroups_none x r, ?_, ?_, ?_⟩
  · rw [hdiscard .stations (by decide), hfound, hexited, hst]
  · exact (SilentTo.same (hframe .wire (by decide))).trans (hexits.silent.trans hdiscard.silent)
  · exact (hexits.steady.noticed hnoted).same hsame
  · intro ix st n d p held hf hp hn
    rw [← hst] at hf
    refine (hexits.noticed ix (hperm.mem_iff.mpr ((mem_stationsOn hwf r ix).mpr ⟨st, hf, ?_⟩)) st n d p held hf hp hn).same hsame
    exact (isOn_handoff r hp).mpr (.inl rfl)

/-- The exit of radio r's link from UP. -/
theorem exitUp_failed {up : RadioIx → Prop} {s v : State} (h : s.Upheld up none) {r : RadioIx} {l : SeatLink}
    (hframe : ChangesOnly [.links, .counters, .samplesDue] s v) (hl : v.links = s.links.set r l) (hp : l.profile = s.links[r].profile)
    (hs : SeatLink.Sound { l with queue := [] }) (hu : l.state ≠ .up) : Vacated (fun m => up m ∧ m ≠ r) r s (v.exitUp r) := by
  rw [exitUp_eq]
  have hon : v.stationsOn r = s.stationsOn r := by rw [State.stationsOn, State.stationsOn, hframe .stations (by decide)]
  have hperm := freeOrder_perm v.draws (v.stationsOn r)
  rw [hon] at hperm
  have hvl : v.links[r] = l := by
    rw [show v.links[r] = (s.links.set r l)[r] from congrArg (fun x : Vector SeatLink 64 => x[r]) hl, set_link_same]
  have hframe' : ChangesOnly [.links, .counters, .samplesDue, .notices, .draws] s (v.failing r) := (hframe.le).step (failing_frame v r)
  have hlinks : (v.failing r).links = s.links.set r { l with queue := [] } := by rw [failing_links, hvl, links_set_set hl]
  rw [hon]
  exact emptied_failed (h.fails hframe' hlinks hp hs hu) (fun hup => hup.2 rfl) hframe' hperm (failing_noticed v r)

end Sys2Proof.Machine
end

section
/-! PROOFS. What each message and each deadline keeps of the invariant of stations. -/

namespace Sys2Proof.Machine

/- The whole text is elaborated in one process: its proofs in turn, so that their threads' stacks stay within its memory. -/
set_option Elab.async false

section basics
variable {up : RadioIx → Prop} {s : State} (h : s.Upheld up none)
include h

theorem State.Upheld.counted (c : Counter) : (s.count c).Upheld up none := h.of_frame (count_frame s c) (count_frame s c).linksCarry

theorem State.Upheld.added (c : Counter) (n : Nat) :
    (s.addTo c n).Upheld up none :=
  h.of_frame (addTo_frame s c n) (addTo_frame s c n).linksCarry

theorem State.Upheld.noted (x : Source) : (s.note x).Upheld up none := h.of_frame (note_frame s x) (note_frame s x).linksCarry

theorem State.Upheld.sent (r : RadioIx) (m : ControlOut) : (s.send r m).Upheld up none := h.of_frame (send_frame s r m) (send_carry s r m)

theorem State.Upheld.strays : s.stray.Upheld up none := (h.counted _).noted _

theorem State.Upheld.late : s.late.Upheld up none := (h.counted _).noted _

theorem State.Upheld.refusesFull (r : RadioIx) (ix : Option Nat) (a : Address) : (s.refuseFull r ix a).Upheld up none :=
  ((h.sent _ _).counted _).noted _

theorem State.Upheld.checked (r : RadioIx) (q : Byte) : (s.checkSequence r q).Upheld up none :=
  h.of_frame (checkSequence_frame s r q) (checkSequence_carry s r q)

theorem State.Upheld.settled (before : Vector Notice 4) : (s.settle before).Upheld up none :=
  h.of_frame (settle_frame s before) (settle_frame s before).linksCarry

theorem State.Upheld.isUp {ix : Nat} {st : Station} (hf : s.stations.find ix = some st) {r : RadioIx} (hon : st.isOn r = true) :
    s.links[r].state = .up := h.linksSound.2 _ (Table.mem_of_find hf) r hon

/-- A received message keeps the invariant where its owner does for an UP link. -/
theorem State.Upheld.receive (r : RadioIx) (q : Byte) {owner : State → State}
    (ho : ∀ t, t.Upheld up none → t.links[r].state = .up → (owner t).Upheld up none) : (s.receive r q owner).Upheld up none := by
  have hc (c : Counter) : ((s.checkSequence r q).count c).Upheld up none := (h.checked r q).counted c
  unfold State.receive
  split
  next => exact h
  next hu => exact ho _ (hc _) (((hc _).ups r).mpr ((h.ups r).mp hu))
  next => exact hc _
  next => exact hc _

/-- A message that names a station keeps the invariant where its owner does for a station on the radio. -/
theorem State.Upheld.screen (r : RadioIx) (field : Half) {owner : Nat → Station → State → State}
    (ho : ∀ ix st, s.stations.find ix = some st → st.isOn r = true → (owner ix st s).Upheld up none) :
    (s.screen r field owner).Upheld up none := by
  unfold State.screen
  split
  next => exact h.strays
  next ix st hx =>
    unfold State.screened at hx
    split at hx
    · split at hx
      · cases hx
      next x hfx =>
        split at hx
        next hon => cases hx; exact ho _ _ hfx hon
        next => cases hx
    · cases hx

end basics

theorem State.mapped_found {s : State} {a : Address} {ix : Nat} {st : Station} (h : s.mapped a = some (ix, st)) :
    s.stations.find ix = some st := by
  unfold State.mapped at h
  split at h
  · cases h
  · obtain ⟨x, hx, hxe⟩ := Option.map_eq_some_iff.mp h
    cases hxe
    exact hx

/-! ### JOIN and ROAM (R5 to R7, R46 to R58) -/

section boarding
variable {up : RadioIx → Prop} {s : State} (h : s.Upheld up none) {r : RadioIx} (hu : s.links[r].state = .up)
include h

theorem State.Upheld.allocate {a : Address} (ha : s.mapped a = none) (rate : RateClass) (hu : s.links[r].state = .up) :
    (s.allocate r a rate).Upheld up none := by
  rcases hr : s.radioFull r with _ | _
  · rcases hix : s.stations.lowestFree 4096 with _ | ix
    · rw [allocate_tableFull hr hix]
      exact ((h.sent _ _).counted _).noted _
    · rw [allocate_free hr hix]
      exact (h.allocated ha hr hu hix rate).sent _ _
  · rw [allocate_full hr]
    exact h.refusesFull _ _ _

section found
variable {ix : Nat} {st : Station} (hf : s.stations.find ix = some st)
include hf

theorem State.Upheld.readmit (r : RadioIx) (rate : RateClass) : (s.readmit r ix st rate).Upheld up none := by
  rw [readmit_eq]
  exact ((h.rated hf rate).sent _ _).counted _

include hu

theorem State.Upheld.restore {o : RadioIx} {d : Word} (hp : st.place = .orphan o d) (rate : RateClass) :
    (s.restore r ix st rate).Upheld up none := by
  rcases hr : s.radioFull r with _ | _
  · exact h.restored hf hp hr hu rate
  · rw [restore_full hr]
    exact h.refusesFull _ _ _

theorem State.Upheld.roamAssociated {o : RadioIx} {p : Option Prior} (hp : st.place = .associated o p) (hne : o ≠ r) (rate : RateClass)
    (linkLost : Bool) : (s.roamAssociated ix st o r p rate linkLost).Upheld up none := by
  unfold State.roamAssociated
  split
  · exact h.refusesFull _ _ _
  next hr =>
    split
    · exact ((h.sent _ _).counted _).noted _
    · exact ((h.begins hf hp hne (Bool.eq_false_iff.mpr hr) hu _ rate).counted _).sent _ _

theorem State.Upheld.roamHandoff {o n : RadioIx} {d : Word} {p : Option Prior} {held : List FanFrame}
    (hp : st.place = .handoff o n d p held)
    (rate : RateClass) : (s.roamHandoff ix st o n r p held rate).Upheld up none := by
  have hsuperseded {t : State} (ht : t.Upheld up none) (m : RadioIx) (x : ControlOut) :
      (((t.send m x).count (.station .supersedes)).note .superseded).Upheld up none := ((ht.sent _ _).counted _).noted _
  unfold State.roamHandoff
  split_ifs with hn ho hm
  · exact h.readmit hf r rate
  · subst ho
    unfold State.renewOutward
    split
    · exact h.refusesFull _ _ _
    next hr => exact hsuperseded (h.turnsOutward hf hp hn (Bool.eq_false_iff.mpr hr) hu rate) _ _
  · exact hsuperseded (h.turnsBack hf hp ho rate) _ _
  · unfold State.supersede
    split
    · exact h.refusesFull _ _ _
    next hr => exact hsuperseded (h.supersedes hf hp hn hm ho (Bool.eq_false_iff.mpr hr) hu rate) _ _

end found

include hu

theorem State.Upheld.roam (a : Address) (rate : RateClass) (linkLost : Bool) : (s.roam r a rate linkLost).Upheld up none := by
  have hc := h.counted (.station .roamsReceived)
  have huc : (s.count (.station .roamsReceived)).links[r].state = .up := (hc.ups r).mpr ((h.ups r).mp hu)
  rcases hm : s.mapped a with _ | ⟨ix, st⟩
  · rw [roam_unmapped _ _ _ hm]
    exact hc.allocate (by rw [mapped_count, hm]) rate huc
  · have hf : (s.count (.station .roamsReceived)).stations.find ix = some st := by
      rw [State.count_stations]
      exact State.mapped_found hm
    rcases hp : st.place with ⟨o, p⟩ | ⟨o, n, d, p, held⟩ | ⟨o, d⟩
    · rw [roam_associated _ _ _ hm hp]
      split
      · exact hc.readmit hf r rate
      next hne => exact hc.roamAssociated huc hf hp hne rate linkLost
    · rw [roam_handoff _ _ _ hm hp]
      exact hc.roamHandoff huc hf hp rate
    · rw [roam_orphan _ _ _ hm hp]
      exact hc.restore huc hf hp rate

theorem State.Upheld.join (a : Address) (rate : RateClass) : (s.join r a rate).Upheld up none := by
  rcases hm : s.mapped a with _ | ⟨ix, st⟩
  · rw [join_unmapped _ _ hm]
    exact h.allocate hm rate hu
  · have hf := State.mapped_found hm
    rcases hp : st.place with ⟨o, p⟩ | ⟨o, n, d, p, held⟩ | ⟨o, d⟩
    · rw [join_associated _ _ hm hp]
      split
      · exact h.readmit hf r rate
      · exact h.roam hu a rate true
    · rw [join_handoff _ _ hm hp]
      exact h.roam hu a rate true
    · rw [join_orphan _ _ hm hp]
      exact h.restore hu hf hp rate

end boarding

/-! ### LEAVE, RELEASED, the deadlines and CLAIM -/

section named
variable {up : RadioIx → Prop} {s : State} (h : s.Upheld up none) {ix : Nat} {st : Station} (hf : s.stations.find ix = some st)
include h hf

theorem State.Upheld.target_up {o n : RadioIx} {d : Word} {p : Option Prior} {held : List FanFrame}
    (hp : st.place = .handoff o n d p held) :
    s.links[n].state = .up := h.isUp hf ((isOn_handoff n hp).mpr (.inr rfl))

theorem State.Upheld.old_up {o n : RadioIx} {d : Word} {p : Option Prior} {held : List FanFrame} (hp : st.place = .handoff o n d p held) :
    s.links[o].state = .up := h.isUp hf ((isOn_handoff o hp).mpr (.inl rfl))

theorem State.Upheld.leave (r : RadioIx) : (s.leave r ix st).Upheld up none := by
  unfold State.leave
  split
  next => exact (h.free hf).counted _
  next o n d p held hp =>
    split_ifs with ho hr
    · subst ho
      exact h.endReturn hf hp (h.old_up hf hp)
    · exact (h.complete hf hp (Ne.symm ho) (h.target_up hf hp)).counted _
    · exact h.abandonToOrphan hf (held_handoff hp)
  next => exact h.strays

theorem State.Upheld.released (r : RadioIx) (device : Address) (undelivered : Nat) :
    (s.released r ix st device undelivered).Upheld up none := by
  unfold State.released
  split
  next => exact h.strays
  next => exact h.late
  next o n d p held hp =>
    split
    next ho =>
      obtain ⟨rfl, hn⟩ := ho
      split
      · exact ((h.complete hf hp hn (h.target_up hf hp)).counted _).added _ _
      · have hv := (h.counted (.link o .responseErrors)).noted .responseError
        split
        · refine hv.force (ix := ix) ?_ hp hn ((hv.ups n).mpr ((h.ups n).mp (h.target_up hf hp))) true
          rw [State.note_stations, State.count_stations]
          exact hf
        · exact hv
    next => exact h.late

omit hf in
theorem State.Upheld.mismatch (slot : Nat) (p : Pass) : (s.mismatch slot p).Upheld up none := by
  unfold State.mismatch
  split
  · exact ((h.setPass _ _).counted _).noted _
  · exact h.setPass _ _

omit hf in
theorem State.Upheld.refuseClaim (r : RadioIx) (ix : Nat) (pass : Word) (result : ClaimResult) :
    (s.refuseClaim r ix pass result).Upheld up none := by
  unfold State.refuseClaim
  refine (State.Upheld.noted ?_ _).sent _ _
  split
  · exact h
  · exact h.counted _

theorem State.Upheld.bindClaim (r : RadioIx) (slot : Nat) (p : Pass) : (s.bindClaim r ix st slot p).Upheld up none := by
  have hrebind : (s.rebind ix st).Upheld up none ∧ ∃ x, (s.rebind ix st).stations.find ix = some x ∧ x.binding = none := by
    unfold State.rebind State.unbindStation
    rcases hb : st.binding with _ | b
    · exact ⟨h, st, hf, hb⟩
    · refine ⟨(h.unbind b.slot ix).counted _, st.realigned s.channels none, ?_, realigned_binding _ _ _⟩
      rw [State.count_stations, unbind_station hf, if_pos rfl]
  unfold State.bindClaim State.grantClaim
  obtain ⟨hu, x, hx, hxb⟩ := hrebind
  generalize s.rebind ix st = u at *
  have hv : (u.appendBound slot ix).Upheld up none ∧ (u.appendBound slot ix).stations = u.stations := by
    unfold State.appendBound
    split
    · exact ⟨hu, rfl⟩
    · exact ⟨hu.setPass _ _, rfl⟩
  obtain ⟨hv, hvs⟩ := hv
  generalize u.appendBound slot ix = v at *
  rw [← hvs] at hx
  refine (State.Upheld.counted ?_ _).sent _ _
  rw [loadBinding_found hx]
  exact hv.refitted hx rfl (bindTo_place _ x) (reflagged_channels _ (x.bindTo _)) ((hv.lawful ix x hx).bound hxb _)

end named

end Sys2Proof.Machine
end

section
/-! PROOFS. What claims, subscriptions, sweeps and replay packets keep of the invariant of stations. -/

namespace Sys2Proof.Machine

/- The whole text is elaborated in one process: its proofs in turn, so that their threads' stacks stay within its memory. -/
set_option Elab.async false

/-! ### CLAIM, SUBSCRIBE, UNSUBSCRIBE -/

section named
variable {up : RadioIx → Prop} {s : State} (h : s.Upheld up none) {ix : Nat} {st : Station} (hf : s.stations.find ix = some st)
include h hf

theorem State.Upheld.checkClaim (r : RadioIx) (pass : Word) (code : Half) : (s.checkClaim r ix st pass code).Upheld up none := by
  unfold State.checkClaim
  split
  · exact h.refuseClaim _ _ _ _
  · split
    · exact h.refuseClaim _ _ _ _
    · split
      · exact h.refuseClaim _ _ _ _
      · exact h.refuseClaim _ _ _ _
      · exact h.refuseClaim _ _ _ _
      · split_ifs
        · exact h.refuseClaim _ _ _ _
        · exact ((h.endPass _ _ _).counted _).refuseClaim _ _ _ _
        · exact (h.mismatch _ _).refuseClaim _ _ _ _
        · exact (h.counted _).sent _ _
        · exact h.refuseClaim _ _ _ _
        · exact h.bindClaim hf r _ _

theorem State.Upheld.claim (r : RadioIx) (pass : Word) (code : Half) : (s.claim r ix st pass code).Upheld up none := by
  have hc := h.counted (.admission .claimsReceived)
  unfold State.claim
  dsimp only
  split
  · exact hc.checkClaim (by rw [State.count_stations]; exact hf) r pass code
  · exact hc.refuseClaim _ _ _ _

omit hf in
theorem State.Upheld.subAnswer (r : RadioIx) (ix : Nat) (channel : Byte) (result : SubResult) :
    (s.subAnswer r ix channel result).Upheld up none := h.sent _ _

omit h hf in
/-- A station's current radio is the one that its groups are of where it is on that radio. -/
theorem groupRadio_current {st : Station} {r : RadioIx} (hon : st.isOn r = true) (hc : st.current = r) : st.groupRadio = some r := by
  obtain ⟨_, place, _, _, _, _⟩ := st
  cases place with
  | orphan o d => cases hon
  | _ => exact congrArg some hc

theorem State.Upheld.subscribe (r : RadioIx) (hon : st.isOn r = true) (channel : Byte) : (s.subscribe r ix st channel).Upheld up none := by
  unfold State.subscribe
  split
  next hc =>
    unfold State.subscribeHere
    split
    · split <;> exact (h.counted _).subAnswer _ _ _ _
    next c _ =>
      split_ifs with h1 h2 h3
      · exact (h.counted _).subAnswer _ _ _ _
      · exact (h.counted _).subAnswer _ _ _ _
      · refine (h.addEntry hf (groupRadio_current hon hc) ?_ (Nat.lt_of_not_le h2) h3).subAnswer _ _ _ _
        simpa using h1
      · exact (h.counted _).subAnswer _ _ _ _
  next => exact (h.counted _).subAnswer _ _ _ _

theorem State.Upheld.unsubscribe (r : RadioIx) (channel : Byte) : (s.unsubscribe r ix st channel).Upheld up none := by
  unfold State.unsubscribe
  split
  next hc =>
    refine State.Upheld.subAnswer ?_ _ _ _ _
    unfold State.unsubscribeHere
    split
    · exact h.counted _
    · split
      · exact (h.dropEntry hf _).counted _
      · exact h.counted _
  next => exact (h.counted _).subAnswer _ _ _ _

end named

/-! ### The sweeps (R88, R108) -/

section sweeps
variable {up : RadioIx → Prop} {s : State} (h : s.Upheld up none)
include h

theorem State.Upheld.expiryVisit (slot : Nat) : (s.expiryVisit slot).Upheld up none := by
  unfold State.expiryVisit
  split
  · exact h
  · split
    · exact (h.endPass _ _ _).counted _
    · exact h

theorem State.Upheld.zoneVisit (ix : Nat) : (s.zoneVisit ix).Upheld up none := by
  rcases hst : s.stations.find ix with _ | st
  · rwa [zoneVisit_idle fun st hf => by rw [hst] at hf; cases hf]
  rcases hb : st.binding with _ | b
  · rwa [zoneVisit_idle fun x hf => by rw [hst] at hf; cases hf; exact hb]
  rcases hp : s.passes.find b.slot with _ | p
  · have hsame : s.zoneVisit ix = s := by
      unfold State.zoneVisit
      simp only [hst, hb, hp]
    rwa [hsame]
  obtain ⟨u, hu, rfl⟩ := zoneVisit_bound hst hb hp
  have hlaw := h.lawful ix st hst
  have key := h.refitted (st' := Station.reflagged s.channels
      { st with binding := some { b with zone := zoneOf s.seatMap p.home p.width } })
    hst rfl rfl (reflagged_channels _ { st with binding := some { b with zone := zoneOf s.seatMap p.home p.width } }) ?_
  · rw [hu]
    split
    · exact key
    · exact State.Upheld.counted key _
  · have hc := reflagged_channels s.channels { st with binding := some { b with zone := zoneOf s.seatMap p.home p.width } }
    refine ⟨?_, hc ▸ hlaw.distinct, ?_, hlaw.depth, fun hn => by cases hn⟩
    · have hl := congrArg List.length hc
      rw [List.length_map, List.length_map] at hl
      exact hl ▸ hlaw.few
    · intro c hm
      rw [hc] at hm
      have hperm := hlaw.permitted c hm
      rw [hb] at hperm
      exact hperm

end sweeps

/-! ### Groups that stand with their members (R116) -/

section groups
variable {up : RadioIx → Prop} {s : State} (h : s.Upheld up none)
include h

/-- Groups that keep their members, whatever their delivery state. -/
theorem State.Upheld.regrouped {t : State} (hframe : ChangesOnly [.groups] s t) (hformed : t.GroupsFormed)
    (hg : ∀ r c, (t.group r c).map Group.members = (s.group r c).map Group.members) : t.Upheld up none := by
  have hst : t.stations = s.stations := hframe .stations (by decide)
  have hch : t.channels = s.channels := hframe .channels (by decide)
  have hlinks : t.links = s.links := hframe .links (by decide)
  have hmap : t.addressMap = s.addressMap := hframe .addressMap (by decide)
  have hcount : t.stationCount = s.stationCount := hframe .stationCount (by decide)
  have hpool : t.holdFree = s.holdFree := hframe .holdFree (by decide)
  have hin (r : RadioIx) (c : ChannelIx) (j : Nat) : t.inGroup r c j ↔ s.inGroup r c j := by
    have hmembers := hg r c
    unfold State.inGroup
    rcases ht : t.group r c with _ | g <;> rcases hs : s.group r c with _ | g'
    · simp
    · rw [ht, hs] at hmembers
      cases hmembers
    · rw [ht, hs] at hmembers
      cases hmembers
    · rw [ht, hs] at hmembers
      simp only [Option.map_some, Option.some.injEq] at hmembers
      simp only [Option.some.injEq, exists_eq_left', hmembers]
  refine ⟨hst ▸ h.wf, hst ▸ h.keys, hmap ▸ h.mapWf, hformed, ?_, ?_, fun m => ?_, fun m => ?_, ?_, ⟨fun r c g hgt => ?_⟩,
    fun m c ix => ?_, ?_,
    fun m => ?_, fun ix st hf m hon => ?_, fun m => ?_⟩
  · rw [hst, hmap]
    exact h.mapped
  · rw [hst, hmap]
    exact h.named
  · simp only [hcount, hst]
    exact h.count m
  · rw [link_congr hlinks]
    simp only [hcount]
    exact h.limit m
  · rw [hst, hch]
    exact h.lawful
  · have hmembers := hg r c
    rw [hgt] at hmembers
    obtain ⟨g', hg', he⟩ := Option.map_eq_some_iff.mp hmembers.symm
    rw [← he]
    exact h.sound.members r c g' hg'
  · rw [hin, hst]
    exact h.membered m c ix
  · rw [State.heldFrames, hst, hpool]
    exact h.pool
  · rw [link_congr hlinks]
    exact h.links m
  · exact h.homed ix st (hst ▸ hf) m hon
  · rw [link_congr hlinks]
    exact h.ups m

theorem State.Upheld.deliver (r : RadioIx) (c : ChannelIx) (d : Delivery) : (s.deliver r c d).Upheld up none := by
  refine h.regrouped (deliver_frame s r c d) ?_ fun r' c' => ?_
  · unfold State.deliver
    split
    · exact h.formed
    · exact State.GroupsFormed.put (r := r) (c := c) h.formed (by rfl)
  · rw [deliver_group]
    split
    next he =>
      rw [he.1, he.2, Option.map_map]
      rfl
    next => rfl

theorem State.Upheld.skipChannel (c : ChannelIx) : (s.skipChannel c).Upheld up none := by
  unfold State.skipChannel
  exact foldl_induction (P := fun t => State.Upheld up none t) (fun t r ht => State.Upheld.deliver ht r c .skipToKey) _ h

theorem State.Upheld.group_up {r : RadioIx} {c : ChannelIx} {g : Group} (hg : s.group r c = some g) : s.links[r].state = .up := by
  by_contra hu
  have hnone : s.group r c = none := h.group_none (fun ix st hf => by
    by_contra hon
    exact hu (h.isUp hf (by simpa using hon))) c
  rw [hnone] at hg
  cases hg

/-! ### Replay packets (R125, R126) -/

theorem State.Upheld.takePacket (p : Packet) : (s.takePacket p).Upheld up none :=
  State.Upheld.counted (s := s.expect p)
    (h.setChannel (ch := { s.channels[p.channel] with expected := some (p.sequence + 1) }) fun hl => ⟨hl, id⟩) _

theorem State.Upheld.offer (p : Packet) : (s.offer p).Upheld up none := h.of_frame (offer_frame s p) (offer_frame s p).linksCarry

theorem State.Upheld.gap (p : Packet) : (s.gap p).Upheld up none := by
  have hn := (h.counted (.channel p.channel .sequenceGaps)).noted .replaySequenceGap
  unfold State.gap
  split
  · exact (hn.skipChannel _).counted _
  · exact hn.offer p

theorem State.Upheld.ingress (p : Packet) : (s.ingress p).Upheld up none := by
  have ht := h.takePacket p
  unfold State.ingress
  split
  · exact (h.counted _).noted _
  · split
    · exact ht.offer p
    · split_ifs
      · exact ht.offer p
      · exact ht.gap p
      · exact h.counted _

/-! ### Decisions (R129 to R134) -/

theorem State.Upheld.clearAwaiting (c : ChannelIx) (ix : Nat) : (State.clearAwaiting c s ix).Upheld up none := by
  unfold State.clearAwaiting
  split
  · exact h
  next st hf =>
    refine h.restated hf rfl rfl rfl ?_ rfl (fun _ => rfl) rfl
    rw [List.map_map]
    refine List.map_congr_left fun e _ => ?_
    rw [Function.comp_apply]
    split <;> rfl

theorem State.Upheld.afterSend (r : RadioIx) (c : ChannelIx) (cls : ReplayClass) (dest : List Recipient) :
    (s.afterSend r c cls dest).Upheld up none := by
  unfold State.afterSend
  split
  · exact h
  · exact foldl_induction (P := fun t => State.Upheld up none t) (fun t ix ht => State.Upheld.clearAwaiting ht c ix) _ (h.deliver _ _ _)

theorem State.Upheld.sendCopies {r : RadioIx} (hu : s.links[r].state = .up) (c : ChannelIx) (p : Packet) (dest : List Recipient)
    (credit : Int) : (s.sendCopies r c p dest credit).Upheld up none := by
  have h1 : (s.setCredit r credit).Upheld up none := h.of_frame (setCredit_frame s r credit) (setCredit_frame s r credit).linksCarry
  have h2 (es : List TxEntry) : ((s.setCredit r credit).enqueue r es).Upheld up none :=
    h1.of_frame (enqueue_frame _ r es) (enqueue_carry hu es)
  have h3 := (h2 (copies c p s.links[r].profile.bias dest)).afterSend r c p.cls dest
  unfold State.sendCopies
  dsimp only
  refine State.Upheld.added (State.Upheld.counted (State.Upheld.added ?_ _ _) _) _ _
  split
  · exact h3
  · exact h3.counted _

theorem State.Upheld.decideGroup {r : RadioIx} (hu : s.links[r].state = .up) (c : ChannelIx) (g : Group) (p : Packet) :
    (s.decideGroup r c g p).Upheld up none := by
  unfold State.decideGroup State.decideFor
  dsimp only
  split_ifs
  · exact h.counted _
  · exact h.counted _
  · exact ((h.deliver _ _ _).counted _).noted _
  · split
    · exact ((h.deliver _ _ _).counted _).noted _
    · exact h.sendCopies hu c p _ _

end groups

end Sys2Proof.Machine
end

section
/-! PROOFS. What the links' own events do to the invariant of stations: a link replaced, a link that enters UP, a link that leaves it. -/

namespace Sys2Proof.Machine

/- The whole text is elaborated in one process: its proofs in turn, so that their threads' stacks stay within its memory. -/
set_option Elab.async false

/-! ### A link replaced -/

/-- A link replaced by another sound one, which is UP if it was, and whose limit allows the radio's count. -/
theorem State.Upheld.relinked {up up' : RadioIx → Prop} {s t : State} (h : s.Upheld up none) {r : RadioIx} {l : SeatLink}
    (hframe : ChangesOnly [.links, .credit, .counters, .samplesDue, .notices, .wire, .settings] s t) (hl : t.links = s.links.set r l)
    (hs : l.Sound) (hlim : s.stationCount[r] ≤ l.profile.stationLimit) (hu : l.state = .up ↔ up' r) (hmono : up r → up' r)
    (hup : ∀ m, m ≠ r → (up' m ↔ up m)) : t.Upheld up' none := by
  have hst : t.stations = s.stations := hframe .stations (by decide)
  have hc : t.stationCount = s.stationCount := hframe .stationCount (by decide)
  have hg : t.groups = s.groups := hframe .groups (by decide)
  have hmap : t.addressMap = s.addressMap := hframe .addressMap (by decide)
  have hlink (m : RadioIx) : t.links[m] = if m = r then l else s.links[m] := by
    rw [show t.links[m] = (s.links.set r l)[m] by rw [hl], vector_set_get]
  refine ⟨hst ▸ h.wf, hst ▸ h.keys, hmap ▸ h.mapWf, h.formed.congr hg, ?_, ?_, fun m => ?_, fun m => ?_, ?_, h.sound.congr hg,
    fun m c ix => ?_, ?_, fun m => ?_, fun ix st hf m hon => ?_, fun m => ?_⟩
  · rw [hst, hmap]
    exact h.mapped
  · rw [hst, hmap]
    exact h.named
  · simp only [hc, hst]
    exact h.count m
  · rw [hlink]
    simp only [hc]
    split
    next he => exact he ▸ hlim
    next => exact h.limit m
  · rw [hst, hframe .channels (by decide)]
    exact h.lawful
  · rw [inGroup_congr (group_congr hg m c), hst]
    exact h.membered m c ix
  · rw [State.heldFrames, hst, hframe .holdFree (by decide)]
    exact h.pool
  · rw [hlink]
    split
    · exact hs
    · exact h.links m
  · refine .inl ?_
    have hm := (h.homed ix st (hst ▸ hf) m hon).resolve_right (Option.some_ne_none m).symm
    by_cases he : m = r
    · subst he
      exact hmono hm
    · exact (hup m he).mpr hm
  · rw [hlink]
    split
    next he => exact he ▸ hu
    next he => exact (h.ups m).trans (hup m he).symm

section links
variable {up : RadioIx → Prop} {s : State} (h : s.Upheld up none) {r : RadioIx} {l : SeatLink}
include h

/-- A link replaced by another in the same state with the same profile. -/
theorem State.Upheld.relinkedSame {t : State}
    (hframe : ChangesOnly [.links, .credit, .counters, .samplesDue, .notices, .wire, .settings] s t)
    (hl : t.links = s.links.set r l) (hs : l.Sound) (hp : l.profile.stationLimit = s.links[r].profile.stationLimit)
    (hst : l.state = .up ↔ s.links[r].state = .up) : t.Upheld up none :=
  h.relinked hframe hl hs (hp ▸ h.limit r) (hst.trans (h.ups r)) id fun _ _ => Iff.rfl

/-- A link that enters UP. -/
theorem State.Upheld.enters {t : State} (hframe : ChangesOnly [.links, .credit, .counters, .samplesDue, .notices, .wire, .settings] s t)
    (hl : t.links = s.links.set r l) (hs : l.Sound) (hp : l.profile = s.links[r].profile) (hu : l.state = .up) :
    t.Upheld (fun m => up m ∨ m = r) none :=
  h.relinked hframe hl hs (hp ▸ h.limit r) ⟨fun _ => .inr rfl, fun _ => hu⟩ .inl fun _ hm => or_iff_left hm

end links

/-! ### The links' own events (R25 to R31, R43) -/

/-- What an event of radio r's link does to the invariant: the radios whose link is UP keep it so, or radio r loses it as R29 has it. -/
def Passes (up : RadioIx → Prop) (r : RadioIx) (s t : State) : Prop :=
  (t.stations = s.stations ∧ ∃ up', (∀ m, up m → up' m) ∧ t.Upheld up' none) ∨
    (Vacated (fun m => up m ∧ m ≠ r) r s t ∧ t.links[r].queue = [] ∧ Counted s t (.link r .linkDownExits) 1)

section passes
variable {up : RadioIx → Prop} {r : RadioIx} {s t u : State}

theorem Passes.kept (h : t.Upheld up none) (hst : t.stations = s.stations := by rfl) : Passes up r s t :=
  .inl ⟨hst, up, fun _ => id, h⟩

theorem Passes.holds (h : Passes up r s t) : ∃ up', t.Upheld up' none :=
  h.elim (fun ⟨_, up', _, h'⟩ => ⟨up', h'⟩) fun ⟨h', _⟩ => ⟨_, h'.upheld⟩

/-- What follows the event and reaches neither a station nor a link. -/
theorem Passes.after (h : Passes up r s t) (hframe : ChangesOnly serviceFields t u) (hs : Steady t u) (hsilent : SilentTo r t u)
    (hc : u.counter (.link r .linkDownExits) = t.counter (.link r .linkDownExits)) : Passes up r s u := by
  rcases h with ⟨hst, up', hm, h'⟩ | ⟨h', hq, hcount⟩
  · exact .inl ⟨(hframe .stations (by decide)).trans hst, up', hm, h'.of_frame hframe hframe.linksCarry⟩
  · refine .inr ⟨⟨h'.upheld.of_frame hframe hframe.linksCarry, ?_, fun c => ?_, h'.silent.trans hsilent, hs.noticed h'.down,
      fun ix st n d p held hf hp hn => hs.noticed (h'.forced ix st n d p held hf hp hn)⟩, ?_, ?_⟩
    · rw [hframe .stations (by decide)]
      exact h'.found
    · rw [group_congr (hframe .groups (by decide))]
      exact h'.groups c
    · rw [link_congr (hframe .links (by decide)), hq]
    · exact hc.trans hcount

theorem Passes.settle (h : Passes up r s t) (before : Vector Notice 4) : Passes up r s (t.settle before) := by
  rcases h with ⟨hst, up', hm, h'⟩ | ⟨h', hq, hcount⟩
  · exact .inl ⟨(settle_frame t before .stations (by decide)).trans hst, up', hm, h'.settled before⟩
  · have hst : (t.settle before).stations = t.stations := settle_frame t before .stations (by decide)
    refine .inr ⟨⟨h'.upheld.settled before, ?_, fun c => ?_, h'.silent.trans (.settle t before), settle_noticed h'.down,
      fun ix st n d p held hf hp hn => settle_noticed (h'.forced ix st n d p held hf hp hn)⟩, ?_, ?_⟩
    · rw [hst]
      exact h'.found
    · rw [group_congr (settle_frame t before .groups (by decide))]
      exact h'.groups c
    · rw [link_congr (settle_frame t before .links (by decide)), hq]
    · exact (settle_counter _ fun l => by simp).trans hcount

/-- The exit of a link from UP, whose new record is in place (R29). -/
theorem exitUp_passes {v : State} (h : s.Upheld up none) {l : SeatLink} (hframe : ChangesOnly [.links, .counters, .samplesDue] s v)
    (hl : v.links = s.links.set r l) (hp : l.profile = s.links[r].profile) (hs : SeatLink.Sound { l with queue := [] }) (hu : l.state ≠ .up)
    (hc : v.counter (.link r .linkDownExits) = s.counter (.link r .linkDownExits)) : Passes up r s (v.exitUp r) := by
  have hcounted := exitUp_counter v (c := .link r .linkDownExits) rfl r (by simp)
  rw [if_pos rfl, hc] at hcounted
  refine .inr ⟨exitUp_failed h hframe hl hp hs hu, ?_, hcounted⟩
  rw [exitUp_link]

end passes

section events
variable {up : RadioIx → Prop} {s : State} (h : s.Upheld up none) (r : RadioIx)
include h

/-- A link out of UP has an empty transmit queue (R20). -/
theorem State.Upheld.queue_empty {r : RadioIx} (hu : s.links[r].state ≠ .up) : s.links[r].queue = [] := (h.links r).2.2.2.1 hu

omit h in
theorem event_passes {r : RadioIx} {effect : State → State} {t : State} (h : s.Upheld up none) (he : Passes up r s (effect s))
    (ht : event s effect = .next t) : Passes up r s t := by
  simp only [event, Host.Outcome.next.injEq] at ht
  subst ht
  split
  · exact .kept h
  · exact he.settle _

theorem carrierAppear_passes {t : State} (ht : exec (.carrierAppear r) s = .next t) : Passes up r s t := by
  dsimp only [exec, execCarrierAppear] at ht
  refine event_passes h ?_ ht
  split
  next ha =>
    have hne : s.links[r].state ≠ .up := by rw [ha]; decide
    have hsame {u : State} (hu : ChangesOnly [.links, .counters, .notices] s u) (hl : u.links = s.links.set r
        { s.links[r] with state := .detected, carrier := true, sample := .none, filter := 0, rxSequence := 0, txSequence := 0,
                          keepaliveSeen := false, alertSeen := false, awaitingFirstUp := true }) : Passes up r s u :=
      .kept (h.relinkedSame hu.le hl ⟨by simp, Nat.zero_le _, fun _ => rfl, fun _ => h.queue_empty hne, (h.links r).2.2.2.2⟩ rfl
        ⟨fun he => LinkState.noConfusion he, fun he => absurd he hne⟩) (hu .stations (by decide))
    have hset : ChangesOnly [.links, .counters, .notices] s ((s.setLink r { s.links[r] with
        state := .detected, carrier := true, sample := .none, filter := 0, rxSequence := 0, txSequence := 0,
        keepaliveSeen := false, alertSeen := false, awaitingFirstUp := true }).count (.link r .carrierAppears)) :=
      (setLink_frame s r _).le.step (count_frame _ _)
    split
    · exact hsame (hset.step (note_frame _ _)) (by rfl)
    · exact hsame hset (by rfl)
  next => exact .kept h

theorem carrierLoss_passes {t : State} (ht : exec (.carrierLoss r) s = .next t) : Passes up r s t := by
  dsimp only [exec, execCarrierLoss] at ht
  refine event_passes h ?_ ht
  split
  next => exact .kept h
  next ha =>
    have hframe : ChangesOnly [.links, .counters] s ((s.setLink r { s.links[r] with
        state := .absent, carrier := false, sample := .none, filter := 0, keepaliveSeen := false, alertSeen := false,
        awaitingFirstUp := false }).count (.link r .carrierLosses)) := (setLink_frame s r _).le.step (count_frame _ _)
    split
    next hu =>
      exact exitUp_passes h hframe.le (State.count_links _ _) rfl
        ⟨by simp, Nat.zero_le _, fun _ => rfl, fun _ => rfl, (h.links r).2.2.2.2⟩ (by simp) (count_other _ (by simp))
    next hu =>
      exact .kept (h.relinkedSame hframe.le (State.count_links _ _)
        ⟨by simp, Nat.zero_le _, fun _ => rfl, fun _ => h.queue_empty hu, (h.links r).2.2.2.2⟩ rfl
        ⟨fun he => LinkState.noConfusion he, fun he => absurd he hu⟩)

omit h in
theorem sampled_sound {l : SeatLink} (hl : l.Sound) : l.sampled.Sound := by
  obtain ⟨h1, h2, h3, h4, h5⟩ := hl
  refine ⟨h1, ?_, fun hn => ?_, h4, h5⟩
  · unfold SeatLink.sampled
    dsimp only
    generalize (if l.keepaliveSeen = true then SampleKind.good else SampleKind.miss) = k
    split <;> omega
  · unfold SeatLink.sampled at hn
    dsimp only at hn
    split at hn <;> cases hn

theorem applyFilter_passes {v : State} (hv : v.Upheld up none) (hframe : ChangesOnly [.samplesDue] s v) :
    Passes up r s (v.applyFilter r s.links[r].sampled) := by
  have hlinks : v.links = s.links := hframe .links (by decide)
  have hlr : v.links[r] = s.links[r] := link_congr hlinks r
  have hsound := sampled_sound (h.links r)
  have hst : v.stations = s.stations := hframe .stations (by decide)
  have hkeep : (v.setLink r s.links[r].sampled).Upheld up none :=
    hv.relinkedSame (setLink_frame v r _).le rfl hsound (by rw [hlr]; rfl) (by rw [hlr]; rfl)
  have henter (hne : s.links[r].state ≠ .absent) : (v.enterUp r s.links[r].sampled).stations = s.stations ∧
      ∃ up', (∀ m, up m → up' m) ∧ (v.enterUp r s.links[r].sampled).Upheld up' none := by
    obtain ⟨hl, -, -, -, hf⟩ := enterUp_effect v r s.links[r].sampled
    obtain ⟨h1, h2, h3, h4, h5⟩ := hsound
    refine ⟨(hf .stations (by decide)).trans hst, fun m => up m ∨ m = r, fun _ => .inl, hv.enters hf.le hl
        ⟨?_, Nat.zero_le _, fun _ => rfl, fun hu => absurd rfl hu, h5⟩
      (by rw [hlr]; rfl) rfl⟩
    exact ⟨fun ha => absurd ha (by simp), fun hc => absurd (h1.mpr hc) hne⟩
  unfold State.applyFilter
  split
  next => exact .kept hv hst
  next hu =>
    split
    next =>
      obtain ⟨h1, h2, h3, h4, h5⟩ := hsound
      refine exitUp_passes h (l := { s.links[r].sampled with state := .down, sample := .none, filter := 0 })
        (hframe.le.step (setLink_frame v r _)) (by rw [State.setLink_links, hlinks]) rfl
        ⟨⟨fun ha => absurd ha (by simp), fun hc => absurd (h1.mpr hc) ?_⟩, Nat.zero_le _, fun _ => rfl, fun _ => rfl, h5⟩ (by simp) ?_
      · rw [hu]
        decide
      · exact counter_congr (s := s) (by rw [setLink_frame v r _ .counters (by decide), hframe .counters (by decide)]) _
    next => exact .kept hkeep hst
  next hd =>
    split
    · exact .inl (henter fun ha => by rw [show s.links[r].sampled.state = s.links[r].state from rfl, ha] at hd; cases hd)
    · exact .kept hkeep hst
  next hd =>
    split
    · exact .inl (henter fun ha => by rw [show s.links[r].sampled.state = s.links[r].state from rfl, ha] at hd; cases hd)
    · exact .kept hkeep hst

theorem sampleExpiry_passes {t : State} (ht : exec (.sampleExpiry r) s = .next t) : Passes up r s t := by
  have hdue : ChangesOnly [.samplesDue] s { s with samplesDue := s.samplesDue.set r (s.samplesDue[r] - 1) } := by
    rintro (_ | _) h <;> first | rfl | simp at h
  have hv := h.of_frame hdue hdue.linksCarry
  dsimp only [exec, execSampleExpiry] at ht
  refine event_passes h ?_ ht
  split
  · exact .kept h
  · split
    · exact .kept hv
    · exact applyFilter_passes h r hv hdue

end events

end Sys2Proof.Machine
end

section
/-! PROOFS. What the requests keep of the invariant of stations, and with it every command. -/

namespace Sys2Proof.Machine

/- The whole text is elaborated in one process: its proofs in turn, so that their threads' stacks stay within its memory. -/
set_option Elab.async false

/-! ### LINK_RESTART (R43) -/

section restart
variable {up : RadioIx → Prop} {s t : State} (h : s.Upheld up none) {r : RadioIx}

/-- The event's own state in place of the one that its request is taken from (R156). -/
theorem Passes.before {s0 : State} (hs : ChangesOnly [.lanes] s s0) (h : Passes up r s0 t) : Passes up r s t := by
  rcases h with ⟨hst, h⟩ | ⟨h', hq, hcount⟩
  · exact .inl ⟨hst.trans (hs .stations (by decide)), h⟩
  · have hst : s0.stations = s.stations := hs .stations (by decide)
    have hexited : Station.exited s0 r = Station.exited s r := funext fun st =>
      exited_congr (hs .channels (by decide)) (hs .settings (by decide)) (hs .sectorTime (by decide)) r st
    refine .inr ⟨⟨h'.upheld, fun j => ?_, h'.groups, hs.silent.trans h'.silent, h'.down, fun ix st n d p held hf => ?_⟩, hq, ?_⟩
    · rw [h'.found, hst, hexited]
    · exact h'.forced ix st n d p held (hst ▸ hf)
    · rw [Counted, hcount, counter_congr (hs .counters (by decide))]

theorem SilentTo.respond (s : State) (lane : LaneIx) (x : Response) : SilentTo r s (s.respond lane x) := by
  unfold State.respond
  split
  · split
    · exact .same rfl
    · exact .same (State.count_wire _ _)
  · exact (SilentTo.emit s fun b hb => by cases hb).trans (.same (State.count_wire _ _))

theorem Passes.answered {s0 owned : State} (hs : ChangesOnly [.lanes] s s0) (h : Passes up r s0 owned) (lane : LaneIx) (q : Request)
    (a : Answer) (block : List Byte) : Passes up r s (answered s lane q a block owned) :=
  ((h.before hs).after ((respond_frame owned lane _).mono (by decide)) (respond_steady owned lane _) (.respond owned lane _)
    (respond_counter owned _ (by simp) (by simp))).settle s.notices

/-- A restarted link's record, but for its transmit queue (R43). -/
def SeatLink.restarted (l : SeatLink) : SeatLink :=
  { l with state := if l.carrier then .detected else .absent, sample := .none, filter := 0, keepaliveSeen := false,
           alertSeen := false, awaitingFirstUp := l.carrier, rxSequence := 0, txSequence := 0, arm := none }

theorem restarted_state (l : SeatLink) : l.restarted.state ≠ .up := by
  unfold SeatLink.restarted
  dsimp only
  split <;> decide

theorem restarted_sound (l : SeatLink) {queue : List TxEntry} (hq : queue = []) : SeatLink.Sound { l.restarted with queue := queue } := by
  refine ⟨?_, Nat.zero_le _, fun _ => rfl, fun _ => hq, fun a ha => by cases ha⟩
  unfold SeatLink.restarted
  dsimp only
  rcases l.carrier with _ | _ <;> simp

theorem restartLink_eq (s : State) (r : RadioIx) : s.restartLink r =
    if s.links[r].carrier = true ∧ s.links[r].profile.detect = .onCarrier then
      (if s.links[r].state = .up then ((s.setLink r s.links[r].restarted).count (.link r .restarts)).exitUp r
        else ((s.setLink r s.links[r].restarted).count (.link r .restarts)).discardQueue r).note .linkDetected
    else if s.links[r].state = .up then ((s.setLink r s.links[r].restarted).count (.link r .restarts)).exitUp r
      else ((s.setLink r s.links[r].restarted).count (.link r .restarts)).discardQueue r := rfl

include h

theorem restartLink_passes (r : RadioIx) : Passes up r s (s.restartLink r) := by
  have hset : ChangesOnly [.links, .counters] s ((s.setLink r s.links[r].restarted).count (.link r .restarts)) :=
    (setLink_frame s r _).le.step (count_frame _ _)
  have hlinks : ((s.setLink r s.links[r].restarted).count (.link r .restarts)).links = s.links.set r s.links[r].restarted :=
    State.count_links _ _
  have hcount : ((s.setLink r s.links[r].restarted).count (.link r .restarts)).counter (.link r .linkDownExits) =
      s.counter (.link r .linkDownExits) := count_other _ (by simp)
  have hstate := restarted_state s.links[r]
  rw [restartLink_eq]
  generalize (s.setLink r s.links[r].restarted).count (.link r .restarts) = v at *
  have key : Passes up r s (if s.links[r].state = .up then v.exitUp r else v.discardQueue r) := by
    split
    next hu => exact exitUp_passes h hset.le hlinks rfl (restarted_sound _ rfl) hstate hcount
    next hu =>
      have hv : v.Upheld up none := h.relinkedSame hset.le hlinks (restarted_sound _ (h.queue_empty hu)) rfl
        ⟨fun he => absurd he hstate, fun he => absurd he hu⟩
      obtain ⟨k1, k2, k3, k4, k5⟩ := hv.links r
      have hdiscard : ChangesOnly [.links, .counters] v (v.discardQueue r) := (setLink_frame v r _).le.step (addTo_frame _ _ _)
      exact .kept (hv.relinkedSame hdiscard.le (State.addTo_links _ _ _) ⟨k1, k2, k3, fun _ => rfl, k5⟩ rfl Iff.rfl)
        ((hdiscard .stations (by decide)).trans (hset .stations (by decide)))
  generalize (if s.links[r].state = .up then v.exitUp r else v.discardQueue r) = w at *
  split
  · exact key.after ((note_frame w .linkDetected).mono (by decide)) (note_steady w _) (note_frame w .linkDetected).silent
      (counter_congr (note_frame w .linkDetected .counters (by decide)) _)
  · exact key

omit h in
/-- A request that may be served is; any other event of its row reaches nothing but what every service does. -/
theorem serve_ready_or {k : RequestKind} {lane : LaneIx} {owner : List Byte → State → Reply × State} (ht : serve lane k owner s = .next t) :
    (∃ q s0, Ready k lane q s s0) ∨ ChangesOnly serviceFields s t := by
  rcases hr : s.inReset with _ | _
  · by_cases hready : ∃ q s0, Ready k lane q s s0
    · exact .inl hready
    · refine .inr (event_frame ?_ (by decide) ht)
      unfold State.service
      split
      · exact .refl _ _
      next q s0 hh =>
        split
        next hk =>
          split
          next hn => exact absurd ⟨q, s0, hr, hh, hk, hn⟩ hready
          next => exact (((head_frame hh).le.step (count_frame _ _)).step (note_frame _ _)).step (respond_frame _ _ _)
        next => exact .refl _ _
  · unfold serve at ht
    rw [event_lost _ hr] at ht
    cases ht
    exact .inr (.refl _ _)

theorem ownLinkRestart_passes (params : List Byte) : ∃ r, Passes up r s (ownLinkRestart params s).2 := by
  unfold ownLinkRestart
  split
  · split
    · exact ⟨0, .kept h⟩
    next r _ => exact ⟨r, restartLink_passes h r⟩
  · exact ⟨0, .kept h⟩

theorem linkRestart_passes {lane : LaneIx} (ht : exec (.linkRestart lane) s = .next t) : ∃ r, Passes up r s t := by
  dsimp only [exec, execLinkRestart] at ht
  rcases serve_ready_or ht with ⟨q, s0, hready⟩ | hframe
  · have hs0 := ready_frame hready
    obtain ⟨r, hkey⟩ := ownLinkRestart_passes (h.of_frame hs0 hs0.linksCarry) q.params
    rw [serve_ready ownLinkRestart hready] at ht
    exact ⟨r, Host.Outcome.next.inj ht ▸ hkey.answered hs0 lane q _ _⟩
  · exact ⟨0, .kept (h.of_frame hframe hframe.linksCarry) (hframe .stations (by decide))⟩

end restart

end Sys2Proof.Machine
end

section
/-! PROOFS. What the requests' owners keep of the invariant of stations, and with it every command. -/

namespace Sys2Proof.Machine

/- The whole text is elaborated in one process: its proofs in turn, so that their threads' stacks stay within its memory. -/
set_option Elab.async false

/-! ### The owners of the requests -/

section owners
variable {up : RadioIx → Prop} {s : State} (h : s.Upheld up none) (params : List Byte)
include h

theorem State.Upheld.setProfile (r : RadioIx) (limit refill cap bias : Nat) (detect : DetectMode) (strict : Bool) :
    (s.setProfile r limit refill cap bias detect strict).2.Upheld up none := by
  unfold State.setProfile
  dsimp only
  split
  · exact h
  next hlim =>
    refine h.relinked (ChangesOnly.le (fs := [.links, .credit]) ?_) rfl (h.links r) (Nat.le_of_not_lt hlim) (h.ups r) id fun _ _ => Iff.rfl
    rintro (_ | _) hf <;> first | rfl | simp at hf

theorem State.Upheld.ownRadioProfileSet : (ownRadioProfileSet params s).2.Upheld up none := by
  unfold Machine.ownRadioProfileSet
  split
  · split
    · exact h.setProfile _ _ _ _ _ _ _
    · exact h
  · exact h

theorem State.Upheld.ownLinkFaultArm : (ownLinkFaultArm params s).2.Upheld up none := by
  unfold Machine.ownLinkFaultArm
  split
  · split
    next r k _ _ =>
      split
      next hn =>
        obtain ⟨h1, h2, h3, h4, -⟩ := h.links r
        refine h.relinkedSame (setLink_frame s r _).le rfl ⟨h1, h2, h3, h4, fun a ha => ?_⟩ rfl Iff.rfl
        cases ha
        exact ⟨hn.1, hn.2, hn.1⟩
      next => exact h
    next => exact h
  · exact h

theorem State.Upheld.dropFromRadios (ix : Nat) (st : Station) : (s.dropFromRadios ix st).Upheld up none := by
  unfold State.dropFromRadios
  split
  · exact h.sent _ _
  · split
    · exact h.sent _ _
    · exact (h.sent _ _).sent _ _
  · exact h

theorem State.Upheld.eject (ix : Nat) (a : Option Address) : (s.eject ix a).2.Upheld up none := by
  unfold State.eject
  split
  · split
    · exact h
    next st hf =>
      split
      · exact h
      · refine State.Upheld.counted ((h.dropFromRadios ix st).free ?_) _
        rw [dropFromRadios_frame s ix st .stations (by decide)]
        exact hf
  · exact h

theorem State.Upheld.ownStationEject : (ownStationEject params s).2.Upheld up none := by
  unfold Machine.ownStationEject
  split
  · split
    · exact h.eject _ _
    · exact h
  · exact h

theorem State.Upheld.clampRadio (period : Nat) (r : RadioIx) : (State.clampRadio period s r).Upheld up none := by
  refine h.relinkedSame (l := { s.links[r] with profile := { s.links[r].profile with refill := period * 1000 } })
    (ChangesOnly.le (fs := [.links, .credit]) ?_) rfl (h.links r) rfl Iff.rfl
  exact ((setLink_frame s r _).le (gs := [.links, .credit])).step (setCredit_frame _ _ _)

theorem State.Upheld.ownSectorSet : (ownSectorSet params s).2.Upheld up none := by
  unfold Machine.ownSectorSet State.setSector
  split
  · split
    · exact h
    next k _ =>
      refine State.Upheld.counted (foldl_induction (P := fun t => State.Upheld up none t)
          (fun t r ht => State.Upheld.clampRadio ht _ r) _ ?_) _
      exact h.congr rfl rfl rfl rfl rfl rfl (.same rfl)
  · exact h

theorem State.Upheld.ownMatchClear : (ownMatchClear params s).2.Upheld up none := by
  unfold Machine.ownMatchClear
  split
  · exact State.Upheld.counted h.cleared _
  · exact h

theorem State.Upheld.amendPass (slot : Nat) (p : Pass) (a : Amendment) : (s.amendPass slot p a).2.Upheld up none := by
  have ht := (h.setPass slot (a.apply p)).counted (.pass .amends)
  unfold State.amendPass
  dsimp only
  split
  · exact (ht.endPass _ _ _).counted _
  · exact foldl_induction (P := fun t => State.Upheld up none t) (fun t ix ht => State.Upheld.reload ht _ _ ix) _ ht

theorem State.Upheld.ownPassAmend : (ownPassAmend params s).2.Upheld up none := by
  unfold Machine.ownPassAmend
  split
  · exact h
  · split
    · exact h
    · split
      · exact h.amendPass _ _ _
      · exact h

theorem State.Upheld.revokePass (slot : Nat) (p : Pass) : (s.revokePass slot p).2.Upheld up none := by
  have ht : ((if p.inForce then s.endPass slot p .revoked else s.setPass slot { p with state := .revoked }).count
      (.pass .revocations)).Upheld up none := by
    refine State.Upheld.counted ?_ _
    split
    · exact h.endPass _ _ _
    · exact h.setPass _ _
  unfold State.revokePass
  dsimp only
  split
  · exact ht.noted _
  · exact ht

theorem State.Upheld.ownPassRevoke : (ownPassRevoke params s).2.Upheld up none := by
  unfold Machine.ownPassRevoke
  split
  · exact h
  · split
    · exact h
    · exact h.revokePass _ _

theorem State.Upheld.ownPassRemove : (ownPassRemove params s).2.Upheld up none := by
  unfold Machine.ownPassRemove
  split
  · exact h
  · split
    · exact h
    next slot p _ =>
      refine State.Upheld.counted ?_ _
      exact (h.unbindAll slot p.bound).congr rfl rfl rfl rfl rfl rfl (.same rfl)

theorem State.Upheld.ownChannelOpen : (ownChannelOpen params s).2.Upheld up none := by
  unfold Machine.ownChannelOpen
  split
  · split
    · split
      next hc => exact h.openLive hc _ _
      next hc => exact State.Upheld.counted (h.setChannel fun hl => absurd hl hc) _
    · exact h
  · exact h

theorem State.Upheld.ownChannelClose : (ownChannelClose params s).2.Upheld up none := by
  unfold Machine.ownChannelClose
  split
  · split
    · exact h
    · split
      · exact h.closeLive _
      · exact h
  · exact h

end owners

/-! ### The events -/

section events
variable {up : RadioIx → Prop} {s : State} (h : s.Upheld up none)
include h

theorem State.Upheld.strictForce (o : RadioIx) (ix : Nat) : (State.strictForce o s ix).Upheld up none := by
  unfold State.strictForce
  split
  · exact h
  next st hf =>
    split
    next c n d p held hp =>
      split
      next hc =>
        obtain ⟨rfl, hn⟩ := hc
        exact h.force hf hp hn (h.target_up hf hp) true
      next => exact h
    next => exact h

theorem State.Upheld.strictForceAll (o : RadioIx) : (s.strictForceAll o).Upheld up none :=
  foldl_induction (P := fun t => State.Upheld up none t) (fun _ ix ht => State.Upheld.strictForce ht o ix) _
    (h.congr rfl rfl rfl rfl rfl rfl (.same rfl))

theorem State.Upheld.keepalive (r : RadioIx) (alert : Bool) : (s.takeKeepalive r alert).Upheld up none :=
  h.of_frame (takeKeepalive_frame s r alert) (takeKeepalive_carry s r alert)

end events

/-- An event keeps the invariant where its effect does. -/
theorem event_upheld {up : RadioIx → Prop} {s t : State} {effect : State → State} (h : s.Upheld up none)
    (he : (effect s).Upheld up none) (ht : event s effect = .next t) : t.Upheld up none :=
  event_holds (fs := noticeFields) (fun _ _ hf hs => State.Upheld.of_frame hs hf hf.linksCarry) (fun _ => id) (fun _ => he) ht h

/-- A service keeps the invariant where its owner does. -/
theorem serve_upheld {up : RadioIx → Prop} {s t : State} {owner : List Byte → State → Reply × State} {lane : LaneIx} {k : RequestKind}
    (h : s.Upheld up none) (ho : ∀ params s, State.Upheld up none s → (owner params s).2.Upheld up none)
    (ht : serve lane k owner s = .next t) : t.Upheld up none :=
  serve_holds (fs := serviceFields) (fun _ _ hf hs => State.Upheld.of_frame hs hf hf.linksCarry) (fun _ => id) ho ht h

end Sys2Proof.Machine
end

section
/-! PROOFS. Every command keeps the laws about stations (O7, O8, O10, O12, O18), and what takes a link out of UP clears its radio (O19). -/

namespace Sys2Proof.Machine

/- The whole text is elaborated in one process: its proofs in turn, so that their threads' stacks stay within its memory. -/
set_option Elab.async false

/-- A command that can change the state of no link. -/
def keepsLinkStates : Instr → Bool
  | .powerOnReset _ | .carrierAppear _ | .carrierLoss _ | .sampleExpiry _ | .linkRestart _ => false
  | _ => true

section commands
variable {up : RadioIx → Prop} {s t : State} (h : s.Upheld up none)
include h

theorem State.Upheld.footprint {i : Instr} (ht : exec i s = .next t)
    (hd : ∀ f ∈ [Field.links, .stations, .addressMap, .stationCount, .holdFree, .channels, .groups], f ∉ footprint i) :
    t.Upheld up none := by
  have hframe := everyCommandKeepsToItsFootprint i s t ht
  exact h.of_frame hframe (hframe.linksCarry (hd _ (by decide))) fun f hf => hd f (List.mem_cons_of_mem _ hf)

/-- The deadlines, by whether there is a station whose deadline is passed (R16, R53, R54, R57). -/
theorem handoffDeadline_upheld {ix : StationIx} (ht : exec (.handoffDeadlineExpiry ix) s = .next t) : t.Upheld up none := by
  dsimp only [exec, execHandoffDeadlineExpiry] at ht
  refine event_upheld h ?_ ht
  split
  · exact h
  next st hf =>
    split
    next o n d p held hp =>
      split_ifs with hd ho
      · subst ho
        exact h.endReturn hf hp (h.old_up hf hp)
      · exact h.force hf hp (Ne.symm ho) (h.target_up hf hp) true
      · exact h
    next => exact h

theorem guardDeadline_upheld {ix : StationIx} (ht : exec (.guardDeadlineExpiry ix) s = .next t) : t.Upheld up none := by
  dsimp only [exec, execGuardDeadlineExpiry] at ht
  refine event_upheld h ?_ ht
  split
  · exact h
  next st hf =>
    split
    · exact h
    · split
      · exact h.unguarded hf
      · exact h

theorem orphanDeadline_upheld {ix : StationIx} (ht : exec (.orphanDeadlineExpiry ix) s = .next t) : t.Upheld up none := by
  dsimp only [exec, execOrphanDeadlineExpiry] at ht
  refine event_upheld h ?_ ht
  split
  · exact h
  next st hf =>
    split
    · split
      · exact ((h.free hf).counted _).noted _
      · exact h
    · exact h

/-- The messages from radio heads. -/
theorem released_upheld {r : RadioIx} {q : Byte} {station : Half} {device : Address} {undelivered : Half}
    (ht : exec (.released r q station device undelivered) s = .next t) : t.Upheld up none := by
  dsimp only [exec, execReleased] at ht
  refine event_upheld h (h.receive r q fun v hv _ => ?_) ht
  split
  · split
    · exact hv.strays
    next st hf => exact hv.released hf r device _
  · exact hv.strays

theorem corrupt_upheld {r : RadioIx} {bytes : List Byte} (ht : exec (.corruptControlMessage r bytes) s = .next t) : t.Upheld up none := by
  dsimp only [exec, execCorruptControlMessage] at ht
  refine event_upheld h ?_ ht
  have hc := (h.counted (.link r .crcErrors)).noted .crcError
  split
  · exact h
  · split
    · exact hc.strictForceAll r
    · exact hc

theorem malformed_upheld {r : RadioIx} {bytes : List Byte} (ht : exec (.malformedControlMessage r bytes) s = .next t) :
    t.Upheld up none := by
  dsimp only [exec, execMalformedControlMessage] at ht
  refine event_upheld h ?_ ht
  split
  · exact h
  · exact (h.checked r _).counted _

theorem keepalive_upheld {r : RadioIx} {q flags : Byte} (ht : exec (.keepalive r q flags) s = .next t) : t.Upheld up none := by
  dsimp only [exec, execKeepalive] at ht
  refine event_upheld h ?_ ht
  split
  · exact h
  · exact ((h.checked r q).counted _).keepalive r _

/-- Frames and packets. -/
theorem downlink_upheld {f : FanFrame} (ht : exec (.downlinkFanFrame f) s = .next t) : t.Upheld up none := by
  dsimp only [exec, execDownlinkFanFrame] at ht
  refine event_upheld h ?_ ht
  split
  · exact h.counted _
  next ix st hm =>
    have hf := State.mapped_found hm
    split
    next r p hp =>
      split
      · exact (h.of_frame (enqueue_frame s r _) (enqueue_carry (h.isUp hf ((isOn_associated r hp).mpr rfl)) _)).counted _
      · exact h.counted _
    next o n d p held hp => exact h.hold hf hp f
    next => exact h.counted _

theorem transmitComplete_upheld {r : RadioIx} (ht : exec (.transmitComplete r) s = .next t) : t.Upheld up none := by
  dsimp only [exec, execTransmitComplete] at ht
  refine event_upheld h ?_ ht
  split
  · exact h
  next e rest hq =>
    obtain ⟨h1, h2, h3, h4, h5⟩ := h.links r
    refine h.relinkedSame (((setLink_frame s r _).le).step (emit_frame _ _)) rfl ⟨h1, h2, h3, fun hu => ?_, h5⟩ rfl Iff.rfl
    have he := h4 hu
    rw [hq] at he
    cases he

theorem replayPacket_upheld {check : Bool} {body : List Byte} (ht : exec (.replayPacket check body) s = .next t) : t.Upheld up none := by
  dsimp only [exec, execReplayPacket] at ht
  refine event_upheld h ?_ ht
  split
  · exact h.counted _
  · split
    · exact h.counted _
    · exact h.ingress _

theorem groupDecision_upheld {r : RadioIx} {c : ChannelIx} {which : Nat} (ht : exec (.groupDecision r c which) s = .next t) :
    t.Upheld up none := by
  have hoffers (rest : List Offer) : State.Upheld up none { s with offers := rest } := h.congr rfl rfl rfl rfl rfl rfl (.same rfl)
  dsimp only [exec, execGroupDecision] at ht
  refine event_upheld h ?_ ht
  split
  · exact h
  next p rest _ =>
    split
    · exact hoffers rest
    next g hg => exact (hoffers rest).decideGroup (h.group_up hg) c g p

/-- The sweeps. -/
theorem expirySweepVisit_upheld (ht : exec .expirySweepVisit s = .next t) : t.Upheld up none := by
  have hv := h.expiryVisit s.expirySweep.cursor
  dsimp only [exec, execExpirySweepVisit] at ht
  refine event_upheld h ?_ ht
  generalize s.expiryVisit s.expirySweep.cursor = v at *
  have hsweep (w : Sweep) : State.Upheld up none { v with expirySweep := w } := hv.congr rfl rfl rfl rfl rfl rfl (.same rfl)
  split_ifs
  · exact hsweep _
  · exact ((hsweep _).counted _).noted _
  · exact h

theorem zoneSweepVisit_upheld (ht : exec .zoneSweepVisit s = .next t) : t.Upheld up none := by
  have hv := h.zoneVisit s.zoneSweep.cursor
  dsimp only [exec, execZoneSweepVisit] at ht
  refine event_upheld h ?_ ht
  generalize s.zoneVisit s.zoneSweep.cursor = v at *
  have hsweep (w : Sweep) : State.Upheld up none { v with zoneSweep := w } := hv.congr rfl rfl rfl rfl rfl rfl (.same rfl)
  split_ifs
  · exact hsweep _
  · exact ((hsweep _).counted _).noted _
  · exact h

/-- Every command but power-on reset and those of a link's own state keeps the laws about stations, and every link UP that is UP. -/
theorem exec_upheld {i : Instr} (hq : keepsLinkStates i = true) (ht : exec i s = .next t) : t.Upheld up none := by
  cases i with
  | powerOnReset e => cases hq
  | carrierAppear r => cases hq
  | carrierLoss r => cases hq
  | sampleExpiry r => cases hq
  | linkRestart l => cases hq
  | handoffDeadlineExpiry ix => exact handoffDeadline_upheld h ht
  | guardDeadlineExpiry ix => exact guardDeadline_upheld h ht
  | orphanDeadlineExpiry ix => exact orphanDeadline_upheld h ht
  | join r q a rate =>
    dsimp only [exec, execJoin] at ht
    exact event_upheld h (h.receive r q fun v hv hu => hv.join hu a _) ht
  | roam r q a rate flags =>
    dsimp only [exec, execRoam] at ht
    exact event_upheld h (h.receive r q fun v hv hu => hv.roam hu a _ _) ht
  | leave r q ix =>
    dsimp only [exec, execLeave] at ht
    exact event_upheld h (h.receive r q fun v hv _ => hv.screen r ix fun ix st hf _ => hv.leave hf r) ht
  | rate r q ix rate =>
    dsimp only [exec, execRate] at ht
    exact event_upheld h (h.receive r q fun v hv _ => hv.screen r ix fun ix st hf _ => hv.rated hf _) ht
  | claim r q ix pass code =>
    dsimp only [exec, execClaim] at ht
    exact event_upheld h (h.receive r q fun v hv _ => hv.screen r ix fun ix st hf _ => hv.claim hf r pass code) ht
  | subscribe r q ix channel =>
    dsimp only [exec, execSubscribe] at ht
    exact event_upheld h (h.receive r q fun v hv _ => hv.screen r ix fun ix st hf hon => hv.subscribe hf r hon channel) ht
  | unsubscribe r q ix channel =>
    dsimp only [exec, execUnsubscribe] at ht
    exact event_upheld h (h.receive r q fun v hv _ => hv.screen r ix fun ix st hf _ => hv.unsubscribe hf r channel) ht
  | released r q ix device undelivered => exact released_upheld h ht
  | keepalive r q flags => exact keepalive_upheld h ht
  | corruptControlMessage r bytes => exact corrupt_upheld h ht
  | malformedControlMessage r bytes => exact malformed_upheld h ht
  | downlinkFanFrame f => exact downlink_upheld h ht
  | transmitComplete r => exact transmitComplete_upheld h ht
  | replayPacket check body => exact replayPacket_upheld h ht
  | groupDecision r c which => exact groupDecision_upheld h ht
  | expirySweepVisit => exact expirySweepVisit_upheld h ht
  | zoneSweepVisit => exact zoneSweepVisit_upheld h ht
  | radioProfileSet l =>
    dsimp only [exec, execRadioProfileSet] at ht
    exact serve_upheld h (fun p s hs => State.Upheld.ownRadioProfileSet hs p) ht
  | linkFaultArm l =>
    dsimp only [exec, execLinkFaultArm] at ht
    exact serve_upheld h (fun p s hs => State.Upheld.ownLinkFaultArm hs p) ht
  | stationEject l =>
    dsimp only [exec, execStationEject] at ht
    exact serve_upheld h (fun p s hs => State.Upheld.ownStationEject hs p) ht
  | sectorSet l =>
    dsimp only [exec, execSectorSet] at ht
    exact serve_upheld h (fun p s hs => State.Upheld.ownSectorSet hs p) ht
  | matchClear l =>
    dsimp only [exec, execMatchClear] at ht
    exact serve_upheld h (fun p s hs => State.Upheld.ownMatchClear hs p) ht
  | passAmend l =>
    dsimp only [exec, execPassAmend] at ht
    exact serve_upheld h (fun p s hs => State.Upheld.ownPassAmend hs p) ht
  | passRevoke l =>
    dsimp only [exec, execPassRevoke] at ht
    exact serve_upheld h (fun p s hs => State.Upheld.ownPassRevoke hs p) ht
  | passRemove l =>
    dsimp only [exec, execPassRemove] at ht
    exact serve_upheld h (fun p s hs => State.Upheld.ownPassRemove hs p) ht
  | channelOpen l =>
    dsimp only [exec, execChannelOpen] at ht
    exact serve_upheld h (fun p s hs => State.Upheld.ownChannelOpen hs p) ht
  | channelClose l =>
    dsimp only [exec, execChannelClose] at ht
    exact serve_upheld h (fun p s hs => State.Upheld.ownChannelClose hs p) ht
  | _ => exact h.footprint ht (by simp [Machine.footprint, serviceFields, noticeFields])

/-- A command of a link's own state, by the radio that it is about. -/
theorem exec_passes {i : Instr} (hq : keepsLinkStates i = false) (hp : ∀ e, i ≠ .powerOnReset e) (ht : exec i s = .next t) :
    ∃ r, Passes up r s t := by
  cases i with
  | powerOnReset e => exact absurd rfl (hp e)
  | carrierAppear r => exact ⟨r, carrierAppear_passes h r ht⟩
  | carrierLoss r => exact ⟨r, carrierLoss_passes h r ht⟩
  | sampleExpiry r => exact ⟨r, sampleExpiry_passes h r ht⟩
  | linkRestart l => exact linkRestart_passes h ht
  | _ => cases hq

end commands

end Sys2Proof.Machine
end

section
/-! PROOFS. The laws about stations after every step (O7, O8, O10, O12, O18), and the exit of a link from UP (O19). -/

namespace Sys2Proof.Machine

/- The whole text is elaborated in one process: its proofs in turn, so that their threads' stacks stay within its memory. -/
set_option Elab.async false

/-- The laws about stations hold of a state, whichever radios have their link UP. -/
def State.Housed (s : State) : Prop := ∃ up, s.Upheld up none

theorem powerOnReset_housed {e : ResetEvent} {s t : State} (ht : exec (.powerOnReset e) s = .next t) (h : s.Housed) : t.Housed := by
  obtain ⟨up, hu⟩ := h
  rcases powerOnReset_cases ht with rfl | ⟨carrier, rfl⟩
  · exact ⟨up, hu.congr rfl rfl rfl rfl rfl rfl (.same rfl)⟩
  · exact ⟨_, (powerOn_inv (carrier := carrier)).upheld.congr rfl rfl rfl rfl rfl rfl (.same rfl)⟩

theorem exec_housed {i : Instr} {s t : State} (ht : exec i s = .next t) (h : s.Housed) : t.Housed := by
  obtain ⟨up, hu⟩ := h
  rcases eq_powerOnReset_or i with ⟨e, rfl⟩ | hp
  · exact powerOnReset_housed ht ⟨up, hu⟩
  · rcases hq : keepsLinkStates i with _ | _
    · obtain ⟨r, hpass⟩ := exec_passes hu hq hp ht
      exact hpass.holds
    · exact ⟨up, exec_upheld hu hq ht⟩

theorem step_housed {s t : State} (ht : step s = .next t) (h : s.Inv) : t.Housed :=
  step_keeps (P := State.Housed) (fun _ _ ⟨up, hu⟩ => ⟨up, hu.congr rfl rfl rfl rfl rfl rfl (.same rfl)⟩) (fun _ _ _ => exec_housed) ht
    ⟨_, h.upheld⟩

/-- Settles O7: the first law is part of what every command keeps about stations. -/
theorem addressLawKept : Obligations.AddressLawKept := by
  intro s t h ht
  obtain ⟨_, hu⟩ := step_housed ht h
  exact hu.addressLaw

/-- Settles O8, as O7. -/
theorem countLawKept : Obligations.CountLawKept := by
  intro s t h ht
  obtain ⟨_, hu⟩ := step_housed ht h
  exact hu.countLaw

/-- Settles O10, as O7. -/
theorem subscriptionAndGroupLawsKept : Obligations.SubscriptionAndGroupLawsKept := by
  intro s t h ht
  obtain ⟨_, hu⟩ := step_housed ht h
  exact ⟨hu.subscriptionLaw, hu.groupLaw⟩

/-- Settles O12, as O7. -/
theorem holdLawKept : Obligations.HoldLawKept := by
  intro s t h ht
  obtain ⟨_, hu⟩ := step_housed ht h
  exact hu.holdLaw

/-- Settles O18, as O7. -/
theorem linksSoundKept : Obligations.LinksSoundKept := by
  intro s t h ht
  obtain ⟨_, hu⟩ := step_housed ht h
  exact hu.linksSound

/-! ### The exit of a link from UP (R29) -/

/-- A command that takes a link out of UP does it as R29 has it. -/
theorem exec_exits {i : Instr} {s t : State} {r : RadioIx} (hp : ∀ e, i ≠ .powerOnReset e) (h : s.Inv) (ht : exec i s = .next t)
    (hu : s.links[r].state = .up) (hd : t.links[r].state ≠ .up) :
    Vacated (fun m => s.links[m].state = .up ∧ m ≠ r) r s t ∧ t.links[r].queue = [] ∧ Counted s t (.link r .linkDownExits) 1 := by
  rcases hq : keepsLinkStates i with _ | _
  · obtain ⟨r', hpass⟩ := exec_passes h.upheld hq hp ht
    rcases hpass with ⟨-, up', hmono, hup⟩ | hexit
    · exact absurd ((hup.ups r).mpr (hmono r hu)) hd
    · by_cases hr : r = r'
      · exact hr ▸ hexit
      · exact absurd ((hexit.1.upheld.ups r).mpr ⟨hu, hr⟩) hd
  · exact absurd (((exec_upheld h.upheld hq ht).ups r).mpr hu) hd

section vacated
variable {up : RadioIx → Prop} {s t : State} {r : RadioIx} (h : Vacated up r s t)
include h

theorem Vacated.isOn (hwf : Table.wf t.stations) : ∀ e ∈ t.stations, e.2.isOn r = false := fun e he => by
  exact found_exited_off h.found e.1 e.2 (Table.find_of_mem hwf he)

theorem Vacated.station {ix : Nat} {st : Station} (hf : s.stations.find ix = some st) : t.stations.find ix = some (st.exited s r) := by
  rw [h.found, hf]
  rfl

end vacated

/-- Settles O19: by the command that takes the link out of UP, and by the place of each station on the radio. -/
theorem everyExitFromUpClearsTheRadio : Obligations.EveryExitFromUpClearsTheRadio := by
  intro i s t r hp h ht hu hd
  obtain ⟨hv, hqueue, hcount⟩ := exec_exits hp h ht hu hd
  refine ⟨hv.isOn hv.upheld.wf, hv.groups, hqueue, hv.down, hcount, hv.silent, fun e he orphaned ho => ?_⟩
  have hf := Table.find_of_mem h.upheld.wf he
  have hst := hv.station hf
  have horphaned (hc : e.2.current = r) : orphaned = e.2.orphaned s := by rw [ho, Station.orphaned, hc]
  refine ⟨fun p hpl => ?_, fun d p held hpl => ?_, fun n d p held hpl hn => ⟨?_, hv.forced e.1 e.2 n d p held hf hpl hn⟩,
    fun o d p held hpl hne => ?_, fun hoff => ?_⟩
  · rw [hst, exited_associated s hpl, horphaned (by rw [Station.current, hpl])]
  · rw [hst, exited_return s hpl, horphaned (by rw [Station.current, hpl])]
  · rw [hst, exited_outward s hpl hn]
    rfl
  · rw [hst, exited_towards s hpl hne]
  · rw [hst, exited_off s hoff]

end Sys2Proof.Machine
end

section
/-! PROOFS. Which commands leave every binding as it stands: the binding and the tier of each context, over the commands that reach
neither a pass nor the seat map. -/

namespace Sys2Proof.Machine

/- The whole text is elaborated in one process: its proofs in turn, so that their threads' stacks stay within its memory. -/
set_option Elab.async false

/-- A context's binding and tier. -/
def State.bond (s : State) (ix : Nat) : Option (Option Binding × Tier) := (s.stations.find ix).map fun st => (st.binding, st.tier)

/-- From `s` to `t` every context keeps its binding and its tier, and one that was FREE is a GUEST without a binding if it is allocated. -/
def BondsKept (s t : State) : Prop := ∀ ix, t.bond ix = s.bond ix ∨ (s.bond ix = none ∧ t.bond ix = some (none, .guest))

theorem bond_found {s : State} {ix : Nat} {st : Station} (h : s.stations.find ix = some st) : s.bond ix = some (st.binding, st.tier) := by
  rw [State.bond, h]
  rfl

theorem bond_congr {s t : State} (h : t.stations = s.stations) (ix : Nat) : t.bond ix = s.bond ix := by rw [State.bond, State.bond, h]

section kept
variable {s t u : State}

theorem BondsKept.same (h : t.stations = s.stations) : BondsKept s t := fun ix => .inl (bond_congr h ix)

theorem BondsKept.refl (s : State) : BondsKept s s := .same rfl

theorem ChangesOnly.bonds {fs : List Field} (h : ChangesOnly fs s t) (hf : Field.stations ∉ fs := by decide) : BondsKept s t :=
  .same (h .stations hf)

theorem BondsKept.trans (h : BondsKept s t) (k : BondsKept t u) : BondsKept s u := fun ix => by
  rcases k ix with hk | ⟨hk, hk'⟩
  · rw [hk]
    exact h ix
  · rcases h ix with hh | ⟨-, hh⟩
    · exact .inr ⟨hh ▸ hk, hk'⟩
    · rw [hh] at hk
      cases hk

/-- What follows reaches no station. -/
theorem BondsKept.step {fs : List Field} (h : BondsKept s t) (hf : ChangesOnly fs t u) (hs : Field.stations ∉ fs := by decide) :
    BondsKept s u := h.trans (hf.bonds hs)

theorem BondsKept.put {ix : Nat} {st st' : Station} (h : t.stations = s.stations.put ix st') (hf : s.stations.find ix = some st)
    (hb : st'.binding = st.binding) (ht : st'.tier = st.tier) : BondsKept s t := fun j => by
  refine .inl ?_
  rw [State.bond, State.bond, h, Table.find_put]
  split
  next hj => rw [hj, hf, Option.map_some, Option.map_some, hb, ht]
  next => rfl

theorem BondsKept.map {f : Nat → Station → Station} (h : ∀ j, t.stations.find j = (s.stations.find j).map (f j))
    (hf : ∀ j st, (f j st).binding = st.binding ∧ (f j st).tier = st.tier) : BondsKept s t := fun j => by
  refine .inl ?_
  rw [State.bond, State.bond, h, Option.map_map]
  congr 1
  funext st
  rw [Function.comp_apply, (hf j st).1, (hf j st).2]

theorem BondsKept.foldl {α : Type} {f : State → α → State} (h : ∀ s a, BondsKept s (f s a)) (l : List α) (s : State) :
    BondsKept s (l.foldl f s) := foldl_induction (P := BondsKept s) (fun t a ht => ht.trans (h t a)) l (.refl s)

end kept

/-! ### The operations on stations -/

section operations
variable {s : State} {ix : Nat} {st : Station} (hf : s.stations.find ix = some st)

theorem exited_kept (s : State) (r : RadioIx) (st : Station) : (st.exited s r).binding = st.binding ∧ (st.exited s r).tier = st.tier := by
  unfold Station.exited
  split
  · split <;> exact ⟨rfl, rfl⟩
  · split_ifs <;> exact ⟨rfl, rfl⟩
  · exact ⟨rfl, rfl⟩

include hf

theorem complete_bonds (o n : RadioIx) (held : List FanFrame) : BondsKept s (s.complete ix st o n held) :=
  .put (complete_stations s ix st o n held) hf rfl rfl

theorem force_bonds (o n : RadioIx) (held : List FanFrame) (withDrop : Bool) : BondsKept s (s.force ix st o n held withDrop) :=
  .put (force_stations s ix st o n held withDrop) hf rfl rfl

theorem endReturn_bonds (o : RadioIx) (p : Option Prior) (held : List FanFrame) : BondsKept s (s.endReturn ix st o p held) :=
  .put (endReturn_stations s ix st o p held) hf rfl rfl

theorem abandonToOrphan_bonds (held : List FanFrame) : BondsKept s (s.abandonToOrphan ix st held) := by
  rw [abandonToOrphan_eq]
  exact BondsKept.step ((BondsKept.put (orphan_stations s ix st) hf rfl rfl).step (strand_frame s ix st held)) (count_frame _ _)

theorem readmit_bonds (r : RadioIx) (rate : RateClass) : BondsKept s (s.readmit r ix st rate) := by
  rw [readmit_eq]
  exact ((BondsKept.put (st' := { st with rate := rate }) rfl hf rfl rfl).step (send_frame _ _ _)).step (count_frame _ _)

theorem restore_bonds (r : RadioIx) (rate : RateClass) : BondsKept s (s.restore r ix st rate) := by
  rcases hr : s.radioFull r with _ | _
  · exact .put (restore_stations hr ix st rate) hf rfl rfl
  · rw [restore_full hr]
    exact (refuseFull_frame s _ _ _).bonds

/-- A handoff that begins or whose target moves: the place and the rate class alone. -/
theorem towards_bonds {place : Place} {rate : RateClass} {u t : State} {fs : List Field}
    (hu : u.stations = s.stations.put ix { st with place := place, rate := rate }) (ht : ChangesOnly fs u t)
    (hfs : Field.stations ∉ fs := by decide) : BondsKept s t :=
  (BondsKept.put (st' := { st with place := place, rate := rate }) hu hf rfl rfl).step ht hfs

theorem roamAssociated_bonds (o n : RadioIx) (p : Option Prior) (rate : RateClass) (linkLost : Bool) :
    BondsKept s (s.roamAssociated ix st o n p rate linkLost) := by
  unfold State.roamAssociated
  split_ifs
  · exact (refuseFull_frame s _ _ _).bonds
  · exact (((send_frame s _ _).bonds).step (count_frame _ _)).step (note_frame _ _)
  · exact towards_bonds hf rfl (((raiseCount_frame _ _).le (gs := .stationCount :: sendFields)).step (count_frame _ _) |>.step
      (send_frame _ _ _))

theorem roamHandoff_bonds (o n m : RadioIx) (p : Option Prior) (held : List FanFrame) (rate : RateClass) :
    BondsKept s (s.roamHandoff ix st o n m p held rate) := by
  have hmoved {u t : State} {target : RadioIx} (hu : u.stations = (s.towards ix st o target p held rate).stations)
      (ht : ChangesOnly sendFields u t) : BondsKept s ((t.count (.station .supersedes)).note .superseded) :=
    ((towards_bonds hf hu ht).step (count_frame _ _)).step (note_frame _ _)
  unfold State.roamHandoff State.renewOutward State.turnToReturn State.supersede
  split_ifs
  · exact readmit_bonds hf m rate
  · exact (refuseFull_frame s _ _ _).bonds
  · exact hmoved (u := (s.towards ix st o m p held rate).raiseCount m) rfl (send_frame _ _ _)
  · exact hmoved (u := (s.towards ix st o o p held rate).lowerCount n) rfl (send_frame _ _ _)
  · exact (refuseFull_frame s _ _ _).bonds
  · exact hmoved (u := ((s.towards ix st o m p held rate).raiseCount m).lowerCount n) rfl (send_frame _ _ _)

end operations

/-! ### The messages -/

section messages
variable (s : State)

theorem allocate_bonds (r : RadioIx) (a : Address) (rate : RateClass) : BondsKept s (s.allocate r a rate) := by
  rcases hr : s.radioFull r with _ | _
  · rcases hix : s.stations.lowestFree 4096 with _ | ix
    · rw [allocate_tableFull hr hix]
      exact (((send_frame s _ _).bonds).step (count_frame _ _)).step (note_frame _ _)
    · rw [allocate_free hr hix]
      refine BondsKept.step (t := s.allocated r a rate ix) (fun j => ?_) (send_frame _ _ _)
      have hst : (s.allocated r a rate ix).stations = s.stations.put ix (.fresh a r rate) := rfl
      have hfree := (Table.lowestFree_spec hix).2.1
      rw [State.bond, State.bond, hst, Table.find_put]
      split
      next hj =>
        rw [hj, hfree]
        exact .inr ⟨rfl, rfl⟩
      next => exact .inl rfl
  · rw [allocate_full hr]
    exact (refuseFull_frame s _ _ _).bonds

theorem roam_bonds (r : RadioIx) (a : Address) (rate : RateClass) (linkLost : Bool) : BondsKept s (s.roam r a rate linkLost) := by
  refine ((count_frame s (.station .roamsReceived)).bonds).trans ?_
  unfold State.roam
  dsimp only
  generalize s.count (.station .roamsReceived) = v
  split
  · exact allocate_bonds v r a rate
  next ix st hm =>
    have hf := State.mapped_found hm
    split
    · exact restore_bonds hf r rate
    · split
      · exact readmit_bonds hf r rate
      · exact roamAssociated_bonds hf _ _ _ _ _
    · exact roamHandoff_bonds hf _ _ _ _ _ _

theorem join_bonds (r : RadioIx) (a : Address) (rate : RateClass) : BondsKept s (s.join r a rate) := by
  unfold State.join
  split
  · exact allocate_bonds s r a rate
  next ix st hm =>
    have hf := State.mapped_found hm
    split
    · exact restore_bonds hf r rate
    · split
      · exact readmit_bonds hf r rate
      · exact roam_bonds s r a rate true
    · exact roam_bonds s r a rate true

theorem receive_bonds (r : RadioIx) (q : Byte) {owner : State → State} (h : ∀ v, BondsKept v (owner v)) :
    BondsKept s (s.receive r q owner) := by
  have hc (c : Counter) : BondsKept s ((s.checkSequence r q).count c) := ((checkSequence_frame s r q).bonds).step (count_frame _ _)
  unfold State.receive
  split
  · exact .refl s
  · exact (hc _).trans (h _)
  · exact hc _
  · exact hc _

theorem stray_bonds : BondsKept s s.stray := ((count_frame s _).bonds).step (note_frame _ _)

theorem screen_bonds (r : RadioIx) (field : Half) {owner : Nat → Station → State → State}
    (h : ∀ ix st, s.stations.find ix = some st → BondsKept s (owner ix st s)) : BondsKept s (s.screen r field owner) := by
  unfold State.screen
  split
  · exact stray_bonds s
  next ix st hx => exact h ix st (screened_found hx).2.2.1

theorem released_bonds (r : RadioIx) {ix : Nat} {st : Station} (hf : s.stations.find ix = some st) (device : Address) (undelivered : Nat) :
    BondsKept s (s.released r ix st device undelivered) := by
  have hlate : BondsKept s s.late := ((count_frame s _).bonds).step (note_frame _ _)
  unfold State.released
  split
  · exact stray_bonds s
  · exact hlate
  next o n d p held hp =>
    split_ifs
    · exact ((complete_bonds hf o n held).step (count_frame _ _)).step (addTo_frame _ _ _)
    · have ht : ((s.count (.link r .responseErrors)).note .responseError).stations = s.stations := by
        rw [State.note_stations, State.count_stations]
      exact (BondsKept.same ht).trans (force_bonds (ht ▸ hf) o n held true)
    · exact ((count_frame s _).bonds).step (note_frame _ _)
    · exact hlate

theorem subscribe_bonds (r : RadioIx) {ix : Nat} {st : Station} (hf : s.stations.find ix = some st) (channel : Byte) :
    BondsKept s (s.subscribe r ix st channel) := by
  have hanswer (c : Counter) (result : SubResult) : BondsKept s ((s.count c).subAnswer r ix channel result) :=
    ((count_frame s c).bonds).step (send_frame _ _ _)
  have hadd (c : ChannelIx) : BondsKept s ((s.addEntry r ix st c).subAnswer r ix channel .ok) := by
    refine BondsKept.step (BondsKept.put (ix := ix)
      (st' := { st with subs := st.subs ++ [{ channel := c, awaitingKey := true, paused := pausedNow s.channels st c }] }) ?_ hf rfl rfl)
      (send_frame _ _ _)
    rw [State.addEntry, State.count_stations, joinGroup_frame _ _ _ _ .stations (by decide)]
    rfl
  unfold State.subscribe
  split
  · unfold State.subscribeHere
    split
    · split <;> exact hanswer _ _
    · split_ifs
      · exact hanswer _ _
      · exact hanswer _ _
      · exact hadd _
      · exact hanswer _ _
  · exact hanswer _ _

theorem dropEntry_bonds {ix : Nat} {st : Station} (hf : s.stations.find ix = some st) (c : ChannelIx) : BondsKept s (s.dropEntry ix st c) :=
  .put (dropEntry_stations c s ix st) hf rfl rfl

theorem unsubscribe_bonds (r : RadioIx) {ix : Nat} {st : Station} (hf : s.stations.find ix = some st) (channel : Byte) :
    BondsKept s (s.unsubscribe r ix st channel) := by
  unfold State.unsubscribe State.unsubscribeHere
  split_ifs
  · refine BondsKept.step ?_ (send_frame _ _ _)
    split
    · exact (count_frame s _).bonds
    · split
      · exact (dropEntry_bonds s hf _).step (count_frame _ _)
      · exact (count_frame s _).bonds
  · exact ((count_frame s _).bonds).step (send_frame _ _ _)

theorem strictForce_bonds (o : RadioIx) (ix : Nat) : BondsKept s (State.strictForce o s ix) := by
  unfold State.strictForce
  split
  · exact .refl s
  next st hf =>
    split
    · split
      · exact force_bonds hf _ _ _ _
      · exact .refl s
    · exact .refl s

theorem hold_bonds {ix : Nat} {st : Station} (hf : s.stations.find ix = some st) (o n : RadioIx) (d : Word) (p : Option Prior)
    (held : List FanFrame) (f : FanFrame) : BondsKept s (s.hold ix st o n d p held f) := by
  have hput (held' : List FanFrame) {t : State} {fs : List Field}
      (ht : ChangesOnly fs (s.setStation ix { st with place := .handoff o n d p held' }) t) (hfs : Field.stations ∉ fs) : BondsKept s t :=
    (BondsKept.put (st' := { st with place := .handoff o n d p held' }) rfl hf rfl rfl).step ht hfs
  unfold State.hold
  split_ifs
  · exact ((count_frame s _).bonds).step (note_frame _ _)
  · refine hput (held ++ [f]) (fs := [.holdFree, .counters]) (ChangesOnly.step (ChangesOnly.le (fs := [.holdFree]) ?_) (count_frame _ _))
      (by decide)
    rintro (_ | _) h <;> first | rfl | simp at h
  · exact hput (held.drop 1 ++ [f]) (((count_frame _ _).le (gs := [.counters])).step (count_frame _ _)) (by decide)

theorem clearAwaiting_bonds (c : ChannelIx) (ix : Nat) : BondsKept s (State.clearAwaiting c s ix) :=
  .map (clearAwaiting_find c s ix) fun j st => by split <;> exact ⟨rfl, rfl⟩

theorem decideGroup_bonds (r : RadioIx) (c : ChannelIx) (g : Group) (p : Packet) : BondsKept s (s.decideGroup r c g p) := by
  have hdrop (cause : Counter) (src : Source) : BondsKept s (((s.deliver r c .skipToKey).count cause).note src) :=
    (((deliver_frame s r c .skipToKey).bonds).step (count_frame _ _)).step (note_frame _ _)
  unfold State.decideGroup State.decideFor
  dsimp only
  split_ifs
  · exact (count_frame s _).bonds
  · exact (count_frame s _).bonds
  · exact hdrop _ _
  · split
    · exact hdrop _ _
    next credit _ =>
      have hsend : BondsKept s ((((s.setCredit r credit).enqueue r
          (copies c p s.links[r].profile.bias (s.recipients c p.cls g.members)))).afterSend
          r c p.cls (s.recipients c p.cls g.members)) := by
        refine BondsKept.trans (t := (s.setCredit r credit).enqueue r (copies c p s.links[r].profile.bias (s.recipients c p.cls g.members)))
          (((setCredit_frame s r credit).bonds).step (enqueue_frame _ r _)) ?_
        unfold State.afterSend
        split
        · exact .refl _
        · exact ((deliver_frame _ r c .inStep).bonds).trans (BondsKept.foldl (fun s ix => clearAwaiting_bonds s c ix) _ _)
      unfold State.sendCopies
      dsimp only
      refine BondsKept.step (BondsKept.step (BondsKept.step ?_ (addTo_frame _ _ _)) (count_frame _ _)) (addTo_frame _ _ _)
      split
      · exact hsend
      · exact hsend.step (count_frame _ _)

end messages

/-! ### The channels -/

section channels
variable {s : State} (c : ChannelIx)

theorem examine_bonds (s : State) (oc lc : Bool) (ix : Nat) : BondsKept s (State.examine c oc lc s ix) := by
  unfold State.examine
  split
  · exact .refl s
  next st hf =>
    split_ifs
    · exact (dropEntry_bonds s hf c).step (count_frame _ _)
    · exact .put (st' := st.reflaggedFor s.channels c) rfl hf rfl rfl
    · exact .refl s

theorem ownChannelOpen_bonds (params : List Byte) (s : State) : BondsKept s (ownChannelOpen params s).2 := by
  unfold ownChannelOpen
  split
  · split
    · split
      next c o l _ _ _ _ =>
        unfold State.openLive
        refine BondsKept.step (BondsKept.trans (BondsKept.same ?_) (BondsKept.foldl (fun s ix => examine_bonds c s _ _ ix) _ _))
            (count_frame _ _)
        rfl
      next => exact (BondsKept.same (by rfl)).step (count_frame _ _)
    · exact .refl s
  · exact .refl s

theorem ownChannelClose_bonds (params : List Byte) (s : State) : BondsKept s (ownChannelClose params s).2 := by
  unfold ownChannelClose
  split
  · split
    · exact .refl s
    · split
      next c _ _ =>
        obtain ⟨-, hst, -⟩ := closeLive_effect s c
        refine BondsKept.map (f := fun _ => Station.without c) (fun j => ?_) fun _ _ => ⟨rfl, rfl⟩
        rw [hst]
        exact Table.find_map s.stations (Station.without c) j
      next => exact .refl s
  · exact .refl s

end channels

end Sys2Proof.Machine
end

section
/-! PROOFS. The third, fourth and twelfth laws (R92, R109) as one invariant, in terms of what the tables read. -/

namespace Sys2Proof.Machine

/- The whole text is elaborated in one process: its proofs in turn, so that their threads' stacks stay within its memory. -/
set_option Elab.async false

/-- The tier that goes with a binding (R92). -/
def bindingTier : Option Binding → Tier
  | none => .guest
  | some b => b.tier

/-- A running zone sweep has visited the station, or none is running (R109). -/
def State.swept (s : State) (ix : Nat) : Prop := s.zoneSweep.running = false ∨ ix < s.zoneSweep.cursor

/-- A binding is as its pass gives it, its zone set as far as the zone sweep has got (R92, R109). -/
structure Binding.Follows (b : Binding) (s : State) (ix : Nat) (p : Pass) : Prop where
  tier : b.tier = p.tier
  mask : b.mask = p.mask
  zone : s.swept ix → b.zone = zoneOf s.seatMap p.home p.width

/-- The laws of bindings, but that the bound list of a pass out of force is empty: each binding names a pass that lists its station, and
follows that pass but for the stations `ex`; each listed station is bound to the pass. -/
structure State.Bonded (ex : Nat → Prop) (s : State) : Prop where
  wf : s.passes.wf = true
  tiered : ∀ ix b tier, s.bond ix = some (b, tier) → tier = bindingTier b
  held : ∀ ix b tier, s.bond ix = some (some b, tier) → ∃ p, s.passes.find b.slot = some p ∧ ix ∈ p.bound ∧ (¬ ex ix → b.Follows s ix p)
  few : ∀ slot p, s.passes.find slot = some p → p.bound.length ≤ Config.boundLimit ∧ p.bound.Nodup
  listed : ∀ slot p, s.passes.find slot = some p → ∀ ix ∈ p.bound, ∃ b tier, s.bond ix = some (some b, tier) ∧ b.slot = slot

theorem Binding.Follows.congr {b : Binding} {s t : State} {ix : Nat} {p : Pass} (h : b.Follows s ix p) (hm : t.seatMap = s.seatMap)
    (hz : t.zoneSweep = s.zoneSweep) : b.Follows t ix p :=
  ⟨h.tier, h.mask, fun hs => by
    rw [hm]
    refine h.zone ?_
    unfold State.swept at hs ⊢
    rwa [hz] at hs⟩

/-- Every binding follows its pass. -/
abbrev State.Bound (s : State) : Prop := s.Bonded fun _ => False

theorem bindingTier_law (st : Station) : st.TierLaw ↔ st.tier = bindingTier st.binding := by
  unfold Station.TierLaw bindingTier
  cases st.binding <;> exact Iff.rfl

theorem bond_some {s : State} {ix : Nat} {b : Option Binding} {tier : Tier} (h : s.bond ix = some (b, tier)) :
    ∃ st, s.stations.find ix = some st ∧ st.binding = b ∧ st.tier = tier := by
  obtain ⟨st, hf, he⟩ := Option.map_eq_some_iff.mp h
  cases he
  exact ⟨st, hf, rfl, rfl⟩

theorem State.Inv.bound {s : State} (h : s.Inv) : s.Bound where
  wf := h.canonical.2.2.1
  tiered ix b tier hb := by
    obtain ⟨st, hf, rfl, rfl⟩ := bond_some hb
    exact (bindingTier_law st).mp (h.entitlements _ (Table.mem_of_find hf)).1
  held ix b tier hb := by
    obtain ⟨st, hf, hst, -⟩ := bond_some hb
    have hmem := Table.mem_of_find hf
    obtain ⟨p, hp, hix⟩ := h.bindings.1 _ hmem b hst
    obtain ⟨p', hp', h1, h2⟩ := (h.entitlements _ hmem).2 b hst
    rw [hp] at hp'
    cases hp'
    refine ⟨p, hp, hix, fun _ => ⟨h1, h2, fun hs => ?_⟩⟩
    obtain ⟨p', hp', h3⟩ := h.zones _ hmem b hst hs
    rw [hp] at hp'
    cases hp'
    exact h3
  few slot p hp := by
    obtain ⟨h1, h2, -⟩ := h.bindings.2 _ (Table.mem_of_find hp)
    exact ⟨h1, h2⟩
  listed slot p hp ix hix := by
    obtain ⟨-, -, -, h4⟩ := h.bindings.2 _ (Table.mem_of_find hp)
    obtain ⟨st, hf, b, hb, hs⟩ := h4 ix hix
    exact ⟨b, st.tier, by rw [bond_found hf, hb], hs⟩

section laws
variable {s : State} (h : s.Bound) (hw : Table.wf s.stations)
include h hw

theorem State.Bound.bindingLaw (hidle : ∀ slot p, s.passes.find slot = some p → p.inForce = false → p.bound = []) : s.BindingLaw := by
  refine ⟨fun e he b hb => ?_, fun e he => ?_⟩
  · obtain ⟨p, hp, hix, -⟩ := h.held e.1 b e.2.tier (by rw [bond_found (Table.find_of_mem hw he), hb])
    exact ⟨p, hp, hix⟩
  · have hp := Table.find_of_mem h.wf he
    obtain ⟨h1, h2⟩ := h.few _ _ hp
    refine ⟨h1, h2, hidle _ _ hp, fun ix hix => ?_⟩
    obtain ⟨b, tier, hb, hs⟩ := h.listed _ _ hp ix hix
    obtain ⟨st, hf, hst, -⟩ := bond_some hb
    exact ⟨st, hf, b, hst, hs⟩

theorem State.Bound.entitlementLaw : s.EntitlementLaw := fun e he => by
  have hf := Table.find_of_mem hw he
  refine ⟨(bindingTier_law e.2).mpr (h.tiered _ _ _ (bond_found hf)), fun b hb => ?_⟩
  obtain ⟨p, hp, -, hfol⟩ := h.held e.1 b e.2.tier (by rw [bond_found hf, hb])
  exact ⟨p, hp, (hfol not_false).tier, (hfol not_false).mask⟩

theorem State.Bound.zoneLaw : s.ZoneLaw := fun e he b hb hs => by
  obtain ⟨p, hp, -, hfol⟩ := h.held e.1 b e.2.tier (by rw [bond_found (Table.find_of_mem hw he), hb])
  exact ⟨p, hp, (hfol not_false).zone hs⟩

end laws

/-! ### What stands -/

section congr
variable {ex : Nat → Prop} {s t : State} (h : s.Bonded ex)
include h

/-- What leaves the passes, the seat map and the zone sweep, and every binding. -/
theorem State.Bonded.congr (hb : BondsKept s t) (hp : t.passes = s.passes) (hm : t.seatMap = s.seatMap) (hz : t.zoneSweep = s.zoneSweep) :
    t.Bonded ex where
  wf := hp ▸ h.wf
  tiered ix b tier ht := by
    rcases hb ix with hk | ⟨-, hk⟩
    · exact h.tiered ix b tier (hk ▸ ht)
    · rw [hk] at ht
      cases ht
      rfl
  held ix b tier ht := by
    rcases hb ix with hk | ⟨-, hk⟩
    · obtain ⟨p, h1, h2, h3⟩ := h.held ix b tier (hk ▸ ht)
      exact ⟨p, hp ▸ h1, h2, fun he => (h3 he).congr hm hz⟩
    · rw [hk] at ht
      cases ht
  few slot p ht := h.few slot p (hp ▸ ht)
  listed slot p ht ix hix := by
    obtain ⟨b, tier, h1, h2⟩ := h.listed slot p (hp ▸ ht) ix hix
    rcases hb ix with hk | ⟨hk, -⟩
    · exact ⟨b, tier, hk ▸ h1, h2⟩
    · rw [hk] at h1
      cases h1

theorem State.Bonded.of_frame {fs : List Field} (hf : ChangesOnly fs s t)
    (hd : ∀ f ∈ [Field.stations, .passes, .seatMap, .zoneSweep], f ∉ fs := by decide) : t.Bonded ex :=
  h.congr (hf.bonds (hd _ (by decide))) (hf .passes (hd _ (by decide))) (hf .seatMap (hd _ (by decide))) (hf .zoneSweep (hd _ (by decide)))

theorem State.Bonded.kept {fs : List Field} (hb : BondsKept s t) (hf : ChangesOnly fs s t)
    (hd : ∀ f ∈ [Field.passes, .seatMap, .zoneSweep], f ∉ fs := by decide) : t.Bonded ex :=
  h.congr hb (hf .passes (hd _ (by decide))) (hf .seatMap (hd _ (by decide))) (hf .zoneSweep (hd _ (by decide)))

theorem State.Bonded.counted (c : Counter) : (s.count c).Bonded ex := h.of_frame (count_frame s c)

theorem State.Bonded.noted (x : Source) : (s.note x).Bonded ex := h.of_frame (note_frame s x)

theorem State.Bonded.sent (r : RadioIx) (m : ControlOut) : (s.send r m).Bonded ex := h.of_frame (send_frame s r m)

/-- Fewer exceptions, where the others have no binding. -/
theorem State.Bonded.narrow {ex' : Nat → Prop} (hx : ∀ ix b tier, s.bond ix = some (some b, tier) → ex ix → ex' ix) : s.Bonded ex' where
  wf := h.wf
  tiered := h.tiered
  held ix b tier hb := by
    obtain ⟨p, h1, h2, h3⟩ := h.held ix b tier hb
    exact ⟨p, h1, h2, fun he => h3 fun hex => he (hx ix b tier hb hex)⟩
  few := h.few
  listed := h.listed

end congr

/-! ### Passes -/

section passes
variable {ex : Nat → Prop} {s : State} (h : s.Bonded ex) {slot : Nat} {p : Pass} (hp : s.passes.find slot = some p)
include h hp

/-- A pass replaced by one with the same bound list: its bindings follow it if it gives them the same. -/
theorem State.Bonded.setPass {q : Pass} (hb : q.bound = p.bound) :
    (s.setPass slot q).Bonded fun ix =>
      ex ix ∨ (ix ∈ p.bound ∧ ¬ (q.tier = p.tier ∧ q.mask = p.mask ∧ q.home = p.home ∧ q.width = p.width)) where
  wf := by
    rw [State.setPass_passes]
    exact Table.wf_put _ _ h.wf
  tiered := h.tiered
  held ix b tier hbond := by
    obtain ⟨p', h1, h2, h3⟩ := h.held ix b tier hbond
    rw [State.setPass_passes, Table.find_put]
    split
    next hs =>
      rw [hs, hp] at h1
      cases h1
      refine ⟨q, rfl, hb ▸ h2, fun he => ?_⟩
      rw [not_or, not_and_not_right] at he
      obtain ⟨e1, e2, e3, e4⟩ := he.2 h2
      obtain ⟨f1, f2, f3⟩ := h3 he.1
      exact ⟨f1.trans e1.symm, f2.trans e2.symm, fun hs => by rw [e3, e4]; exact f3 hs⟩
    next => exact ⟨p', h1, h2, fun he => (h3 fun hex => he (.inl hex)).congr rfl rfl⟩
  few j q' hj := by
    rw [State.setPass_passes, Table.find_put] at hj
    split at hj
    next =>
      cases hj
      rw [hb]
      exact h.few slot p hp
    next => exact h.few j q' hj
  listed j q' hj ix hix := by
    rw [State.setPass_passes, Table.find_put] at hj
    split at hj
    next hs =>
      cases hj
      rw [hs]
      exact h.listed slot p hp ix (hb ▸ hix)
    next => exact h.listed j q' hj ix hix

/-- A pass whose state or mismatches alone change. -/
theorem State.Bonded.restatePass {q : Pass} (hb : q.bound = p.bound) (h1 : q.tier = p.tier) (h2 : q.mask = p.mask) (h3 : q.home = p.home)
    (h4 : q.width = p.width) : (s.setPass slot q).Bonded ex :=
  (h.setPass hp hb).narrow fun _ _ _ _ hx => hx.resolve_right fun hx => hx.2 ⟨h1, h2, h3, h4⟩

/-- No station is bound to a pass whose bound list is empty. -/
theorem State.Bonded.unlisted (he : p.bound = []) (ix : Nat) (b : Binding) (tier : Tier) (hb : s.bond ix = some (some b, tier)) :
    b.slot ≠ slot := fun hs => by
  obtain ⟨p', h1, h2, -⟩ := h.held ix b tier hb
  rw [hs, hp] at h1
  cases h1
  rw [he] at h2
  cases h2

/-- A pass without bound stations removed. -/
theorem State.Bonded.dropPass (he : p.bound = []) (m : Table Nat) :
    State.Bonded ex { s with passes := s.passes.drop slot, passMap := m } where
  wf := Table.wf_drop _ h.wf
  tiered := h.tiered
  held ix b tier hb := by
    obtain ⟨p', h1, h2, h3⟩ := h.held ix b tier hb
    refine ⟨p', ?_, h2, fun he => (h3 he).congr rfl rfl⟩
    show Table.find (Table.drop _ _) _ = _
    rw [Table.find_drop, if_neg (h.unlisted hp he ix b tier hb)]
    exact h1
  few j q hj := by
    rw [Table.find_drop] at hj
    split at hj
    · cases hj
    · exact h.few j q hj
  listed j q hj := by
    rw [Table.find_drop] at hj
    split at hj
    · cases hj
    · exact h.listed j q hj

omit hp in
/-- A pass loaded into a free slot (R76). -/
theorem State.Bonded.loadPass (hfree : s.passes.find slot = none) (hq : p.bound = []) (m : Table Nat) :
    State.Bonded ex { s with passes := s.passes.put slot p, passMap := m } where
  wf := Table.wf_put _ _ h.wf
  tiered := h.tiered
  held ix b tier hb := by
    obtain ⟨p', h1, h2, h3⟩ := h.held ix b tier hb
    refine ⟨p', ?_, h2, fun he => (h3 he).congr rfl rfl⟩
    show Table.find (Table.put _ _ _) _ = _
    rw [Table.find_put, if_neg fun hs => by rw [hs, hfree] at h1; cases h1]
    exact h1
  few j q hj := by
    rw [Table.find_put] at hj
    split at hj
    · cases hj
      rw [hq]
      exact ⟨Nat.zero_le _, List.nodup_nil⟩
    · exact h.few j q hj
  listed j q hj ix hix := by
    rw [Table.find_put] at hj
    split at hj
    · cases hj
      rw [hq] at hix
      cases hix
    · exact h.listed j q hj ix hix

end passes

end Sys2Proof.Machine
end

section
/-! PROOFS. What binding, unbinding, reloading and freeing keep of the laws of bindings. -/

namespace Sys2Proof.Machine

/- The whole text is elaborated in one process: its proofs in turn, so that their threads' stacks stay within its memory. -/
set_option Elab.async false

/-! ### One station's binding -/

section one
variable {ex : Nat → Prop} {s t : State} (h : s.Bonded ex) {ix : Nat} (hb : ∀ j, j ≠ ix → t.bond j = s.bond j)
  (hm : t.seatMap = s.seatMap) (hz : t.zoneSweep = s.zoneSweep)
include h hb hm hz

/-- A bound station's binding brought into line with its pass (R101, R108). -/
theorem State.Bonded.rebound (hp : t.passes = s.passes) {b b' : Binding} {tier : Tier} (h0 : s.bond ix = some (some b, tier))
    (h1 : t.bond ix = some (some b', b'.tier)) (hs : b'.slot = b.slot) (hf : ∀ p, s.passes.find b'.slot = some p → b'.Follows t ix p) :
    t.Bonded fun j => ex j ∧ j ≠ ix where
  wf := hp ▸ h.wf
  tiered j c tier' hj := by
    by_cases hjx : j = ix
    · rw [hjx, h1] at hj
      cases hj
      rfl
    · exact h.tiered j c tier' (hb j hjx ▸ hj)
  held j c tier' hj := by
    rw [hp]
    by_cases hjx : j = ix
    · rw [hjx, h1] at hj
      cases hj
      obtain ⟨p, e1, e2, -⟩ := h.held ix b tier h0
      rw [← hs] at e1
      exact ⟨p, e1, hjx ▸ e2, fun _ => hjx ▸ hf p e1⟩
    · obtain ⟨p, e1, e2, e3⟩ := h.held j c tier' (hb j hjx ▸ hj)
      exact ⟨p, e1, e2, fun he => (e3 fun hex => he ⟨hex, hjx⟩).congr hm hz⟩
  few slot p hf' := h.few slot p (hp ▸ hf')
  listed slot p hf' j hj := by
    obtain ⟨c, tier', e1, e2⟩ := h.listed slot p (hp ▸ hf') j hj
    by_cases hjx : j = ix
    · rw [hjx, h0] at e1
      cases e1
      exact ⟨b', b'.tier, hjx ▸ h1, hs.trans e2⟩
    · exact ⟨c, tier', (hb j hjx).trans e1, e2⟩

/-- A station without a binding bound to a pass that has room (R96). -/
theorem State.Bonded.binds {slot : Nat} {p : Pass} (hf : s.passes.find slot = some p) (hroom : p.bound.length < Config.boundLimit)
    (hp : t.passes = s.passes.put slot { p with bound := p.bound ++ [ix] }) {tier : Tier} (h0 : s.bond ix = some (none, tier))
    {b : Binding} (h1 : t.bond ix = some (some b, b.tier)) (hs : b.slot = slot) (hfol : b.Follows t ix p) : t.Bonded ex where
  wf := hp ▸ Table.wf_put _ _ h.wf
  tiered j c tier' hj := by
    by_cases hjx : j = ix
    · rw [hjx, h1] at hj
      cases hj
      rfl
    · exact h.tiered j c tier' (hb j hjx ▸ hj)
  held j c tier' hj := by
    rw [hp, Table.find_put]
    by_cases hjx : j = ix
    · rw [hjx, h1] at hj
      cases hj
      rw [if_pos hs]
      exact ⟨_, rfl, List.mem_append_right _ (List.mem_singleton.mpr hjx), fun _ =>
        ⟨hfol.tier, hfol.mask, fun hsw => hfol.zone (hjx ▸ hsw)⟩⟩
    · obtain ⟨p', e1, e2, e3⟩ := h.held j c tier' (hb j hjx ▸ hj)
      split
      next hc =>
        rw [hc, hf] at e1
        cases e1
        refine ⟨_, rfl, List.mem_append_left _ e2, fun he => ?_⟩
        obtain ⟨f1, f2, f3⟩ := (e3 he).congr hm hz
        exact ⟨f1, f2, f3⟩
      next => exact ⟨p', e1, e2, fun he => (e3 he).congr hm hz⟩
  few j q hj := by
    rw [hp, Table.find_put] at hj
    split at hj
    next =>
      cases hj
      obtain ⟨-, e2⟩ := h.few slot p hf
      refine ⟨?_, List.nodup_append.mpr ⟨e2, List.nodup_singleton ix, fun a ha c hc => ?_⟩⟩
      · rw [List.length_append]
        exact hroom
      · rw [List.mem_singleton.mp hc]
        rintro rfl
        obtain ⟨c', tier', e3, -⟩ := h.listed slot p hf a ha
        rw [h0] at e3
        cases e3
    next => exact h.few j q hj
  listed j q hj i hi := by
    have hother (q' : Pass) (hq' : s.passes.find j = some q') (hi' : i ∈ q'.bound) :
        ∃ c tier', t.bond i = some (some c, tier') ∧ c.slot = j := by
      obtain ⟨c, tier', e1, e2⟩ := h.listed j q' hq' i hi'
      refine ⟨c, tier', ?_, e2⟩
      rw [hb i fun hix => by rw [hix, h0] at e1; cases e1]
      exact e1
    rw [hp, Table.find_put] at hj
    split at hj
    next hjs =>
      cases hj
      rcases List.mem_append.mp hi with hi | hi
      · exact hother p (hjs ▸ hf) hi
      · rw [List.mem_singleton.mp hi]
        exact ⟨b, b.tier, h1, hs.trans hjs.symm⟩
    next => exact hother q hj hi

/-- A station unbound from its pass (R99). -/
theorem State.Bonded.unbound {b : Binding} {tier : Tier} (h0 : s.bond ix = some (some b, tier)) (hw : t.passes.wf = true)
    (hp : ∀ j, t.passes.find j = (s.passes.find j).map fun p => if j = b.slot then { p with bound := p.bound.erase ix } else p)
    (h1 : t.bond ix = some (none, .guest)) : t.Bonded ex where
  wf := hw
  tiered j c tier' hj := by
    by_cases hjx : j = ix
    · rw [hjx, h1] at hj
      cases hj
      rfl
    · exact h.tiered j c tier' (hb j hjx ▸ hj)
  held j c tier' hj := by
    have hjx : j ≠ ix := fun hjx => by
      rw [hjx, h1] at hj
      cases hj
    obtain ⟨p, e1, e2, e3⟩ := h.held j c tier' (hb j hjx ▸ hj)
    rw [hp, e1]
    refine ⟨_, rfl, ?_, fun he => ?_⟩
    · split
      · exact (List.mem_erase_of_ne hjx).mpr e2
      · exact e2
    · obtain ⟨f1, f2, f3⟩ := (e3 he).congr hm hz
      split <;> exact ⟨f1, f2, f3⟩
  few j q hj := by
    rw [hp] at hj
    obtain ⟨p, e1, rfl⟩ := Option.map_eq_some_iff.mp hj
    obtain ⟨e2, e3⟩ := h.few j p e1
    split
    · exact ⟨List.length_erase_le.trans e2, e3.erase ix⟩
    · exact ⟨e2, e3⟩
  listed j q hj i hi := by
    rw [hp] at hj
    obtain ⟨p, e1, rfl⟩ := Option.map_eq_some_iff.mp hj
    obtain ⟨-, e3⟩ := h.few j p e1
    have hmem : i ∈ p.bound ∧ i ≠ ix := by
      split at hi
      · exact ⟨List.mem_of_mem_erase hi, fun hix => (e3.mem_erase_iff.mp hi).1 hix⟩
      next hjs =>
        refine ⟨hi, fun hix => ?_⟩
        obtain ⟨c, tier', e4, e5⟩ := h.listed j p e1 i hi
        rw [hix, h0] at e4
        cases e4
        exact hjs e5.symm
    obtain ⟨c, tier', e4, e5⟩ := h.listed j p e1 i hmem.1
    exact ⟨c, tier', (hb i hmem.2).trans e4, e5⟩

/-- A station without a binding freed (R13). -/
theorem State.Bonded.freed (hp : t.passes = s.passes) {tier : Tier} (h0 : s.bond ix = some (none, tier)) (h1 : t.bond ix = none) :
    t.Bonded ex where
  wf := hp ▸ h.wf
  tiered j c tier' hj := by
    have hjx : j ≠ ix := fun hjx => by
      rw [hjx, h1] at hj
      cases hj
    exact h.tiered j c tier' (hb j hjx ▸ hj)
  held j c tier' hj := by
    have hjx : j ≠ ix := fun hjx => by
      rw [hjx, h1] at hj
      cases hj
    obtain ⟨p, e1, e2, e3⟩ := h.held j c tier' (hb j hjx ▸ hj)
    exact ⟨p, hp ▸ e1, e2, fun he => (e3 he).congr hm hz⟩
  few slot p hf := h.few slot p (hp ▸ hf)
  listed slot p hf j hj := by
    obtain ⟨c, tier', e1, e2⟩ := h.listed slot p (hp ▸ hf) j hj
    refine ⟨c, tier', ?_, e2⟩
    rw [hb j fun hjx => by rw [hjx, h0] at e1; cases e1]
    exact e1

end one

/-! ### The operations -/

section operations
variable {ex : Nat → Prop} {s : State} (h : s.Bonded ex) {ix : Nat}

theorem realign_bond {st : Station} (hf : s.stations.find ix = some st) (b : Option Binding) (j : Nat) :
    (s.realign ix b).bond j = if j = ix then some (b, bindingTier b) else s.bond j := by
  rw [State.bond, realign_station hf]
  split
  next =>
    rw [Option.map_some, realigned_binding, realigned_tier]
    cases b <;> rfl
  next => rfl

include h

theorem State.Bonded.unbind {slot : Nat} {b : Binding} {tier : Tier} (h0 : s.bond ix = some (some b, tier)) (hs : b.slot = slot) :
    (s.unbind slot ix).Bonded ex ∧ ∀ j, (s.unbind slot ix).bond j = if j = ix then some (none, .guest) else s.bond j := by
  subst hs
  obtain ⟨st, hf, -⟩ := bond_some h0
  have hframe := unbind_frame s b.slot ix
  have hbond (j : Nat) : (s.unbind b.slot ix).bond j = if j = ix then some (none, .guest) else s.bond j := by
    have hd : (s.dropBound b.slot ix).stations = s.stations := dropBound_frame s b.slot ix .stations (by decide)
    rw [unbind_eq, bond_congr (State.count_stations _ _), realign_bond (hd.symm ▸ hf), bond_congr hd]
    rfl
  refine ⟨h.unbound (fun j hj => by rw [hbond, if_neg hj]) (hframe .seatMap (by decide)) (hframe .zoneSweep (by decide)) h0
    (unbind_passes_wf h.wf) (unbind_passes s b.slot ix) (by rw [hbond, if_pos rfl]), hbond⟩

theorem State.Bonded.unbindAll {slot : Nat} {l : List Nat} (hn : l.Nodup)
    (hl : ∀ j ∈ l, ∃ b tier, s.bond j = some (some b, tier) ∧ b.slot = slot) :
    (s.unbindAll slot l).Bonded ex ∧ ∀ j, (s.unbindAll slot l).bond j = if j ∈ l then some (none, .guest) else s.bond j := by
  induction l generalizing s with
  | nil => exact ⟨h, fun _ => rfl⟩
  | cons ix l ih =>
    rw [List.nodup_cons] at hn
    obtain ⟨b, tier, h0, hs⟩ := hl ix List.mem_cons_self
    obtain ⟨h1, h2⟩ := h.unbind h0 hs
    obtain ⟨h3, h4⟩ := ih h1 hn.2 fun j hj => by
      rw [h2, if_neg (by rintro rfl; exact hn.1 hj)]
      exact hl j (List.mem_cons_of_mem _ hj)
    refine ⟨h3, fun j => ?_⟩
    show ((s.unbind slot ix).unbindAll slot l).bond j = _
    rw [h4, h2]
    by_cases hj : j = ix
    · simp [hj]
    · simp [hj]

/-- A pass that ends, its stations unbound (R72, R74). -/
theorem State.Bonded.endPass {slot : Nat} {p : Pass} (hp : s.passes.find slot = some p) (e : PassState) :
    (s.endPass slot p e).Bonded ex ∧ ∀ j ∈ p.bound, (s.endPass slot p e).bond j = some (none, .guest) := by
  have hset : (s.setPass slot { p with state := e }).Bonded ex := h.restatePass hp rfl rfl rfl rfl rfl
  obtain ⟨h1, h2⟩ := hset.unbindAll (h.few slot p hp).2 (h.listed slot p hp)
  exact ⟨h1, fun j hj => by rw [State.endPass, h2, if_pos hj]⟩

/-- A binding brought into line with its amended pass (R101). -/
theorem State.Bonded.reload {slot : Nat} {p : Pass} (hp : s.passes.find slot = some p) (hix : ix ∈ p.bound) :
    (s.reload slot p ix).Bonded fun j => ex j ∧ j ≠ ix := by
  obtain ⟨b, tier, h0, hs⟩ := h.listed slot p hp ix hix
  obtain ⟨st, hf, -⟩ := bond_some h0
  have hframe := reload_frame s slot p ix
  have hbond (j : Nat) : (s.reload slot p ix).bond j =
      if j = ix then some (some (p.grant slot s.seatMap), p.tier) else s.bond j := by
    rw [reload_eq, bond_congr (State.count_stations _ _), realign_bond hf]
    rfl
  have hm : (s.reload slot p ix).seatMap = s.seatMap := hframe .seatMap (by decide)
  refine h.rebound (fun j hj => by rw [hbond, if_neg hj]) hm (hframe .zoneSweep (by decide)) (hframe .passes (by decide)) h0
    (b' := p.grant slot s.seatMap) (by rw [hbond, if_pos rfl]; rfl) hs.symm fun q hq => ?_
  rw [show (p.grant slot s.seatMap).slot = slot from rfl, hp] at hq
  cases hq
  exact ⟨rfl, rfl, fun _ => by rw [hm]; rfl⟩

theorem State.Bonded.reloadAll {slot : Nat} {p : Pass} (hp : s.passes.find slot = some p) {l : List Nat} (hl : ∀ j ∈ l, j ∈ p.bound) :
    (l.foldl (fun s ix => s.reload slot p ix) s).Bonded fun j => ex j ∧ j ∉ l := by
  induction l generalizing s ex with
  | nil => exact h.narrow fun _ _ _ _ hx => ⟨hx, List.not_mem_nil⟩
  | cons ix l ih =>
    have h1 := h.reload hp (hl ix List.mem_cons_self)
    have hp1 : (s.reload slot p ix).passes.find slot = some p := by
      rw [reload_frame s slot p ix .passes (by decide)]
      exact hp
    refine (ih h1 hp1 fun j hj => hl j (List.mem_cons_of_mem _ hj)).narrow fun j _ _ _ hx => ?_
    exact ⟨hx.1.1, fun hm => (List.mem_cons.mp hm).elim hx.1.2 hx.2⟩

/-- A station freed (R13). -/
theorem State.Bonded.free {st : Station} (hf : s.stations.find ix = some st) : (s.free ix st).Bonded ex := by
  have hframe := free_frame s ix st
  have hbond (j : Nat) : (s.free ix st).bond j = if j = ix then none else s.bond j := by
    rw [State.bond, free_station hf]
    split <;> rfl
  have hpasses : (s.free ix st).passes = (s.unbindStation ix st).passes := by
    rw [free_eq, State.count_passes]
    show ((State.lowerCounts _ st.place).passes) = _
    rw [lowerCounts_passes]
    show (s.emptied ix st).passes = _
    rw [State.emptied, discardHold_frame _ ix .passes (by decide), endSubscriptions_frame _ ix .passes (by decide)]
  have hunbound : (s.unbindStation ix st).Bonded ex ∧ (∃ tier, (s.unbindStation ix st).bond ix = some (none, tier)) ∧
      ∀ j, j ≠ ix → (s.unbindStation ix st).bond j = s.bond j := by
    unfold State.unbindStation
    rcases hb : st.binding with _ | b
    · exact ⟨h, ⟨st.tier, by rw [bond_found hf, hb]⟩, fun _ _ => rfl⟩
    · obtain ⟨h1, h2⟩ := h.unbind (slot := b.slot) (b := b) (tier := st.tier) (by rw [bond_found hf, hb]) rfl
      exact ⟨h1, ⟨.guest, by rw [h2, if_pos rfl]⟩, fun j hj => by rw [h2, if_neg hj]⟩
  have hustep := unbindStation_frame s ix st
  obtain ⟨h1, ⟨tier, h2⟩, h3⟩ := hunbound
  generalize s.unbindStation ix st = u at *
  refine h1.freed (fun j hj => by rw [hbond, if_neg hj, h3 j hj]) ?_ ?_ hpasses h2 (by rw [hbond, if_pos rfl])
  · rw [hframe .seatMap (by decide), hustep .seatMap (by decide)]
  · rw [hframe .zoneSweep (by decide), hustep .zoneSweep (by decide)]

/-- A claim's binding (R96, R97). -/
theorem State.Bonded.bindClaim {st : Station} (hf : s.stations.find ix = some st) {slot : Nat} {p : Pass} (hp : s.passes.find slot = some p)
    (hroom : p.bound.length < Config.boundLimit) (hix : ix ∉ p.bound) (r : RadioIx) : (s.bindClaim r ix st slot p).Bonded ex := by
  have hrebind : (s.rebind ix st).Bonded ex ∧ (∃ tier, (s.rebind ix st).bond ix = some (none, tier)) ∧
      (s.rebind ix st).passes.find slot = some p := by
    unfold State.rebind State.unbindStation
    rcases hb : st.binding with _ | b
    · exact ⟨h, ⟨st.tier, by rw [bond_found hf, hb]⟩, hp⟩
    · have h0 : s.bond ix = some (some b, st.tier) := by rw [bond_found hf, hb]
      have hne : slot ≠ b.slot := fun hs => by
        obtain ⟨q, e1, e2, -⟩ := h.held ix b _ h0
        rw [← hs, hp] at e1
        cases e1
        exact hix e2
      obtain ⟨h1, h2⟩ := h.unbind h0 rfl
      refine ⟨h1.counted _, ⟨.guest, ?_⟩, ?_⟩
      · rw [bond_congr (State.count_stations _ _), h2, if_pos rfl]
      · rw [State.count_passes, unbind_passes, hp, Option.map_some, if_neg hne]
  obtain ⟨h1, ⟨tier, h2⟩, h3⟩ := hrebind
  unfold State.bindClaim
  generalize s.rebind ix st = u at *
  obtain ⟨x, hx, -⟩ := bond_some h2
  rw [appendBound_found h3]
  refine State.Bonded.sent (State.Bonded.counted ?_ _) _ _
  rw [loadBinding_found (st := x) (by exact hx)]
  refine h1.binds (fun j hj => ?_) rfl rfl h3 hroom rfl h2 (b := p.grant slot u.seatMap) ?_ rfl ⟨rfl, rfl, fun _ => rfl⟩
  · show Option.map _ (Table.find (Table.put _ _ _) j) = _
    rw [Table.find_put, if_neg hj]
    rfl
  · show Option.map _ (Table.find (Table.put _ _ _) ix) = _
    rw [Table.find_put, if_pos rfl]
    rfl

end operations

end Sys2Proof.Machine
end

section
/-! PROOFS. What claims, sweeps and the requests on passes and the seat map keep of the laws of bindings. -/

namespace Sys2Proof.Machine

/- The whole text is elaborated in one process: its proofs in turn, so that their threads' stacks stay within its memory. -/
set_option Elab.async false

/-! ### CLAIM (R94 to R97) -/

section claims
variable {s : State} (h : s.Bound) {ix : Nat} {st : Station} (hf : s.stations.find ix = some st)
include h

theorem State.Bonded.refuseClaim (r : RadioIx) (ix : Nat) (pass : Word) (result : ClaimResult) :
    (s.refuseClaim r ix pass result).Bound := by
  unfold State.refuseClaim
  refine State.Bonded.sent (State.Bonded.noted ?_ _) _ _
  split
  · exact h
  · exact h.counted _

theorem State.Bonded.mismatch {slot : Nat} {p : Pass} (hp : s.passes.find slot = some p) : (s.mismatch slot p).Bound := by
  unfold State.mismatch
  split
  · exact ((h.restatePass (q := { p with mismatches := p.mismatches + 1, state := .locked }) hp rfl rfl rfl rfl rfl).counted _).noted _
  · exact h.restatePass hp rfl rfl rfl rfl rfl

include hf

theorem State.Bonded.checkClaim (r : RadioIx) (pass : Word) (code : Half) : (s.checkClaim r ix st pass code).Bound := by
  unfold State.checkClaim
  split
  · exact h.refuseClaim _ _ _ _
  · split
    · exact h.refuseClaim _ _ _ _
    next slot _ p hp =>
      split
      · exact h.refuseClaim _ _ _ _
      · exact h.refuseClaim _ _ _ _
      · exact h.refuseClaim _ _ _ _
      · split_ifs with _ _ _ hlisted hroom
        · exact h.refuseClaim _ _ _ _
        · exact ((h.endPass hp _).1.counted _).refuseClaim _ _ _ _
        · exact (h.mismatch hp).refuseClaim _ _ _ _
        · exact (h.counted _).sent _ _
        · exact h.refuseClaim _ _ _ _
        · exact h.bindClaim hf hp (Nat.lt_of_not_le hroom) (by simpa using hlisted) r

theorem State.Bonded.claim (r : RadioIx) (pass : Word) (code : Half) : (s.claim r ix st pass code).Bound := by
  have hc := h.counted (.admission .claimsReceived)
  unfold State.claim
  dsimp only
  split
  · exact hc.checkClaim (by rw [State.count_stations]; exact hf) r pass code
  · exact hc.refuseClaim _ _ _ _

end claims

/-! ### The seat map and the zone sweep (R103 to R109) -/

/-- The zone sets under another seat map or another place of the zone sweep, where they are right for the stations that it has visited. -/
theorem State.Bonded.resweep {s t : State} (h : s.Bound) (hst : t.stations = s.stations) (hp : t.passes = s.passes)
    (hz : ∀ ix, t.swept ix → (s.swept ix ∧ t.seatMap = s.seatMap) ∨ ∀ b tier p, s.bond ix = some (some b, tier) →
      s.passes.find b.slot = some p → b.zone = zoneOf t.seatMap p.home p.width) : t.Bound where
  wf := hp ▸ h.wf
  tiered ix b tier hb := h.tiered ix b tier ((bond_congr hst ix).symm.trans hb)
  held ix b tier hb := by
    rw [bond_congr hst] at hb
    obtain ⟨p, h1, h2, h3⟩ := h.held ix b tier hb
    refine ⟨p, hp ▸ h1, h2, fun hx => ⟨(h3 hx).tier, (h3 hx).mask, fun hs => ?_⟩⟩
    rcases hz ix hs with ⟨hs', hm⟩ | hright
    · rw [hm]
      exact (h3 hx).zone hs'
    · exact hright b tier p hb h1
  few slot p hf := h.few slot p (hp ▸ hf)
  listed slot p hf ix hix := by
    rw [bond_congr hst]
    exact h.listed slot p (hp ▸ hf) ix hix

theorem startZoneSweep_not_swept (s : State) (ix : Nat) : ¬ s.startZoneSweep.swept ix := by
  have hz : s.startZoneSweep.zoneSweep = { running := true, cursor := 0 } := by
    unfold State.startZoneSweep
    dsimp only
    split <;> rfl
  unfold State.swept
  rw [hz]
  simp

theorem State.Bonded.writeSeatMap {s : State} (h : s.Bound) (first : Nat) (values : List (Option RadioIx)) :
    (s.writeSeatMap first values).2.Bound := by
  refine State.Bonded.counted (h.resweep ?_ ?_ fun ix hs => absurd hs (startZoneSweep_not_swept _ ix)) _
  · exact startZoneSweep_frame _ .stations (by decide)
  · exact startZoneSweep_frame _ .passes (by decide)

section zone
variable {s : State} (h : s.Bound)
include h

/-- A visit of the zone sweep leaves the station's zone set right (R108). -/
theorem State.Bonded.zoneVisit (ix : Nat) : (s.zoneVisit ix).Bound ∧ ∀ b tier p, (s.zoneVisit ix).bond ix = some (some b, tier) →
    (s.zoneVisit ix).passes.find b.slot = some p → b.zone = zoneOf (s.zoneVisit ix).seatMap p.home p.width := by
  by_cases hb : ∃ b tier, s.bond ix = some (some b, tier)
  · obtain ⟨b, tier, h0⟩ := hb
    obtain ⟨st, hf, hst, rfl⟩ := bond_some h0
    obtain ⟨p, hp, -, -⟩ := h.held ix b _ h0
    have htier := h.tiered ix _ _ h0
    obtain ⟨u, hu, hus⟩ := zoneVisit_bound hf hst hp
    have hpasses : u.passes = s.passes := by rw [hus]
    have hmap : u.seatMap = s.seatMap := by rw [hus]
    have hsweep : u.zoneSweep = s.zoneSweep := by rw [hus]
    have hbond (j : Nat) : u.bond j =
        if j = ix then some (some { b with zone := zoneOf s.seatMap p.home p.width }, b.tier) else s.bond j := by
      have hstations : u.stations = s.stations.put ix (Station.reflagged s.channels
        { st with binding := some { b with zone := zoneOf s.seatMap p.home p.width } }) := by rw [hus]
      rw [State.bond, hstations, Table.find_put]
      split
      · rw [Option.map_some, show (Station.reflagged s.channels
          { st with binding := some { b with zone := zoneOf s.seatMap p.home p.width } }).tier = st.tier from rfl, htier]
        rfl
      · rfl
    have key : u.Bound := by
      refine (h.rebound (fun j hj => by rw [hbond, if_neg hj]) hmap hsweep hpasses h0
        (b' := { b with zone := zoneOf s.seatMap p.home p.width }) (by rw [hbond, if_pos rfl]) rfl fun q hq => ?_).narrow
        fun _ _ _ _ hx => hx.1
      have hq' : s.passes.find b.slot = some q := hq
      rw [hp] at hq'
      cases hq'
      obtain ⟨q', e1, e2, e3⟩ := h.held ix b _ h0
      rw [hp] at e1
      cases e1
      exact ⟨(e3 not_false).tier, (e3 not_false).mask, fun _ => by rw [hmap]⟩
    have hright (b' : Binding) (tier : Tier) (q : Pass) (h1 : u.bond ix = some (some b', tier)) (h2 : u.passes.find b'.slot = some q) :
        b'.zone = zoneOf u.seatMap q.home q.width := by
      rw [hbond, if_pos rfl] at h1
      cases h1
      rw [hpasses] at h2
      have h3 : s.passes.find b.slot = some q := h2
      rw [hp] at h3
      cases h3
      rw [hmap]
    rw [hu]
    split
    · exact ⟨key, hright⟩
    · refine ⟨State.Bonded.counted key _, fun b' tier q h1 h2 => ?_⟩
      rw [State.count_seatMap]
      rw [bond_congr (State.count_stations _ _)] at h1
      rw [State.count_passes] at h2
      exact hright b' tier q h1 h2
  · have hidle : s.zoneVisit ix = s := zoneVisit_idle fun st hf => by
      rcases hst : st.binding with _ | b
      · rfl
      · exact absurd ⟨b, st.tier, by rw [bond_found hf, hst]⟩ hb
    rw [hidle]
    exact ⟨h, fun b tier _ h1 => absurd ⟨b, tier, h1⟩ hb⟩

theorem zoneSweepVisit_bonds {t : State} (hk : s.Housed) (ht : exec .zoneSweepVisit s = .next t) : t.Bound := by
  obtain ⟨hv, hright⟩ := h.zoneVisit s.zoneSweep.cursor
  have hframe := zoneVisit_frame s s.zoneSweep.cursor
  have hkeys (ix : Nat) (hix : ∃ b, (s.zoneVisit s.zoneSweep.cursor).bond ix = some b) : ix < Config.stationContexts := by
    obtain ⟨up, hup⟩ := hk
    obtain ⟨b, hb⟩ := hix
    obtain ⟨st, hf, -⟩ := bond_some (b := b.1) (tier := b.2) hb
    exact (hup.zoneVisit _).keys ix st hf
  have hz : (s.zoneVisit s.zoneSweep.cursor).zoneSweep = s.zoneSweep := hframe .zoneSweep (by decide)
  dsimp only [exec, execZoneSweepVisit] at ht
  refine event_holds (P := State.Bound) (fs := noticeFields) (fun _ _ hf hs => State.Bonded.of_frame hs hf) (fun _ => id) (fun _ => ?_) ht h
  generalize s.zoneVisit s.zoneSweep.cursor = v at *
  split_ifs with hr hlast
  · refine hv.resweep rfl rfl fun ix hs => ?_
    rcases hs with hs | hs
    · cases hs
    · rcases Nat.lt_succ_iff_lt_or_eq.mp hs with hlt | rfl
      · exact .inl ⟨.inr (by rw [hz]; exact hlt), rfl⟩
      · exact .inr hright
  · refine State.Bonded.noted (State.Bonded.counted (hv.resweep (t := { v with zoneSweep := Sweep.stopped }) rfl rfl fun ix hs => ?_) _) _
    rcases Nat.lt_trichotomy ix s.zoneSweep.cursor with hlt | rfl | hgt
    · exact .inl ⟨.inr (by rw [hz]; exact hlt), rfl⟩
    · exact .inr hright
    · refine .inr fun b tier p h1 => absurd (hkeys ix ⟨_, h1⟩) ?_
      omega
  · exact h

end zone

end Sys2Proof.Machine
end

section
/-! PROOFS. Every command keeps the laws of bindings. -/

namespace Sys2Proof.Machine

/- The whole text is elaborated in one process: its proofs in turn, so that their threads' stacks stay within its memory. -/
set_option Elab.async false

/-! ### Requests on passes (R75 to R85) -/

section requests
variable {s : State} (h : s.Bound) (params : List Byte)
include h

theorem State.Bonded.loadsPass {p : Pass} (hb : p.bound = []) : (s.loadPass p).2.Bound := by
  unfold State.loadPass
  split
  · exact h.counted _
  · split
    · exact h.counted _
    next slot hslot =>
      have ht := (State.Bonded.loadPass (p := p) h (Table.lowestFree_spec hslot).2.1 hb (s.passMap.put p.number.toNat slot)).counted
          (.pass .loaded)
      dsimp only
      split
      · exact State.Bonded.counted ht _
      · exact ht

theorem State.Bonded.ownPassLoad : (ownPassLoad params s).2.Bound := by
  unfold Machine.ownPassLoad
  split
  · split
    · exact h
    · split
      · exact h.loadsPass rfl
      · exact h
  · exact h

/-- An amended pass (R79, R101): its bindings are those of its bound list, which all are unbound or all reloaded. -/
theorem State.Bonded.amendPass {slot : Nat} {p : Pass} (hp : s.passes.find slot = some p) (a : Amendment) :
    (s.amendPass slot p a).2.Bound := by
  have ht := (h.setPass (q := a.apply p) hp rfl).counted (.pass .amends)
  have hfound : ((s.setPass slot (a.apply p)).count (.pass .amends)).passes.find slot = some (a.apply p) := by
    rw [State.count_passes]
    exact Table.find_put_same _ _ _
  unfold State.amendPass
  dsimp only
  generalize (s.setPass slot (a.apply p)).count (.pass .amends) = u at *
  split
  · obtain ⟨h1, h2⟩ := ht.endPass hfound .expired
    refine State.Bonded.counted (State.Bonded.narrow h1 fun ix b tier hb hx => ?_) _
    rw [h2 ix (hx.resolve_left id).1] at hb
    cases hb
  · exact (ht.reloadAll hfound fun _ => id).narrow fun ix _ _ _ hx => hx.2 (hx.1.resolve_left id).1

theorem State.Bonded.ownPassAmend : (ownPassAmend params s).2.Bound := by
  unfold Machine.ownPassAmend
  split
  · exact h
  · split
    · exact h
    next slot p hn =>
      split
      · exact h.amendPass (passNumbered_found hn).2 _
      · exact h

theorem State.Bonded.revokePass {slot : Nat} {p : Pass} (hp : s.passes.find slot = some p) : (s.revokePass slot p).2.Bound := by
  have ht : ((if p.inForce then s.endPass slot p .revoked else s.setPass slot { p with state := .revoked }).count
      (.pass .revocations)).Bound := by
    refine State.Bonded.counted ?_ _
    split
    · exact (h.endPass hp _).1
    · exact h.restatePass hp rfl rfl rfl rfl rfl
  unfold State.revokePass
  dsimp only
  split
  · exact State.Bonded.noted ht _
  · exact ht

theorem State.Bonded.ownPassRevoke : (ownPassRevoke params s).2.Bound := by
  unfold Machine.ownPassRevoke
  split
  · exact h
  · split
    · exact h
    next hn => exact h.revokePass (passNumbered_found hn).2

theorem State.Bonded.removePass {slot : Nat} {p : Pass} (hp : s.passes.find slot = some p) : (s.removePass slot p).2.Bound := by
  obtain ⟨h1, -⟩ := h.unbindAll (h.few slot p hp).2 (h.listed slot p hp)
  refine State.Bonded.counted (h1.dropPass (p := { p with bound := [] }) ?_ rfl _) _
  rw [unbindAll_passes, hp, Option.map_some, if_pos rfl, foldl_erase_self]

theorem State.Bonded.ownPassRemove : (ownPassRemove params s).2.Bound := by
  unfold Machine.ownPassRemove
  split
  · exact h
  · split
    · exact h
    next hn => exact h.removePass (passNumbered_found hn).2

theorem State.Bonded.ownPassUnlock : (ownPassUnlock params s).2.Bound := by
  unfold Machine.ownPassUnlock
  split
  · exact h
  · split
    · exact h
    next slot p hn =>
      split
      · exact State.Bonded.counted (s := s.setPass slot { p with state := .active, mismatches := 0 })
          (h.restatePass (passNumbered_found hn).2 rfl rfl rfl rfl rfl) _
      · exact h

theorem State.Bonded.ownSeatMapWrite : (ownSeatMapWrite params s).2.Bound := by
  unfold Machine.ownSeatMapWrite
  split
  · split
    · split
      · exact h
      · exact h.writeSeatMap _ _
    · exact h
  · exact h

omit h in
theorem cleared_bound (s : State) : s.cleared.Bound where
  wf := rfl
  tiered _ _ _ hb := by cases hb
  held _ _ _ hb := by cases hb
  few _ _ hp := by cases hp
  listed _ _ hp := by cases hp

theorem State.Bonded.ownMatchClear : (ownMatchClear params s).2.Bound := by
  unfold Machine.ownMatchClear
  split
  · exact (cleared_bound s).counted _
  · exact h

theorem State.Bonded.eject (ix : Nat) (a : Option Address) : (s.eject ix a).2.Bound := by
  unfold State.eject
  split
  · split
    · exact h
    next st hf =>
      have hd := dropFromRadios_frame s ix st
      split
      · exact h
      · exact State.Bonded.counted (State.Bonded.free (h.of_frame hd) (by rw [hd .stations (by decide)]; exact hf)) _
  · exact h

theorem State.Bonded.ownStationEject : (ownStationEject params s).2.Bound := by
  unfold Machine.ownStationEject
  split
  · split
    · exact h.eject _ _
    · exact h
  · exact h

end requests

/-! ### Messages, deadlines and the expiry sweep -/

section events
variable {s : State} (h : s.Bound)
include h

theorem State.Bonded.receive (r : RadioIx) (q : Byte) {owner : State → State} (ho : ∀ v, State.Bound v → (owner v).Bound) :
    (s.receive r q owner).Bound := by
  have hc (c : Counter) : ((s.checkSequence r q).count c).Bound := State.Bonded.counted (h.of_frame (checkSequence_frame s r q)) c
  unfold State.receive
  split
  · exact h
  · exact ho _ (hc _)
  · exact hc _
  · exact hc _

theorem State.Bonded.screen (r : RadioIx) (field : Half) {owner : Nat → Station → State → State}
    (ho : ∀ ix st, s.stations.find ix = some st → (owner ix st s).Bound) : (s.screen r field owner).Bound := by
  unfold State.screen
  split
  · exact (h.counted _).noted _
  next ix st hx => exact ho ix st (screened_found hx).2.2.1

theorem State.Bonded.leave {ix : Nat} {st : Station} (hf : s.stations.find ix = some st) (r : RadioIx) : (s.leave r ix st).Bound := by
  unfold State.leave
  split
  · exact (h.free hf).counted _
  next o n d p held _ =>
    split_ifs
    · exact h.kept (endReturn_bonds hf o p held) (endReturn_frame s ix st o p held)
    · exact State.Bonded.counted (h.kept (complete_bonds hf o n held) (complete_frame s ix st o n held)) _
    · exact h.kept (abandonToOrphan_bonds hf held) (abandonToOrphan_frame s ix st held)
  · exact (h.counted _).noted _

theorem State.Bonded.expiryVisit (slot : Nat) : (s.expiryVisit slot).Bound := by
  unfold State.expiryVisit
  split
  · exact h
  next p hp =>
    split
    · exact State.Bonded.counted (h.endPass hp _).1 _
    · exact h

end events

/-! ### The commands -/

section commands
variable {s t : State} (h : s.Bound)
include h

theorem event_bound {effect : State → State} (he : (effect s).Bound) (ht : event s effect = .next t) : t.Bound :=
  event_holds (P := State.Bound) (fs := noticeFields) (fun _ _ hf hs => State.Bonded.of_frame hs hf) (fun _ => id) (fun _ => he) ht h

theorem serve_bound {owner : List Byte → State → Reply × State} {lane : LaneIx} {k : RequestKind}
    (ho : ∀ params s, State.Bound s → (owner params s).2.Bound) (ht : serve lane k owner s = .next t) : t.Bound :=
  serve_holds (P := State.Bound) (fs := serviceFields) (fun _ _ hf hs => State.Bonded.of_frame hs hf) (fun _ => id) ho ht h

theorem orphanDeadline_bound {ix : StationIx} (ht : exec (.orphanDeadlineExpiry ix) s = .next t) : t.Bound := by
  dsimp only [exec, execOrphanDeadlineExpiry] at ht
  refine event_bound h ?_ ht
  split
  · exact h
  next st hf =>
    split
    · split
      · exact ((h.free hf).counted _).noted _
      · exact h
    · exact h

theorem expirySweepVisit_bound {t : State} (ht : exec .expirySweepVisit s = .next t) : t.Bound := by
  have hv := h.expiryVisit s.expirySweep.cursor
  dsimp only [exec, execExpirySweepVisit] at ht
  refine event_bound h ?_ ht
  generalize s.expiryVisit s.expirySweep.cursor = v at *
  have hsweep (w : Sweep) : State.Bound { v with expirySweep := w } := hv.congr (.same rfl) rfl rfl rfl
  split_ifs
  · exact hsweep _
  · exact ((hsweep _).counted _).noted _
  · exact h

end commands

end Sys2Proof.Machine
end

section
/-! PROOFS. The laws of bindings after every step (O9, O15). -/

namespace Sys2Proof.Machine

/- The whole text is elaborated in one process: its proofs in turn, so that their threads' stacks stay within its memory. -/
set_option Elab.async false

section kept
variable {s t : State}

theorem event_bonds {effect : State → State} (he : BondsKept s (effect s)) (ht : event s effect = .next t) : BondsKept s t :=
  event_holds (P := BondsKept s) (fs := noticeFields) (fun _ _ hf hs => hs.step hf) (fun _ => id) (fun _ => he) ht (.refl s)

theorem serve_bonds {owner : List Byte → State → Reply × State} {lane : LaneIx} {k : RequestKind}
    (ho : ∀ params s, BondsKept s (owner params s).2) (ht : serve lane k owner s = .next t) : BondsKept s t :=
  serve_holds (P := BondsKept s) (fs := serviceFields) (fun _ _ hf hs => hs.step hf) (fun _ => id)
    (fun params v hv => hv.trans (ho params v)) ht (.refl s)

theorem handoffDeadline_bonds {ix : StationIx} (ht : exec (.handoffDeadlineExpiry ix) s = .next t) : BondsKept s t := by
  dsimp only [exec, execHandoffDeadlineExpiry] at ht
  refine event_bonds ?_ ht
  split
  · exact .refl s
  next st hf =>
    split
    · split_ifs
      · exact endReturn_bonds hf _ _ _
      · exact force_bonds hf _ _ _ _
      · exact .refl s
    · exact .refl s

theorem withoutPrior_kept (st : Station) : st.withoutPrior.binding = st.binding ∧ st.withoutPrior.tier = st.tier := ⟨rfl, rfl⟩

theorem guardDeadline_bonds {ix : StationIx} (ht : exec (.guardDeadlineExpiry ix) s = .next t) : BondsKept s t := by
  dsimp only [exec, execGuardDeadlineExpiry] at ht
  refine event_bonds ?_ ht
  split
  · exact .refl s
  next st hf =>
    split
    · exact .refl s
    · split
      · exact .put (st' := st.withoutPrior) rfl hf rfl rfl
      · exact .refl s

theorem releasedMessage_bonds {r : RadioIx} {q : Byte} {station : Half} {device : Address} {undelivered : Half}
    (ht : exec (.released r q station device undelivered) s = .next t) : BondsKept s t := by
  dsimp only [exec, execReleased] at ht
  refine event_bonds (receive_bonds s r q fun v => ?_) ht
  split
  · split
    · exact stray_bonds v
    next st hf => exact released_bonds v r hf device _
  · exact stray_bonds v

theorem corrupt_bonds {r : RadioIx} {bytes : List Byte} (ht : exec (.corruptControlMessage r bytes) s = .next t) : BondsKept s t := by
  dsimp only [exec, execCorruptControlMessage] at ht
  refine event_bonds ?_ ht
  have hc : BondsKept s ((s.count (.link r .crcErrors)).note .crcError) := ((count_frame s _).bonds).step (note_frame _ _)
  split
  · exact .refl s
  · split
    · refine hc.trans ?_
      generalize (s.count (.link r .crcErrors)).note .crcError = v
      unfold State.strictForceAll
      exact (BondsKept.same (by rfl)).trans (BondsKept.foldl (fun s ix => strictForce_bonds s r ix) _ _)
    · exact hc

theorem downlink_bonds {f : FanFrame} (ht : exec (.downlinkFanFrame f) s = .next t) : BondsKept s t := by
  dsimp only [exec, execDownlinkFanFrame] at ht
  refine event_bonds ?_ ht
  split
  · exact (count_frame s _).bonds
  next ix st hm =>
    split
    · split
      · exact ((enqueue_frame s _ _).bonds).step (count_frame _ _)
      · exact (count_frame s _).bonds
    · exact hold_bonds s (State.mapped_found hm) _ _ _ _ _ f
    · exact (count_frame s _).bonds

theorem groupDecision_bonds {r : RadioIx} {c : ChannelIx} {which : Nat} (ht : exec (.groupDecision r c which) s = .next t) :
    BondsKept s t := by
  dsimp only [exec, execGroupDecision] at ht
  refine event_bonds ?_ ht
  split
  · exact .refl s
  next p rest _ =>
    split
    · exact .same rfl
    · exact (BondsKept.same (t := { s with offers := rest }) rfl).trans (decideGroup_bonds _ r c _ p)

theorem rate_bonds {r : RadioIx} {q : Byte} {station : Half} {rate : Byte} (ht : exec (.rate r q station rate) s = .next t) :
    BondsKept s t := by
  dsimp only [exec, execRate] at ht
  exact event_bonds (receive_bonds s r q fun v => screen_bonds v r station fun ix st hf =>
    .put (st' := { st with rate := clampRate rate }) rfl hf rfl rfl) ht

theorem joinMessage_bonds {r : RadioIx} {q : Byte} {a : Address} {rate : Byte} (ht : exec (.join r q a rate) s = .next t) :
    BondsKept s t := by
  dsimp only [exec, execJoin] at ht
  exact event_bonds (receive_bonds s r q fun v => join_bonds v r a (clampRate rate)) ht

theorem roamMessage_bonds {r : RadioIx} {q : Byte} {a : Address} {rate flags : Byte} (ht : exec (.roam r q a rate flags) s = .next t) :
    BondsKept s t := by
  dsimp only [exec, execRoam] at ht
  exact event_bonds (receive_bonds s r q fun v => roam_bonds v r a (clampRate rate) (flags.getLsbD 0)) ht

theorem subscribeMessage_bonds {r : RadioIx} {q : Byte} {ix : Half} {channel : Byte} (ht : exec (.subscribe r q ix channel) s = .next t) :
    BondsKept s t := by
  dsimp only [exec, execSubscribe] at ht
  exact event_bonds (receive_bonds s r q fun v => screen_bonds v r ix fun ix st hf => subscribe_bonds v r hf channel) ht

theorem unsubscribeMessage_bonds {r : RadioIx} {q : Byte} {ix : Half} {channel : Byte}
    (ht : exec (.unsubscribe r q ix channel) s = .next t) : BondsKept s t := by
  dsimp only [exec, execUnsubscribe] at ht
  exact event_bonds (receive_bonds s r q fun v => screen_bonds v r ix fun ix st hf => unsubscribe_bonds v r hf channel) ht

theorem channelOpen_bonds {lane : LaneIx} (ht : exec (.channelOpen lane) s = .next t) : BondsKept s t := by
  dsimp only [exec, execChannelOpen] at ht
  exact serve_bonds ownChannelOpen_bonds ht

theorem channelClose_bonds {lane : LaneIx} (ht : exec (.channelClose lane) s = .next t) : BondsKept s t := by
  dsimp only [exec, execChannelClose] at ht
  exact serve_bonds ownChannelClose_bonds ht

theorem Passes.bonds {up : RadioIx → Prop} {r : RadioIx} (h : Passes up r s t) : BondsKept s t := by
  rcases h with ⟨hst, -⟩ | ⟨h, -⟩
  · exact .same hst
  · exact .map (f := fun _ => Station.exited s r) h.found fun _ st => exited_kept s r st

end kept

section commands
variable {s t : State} (h : s.Bound)
include h

/-- Commands whose bindings stand and that reach no pass and no seat map. -/
theorem State.Bonded.stands {i : Instr} (ht : exec i s = .next t) (hb : BondsKept s t)
    (hd : ∀ f ∈ [Field.passes, .seatMap, .zoneSweep], f ∉ footprint i) : t.Bound :=
  h.kept hb (everyCommandKeepsToItsFootprint i s t ht) hd

/-- Commands that reach none of the tables of the laws of bindings. -/
theorem State.Bonded.footprint {i : Instr} (ht : exec i s = .next t)
    (hd : ∀ f ∈ [Field.stations, .passes, .seatMap, .zoneSweep], f ∉ footprint i) : t.Bound :=
  h.of_frame (everyCommandKeepsToItsFootprint i s t ht) hd

theorem powerOnReset_bound {e : ResetEvent} (ht : exec (.powerOnReset e) s = .next t) : t.Bound := by
  rcases powerOnReset_cases ht with rfl | ⟨carrier, rfl⟩
  · exact h.congr (.same rfl) rfl rfl rfl
  · exact State.Bonded.congr (powerOn_inv (carrier := carrier)).bound (.same rfl) rfl rfl rfl

theorem exec_bound {i : Instr} (hk : s.Housed) (ht : exec i s = .next t) : t.Bound := by
  cases i with
  | powerOnReset e => exact powerOnReset_bound h ht
  | carrierLoss r =>
    obtain ⟨up, hu⟩ := hk
    exact h.stands ht (carrierLoss_passes hu r ht).bonds (by simp [Machine.footprint, exitFields, noticeFields])
  | sampleExpiry r =>
    obtain ⟨up, hu⟩ := hk
    exact h.stands ht (sampleExpiry_passes hu r ht).bonds (by simp [Machine.footprint, exitFields, noticeFields])
  | linkRestart l =>
    obtain ⟨up, hu⟩ := hk
    obtain ⟨r, hpass⟩ := linkRestart_passes hu ht
    exact h.stands ht hpass.bonds (by simp [Machine.footprint, exitFields, noticeFields])
  | handoffDeadlineExpiry ix => exact h.stands ht (handoffDeadline_bonds ht) (by simp [Machine.footprint, exitFields, noticeFields])
  | guardDeadlineExpiry ix => exact h.stands ht (guardDeadline_bonds ht) (by simp [Machine.footprint])
  | orphanDeadlineExpiry ix => exact orphanDeadline_bound h ht
  | join r q a rate =>
    exact h.stands ht (joinMessage_bonds ht) (by simp [Machine.footprint, noticeFields])
  | roam r q a rate flags =>
    exact h.stands ht (roamMessage_bonds ht) (by simp [Machine.footprint, noticeFields])
  | leave r q ix =>
    dsimp only [exec, execLeave] at ht
    exact event_bound h (h.receive r q fun v hv => hv.screen r ix fun ix st hf => hv.leave hf r) ht
  | rate r q ix rate => exact h.stands ht (rate_bonds ht) (by simp [Machine.footprint, noticeFields])
  | claim r q ix pass code =>
    dsimp only [exec, execClaim] at ht
    exact event_bound h (h.receive r q fun v hv => hv.screen r ix fun ix st hf => hv.claim hf r pass code) ht
  | subscribe r q ix channel =>
    exact h.stands ht (subscribeMessage_bonds ht) (by simp [Machine.footprint, noticeFields])
  | unsubscribe r q ix channel =>
    exact h.stands ht (unsubscribeMessage_bonds ht) (by simp [Machine.footprint, noticeFields])
  | released r q ix device undelivered =>
    exact h.stands ht (releasedMessage_bonds ht) (by simp [Machine.footprint, exitFields, noticeFields])
  | corruptControlMessage r bytes => exact h.stands ht (corrupt_bonds ht) (by simp [Machine.footprint, exitFields, noticeFields])
  | downlinkFanFrame f => exact h.stands ht (downlink_bonds ht) (by simp [Machine.footprint, noticeFields])
  | groupDecision r c which => exact h.stands ht (groupDecision_bonds ht) (by simp [Machine.footprint, noticeFields])
  | expirySweepVisit => exact expirySweepVisit_bound h ht
  | zoneSweepVisit => exact zoneSweepVisit_bonds h hk ht
  | seatMapWrite l =>
    dsimp only [exec, execSeatMapWrite] at ht
    exact serve_bound h (fun p s hs => State.Bonded.ownSeatMapWrite hs p) ht
  | stationEject l =>
    dsimp only [exec, execStationEject] at ht
    exact serve_bound h (fun p s hs => State.Bonded.ownStationEject hs p) ht
  | matchClear l =>
    dsimp only [exec, execMatchClear] at ht
    exact serve_bound h (fun p s hs => State.Bonded.ownMatchClear hs p) ht
  | passLoad l =>
    dsimp only [exec, execPassLoad] at ht
    exact serve_bound h (fun p s hs => State.Bonded.ownPassLoad hs p) ht
  | passAmend l =>
    dsimp only [exec, execPassAmend] at ht
    exact serve_bound h (fun p s hs => State.Bonded.ownPassAmend hs p) ht
  | passRevoke l =>
    dsimp only [exec, execPassRevoke] at ht
    exact serve_bound h (fun p s hs => State.Bonded.ownPassRevoke hs p) ht
  | passRemove l =>
    dsimp only [exec, execPassRemove] at ht
    exact serve_bound h (fun p s hs => State.Bonded.ownPassRemove hs p) ht
  | passUnlock l =>
    dsimp only [exec, execPassUnlock] at ht
    exact serve_bound h (fun p s hs => State.Bonded.ownPassUnlock hs p) ht
  | channelOpen l => exact h.stands ht (channelOpen_bonds ht) (by simp [Machine.footprint, serviceFields, noticeFields])
  | channelClose l => exact h.stands ht (channelClose_bonds ht) (by simp [Machine.footprint, serviceFields, noticeFields])
  | _ => exact h.footprint ht (by simp [Machine.footprint, serviceFields, noticeFields])

end commands

end Sys2Proof.Machine
end

section
/-! PROOFS. The pass table and its map (R70, R71, R84, R89, R91), and that a pass out of force has no bound stations (R92). -/

namespace Sys2Proof.Machine

/- The whole text is elaborated in one process: its proofs in turn, so that their threads' stacks stay within its memory. -/
set_option Elab.async false

/-- The laws of the pass table in terms of what the tables read. -/
structure State.Passed (s : State) : Prop where
  wf : s.passes.wf = true
  mapWf : s.passMap.wf = true
  keys : ∀ slot p, s.passes.find slot = some p → slot < Config.passSlots
  mapped : ∀ slot p, s.passes.find slot = some p → s.passMap.find p.number.toNat = some slot
  named : ∀ n slot, s.passMap.find n = some slot → ∃ p, s.passes.find slot = some p ∧ p.number.toNat = n
  range : ∀ slot p, s.passes.find slot = some p → p.InRange
  idle : ∀ slot p, s.passes.find slot = some p → p.inForce = false → p.bound = []
  overdue : ∀ slot p, s.passes.find slot = some p → p.overdue s.phase = true → s.expirySweep.running = true ∧ s.expirySweep.cursor ≤ slot

theorem State.Inv.passed {s : State} (h : s.Inv) : s.Passed where
  wf := h.canonical.2.2.1
  mapWf := h.canonical.2.2.2.1
  keys _ _ hp := h.keys.2.1 _ (Table.mem_of_find hp)
  mapped _ _ hp := h.passMap.1 _ (Table.mem_of_find hp)
  named _ _ hn := h.passMap.2 _ (Table.mem_of_find hn)
  range _ _ hp := h.passes _ (Table.mem_of_find hp)
  idle _ _ hp hf := by
    obtain ⟨-, -, h3, -⟩ := h.bindings.2 _ (Table.mem_of_find hp)
    exact h3 hf
  overdue _ _ hp := h.overdue _ (Table.mem_of_find hp)

section laws
variable {s : State} (h : s.Passed)
include h

theorem State.Passed.passMapLaw : s.PassMapLaw :=
  ⟨fun _ he => h.mapped _ _ (Table.find_of_mem h.wf he), fun _ he => h.named _ _ (Table.find_of_mem h.mapWf he)⟩

theorem State.Passed.passesInRange : s.PassesInRange := fun _ he => h.range _ _ (Table.find_of_mem h.wf he)

theorem State.Passed.overdueLaw : s.OverdueLaw := fun _ he => h.overdue _ _ (Table.find_of_mem h.wf he)

end laws

/-! ### What stands -/

/-- A pass that takes the place of another in its slot: with its number, in its ranges, and overdue only where that was. -/
structure Pass.Succeeds (q p : Pass) (now : Phase) : Prop where
  number : q.number = p.number
  range : q.InRange
  idle : q.inForce = false → q.bound = []
  overdue : q.overdue now = true → p.overdue now = true

section kin
variable {s t : State} (h : s.Passed)
include h

theorem State.Passed.succeed (hm : t.passMap = s.passMap) (hph : t.phase = s.phase) (hsw : t.expirySweep = s.expirySweep)
    (hw : t.passes.wf = true) (f : Nat → Pass → Pass) (hp : ∀ j, t.passes.find j = (s.passes.find j).map (f j))
    (hf : ∀ j p, s.passes.find j = some p → (f j p).Succeeds p s.phase) : t.Passed := by
  have hfound {j : Nat} {q : Pass} (hj : t.passes.find j = some q) : ∃ p, s.passes.find j = some p ∧ q.Succeeds p s.phase := by
    rw [hp] at hj
    obtain ⟨p, h1, rfl⟩ := Option.map_eq_some_iff.mp hj
    exact ⟨p, h1, hf j p h1⟩
  refine ⟨hw, hm ▸ h.mapWf, fun j q hj => ?_, fun j q hj => ?_, fun n j hn => ?_, fun j q hj => ?_, fun j q hj => ?_, fun j q hj ho => ?_⟩
  · obtain ⟨p, h1, -⟩ := hfound hj
    exact h.keys j p h1
  · obtain ⟨p, h1, h2⟩ := hfound hj
    rw [hm, h2.number]
    exact h.mapped j p h1
  · obtain ⟨p, h1, h2⟩ := h.named n j (hm ▸ hn)
    refine ⟨f j p, ?_, by rw [(hf j p h1).number, h2]⟩
    rw [hp, h1, Option.map_some]
  · obtain ⟨p, -, h2⟩ := hfound hj
    exact h2.range
  · obtain ⟨p, -, h2⟩ := hfound hj
    exact h2.idle
  · obtain ⟨p, h1, h2⟩ := hfound hj
    rw [hsw]
    exact h.overdue j p h1 (h2.overdue (hph ▸ ho))

theorem State.Passed.itself {j : Nat} {p : Pass} (hp : s.passes.find j = some p) : p.Succeeds p s.phase :=
  ⟨rfl, h.range j p hp, h.idle j p hp, id⟩

theorem State.Passed.congr (hp : t.passes = s.passes) (hm : t.passMap = s.passMap) (hph : t.phase = s.phase)
    (hsw : t.expirySweep = s.expirySweep) : t.Passed :=
  h.succeed hm hph hsw (hp ▸ h.wf) (fun _ p => p) (fun j => by rw [hp, Option.map_id']) fun _ _ hj => h.itself hj

theorem State.Passed.of_frame {fs : List Field} (hf : ChangesOnly fs s t)
    (hd : ∀ f ∈ [Field.passes, .passMap, .phase, .expirySweep], f ∉ fs := by decide) : t.Passed :=
  h.congr (hf .passes (hd _ (by decide))) (hf .passMap (hd _ (by decide))) (hf .phase (hd _ (by decide)))
    (hf .expirySweep (hd _ (by decide)))

theorem State.Passed.counted (c : Counter) : (s.count c).Passed := h.of_frame (count_frame s c)

theorem State.Passed.noted (x : Source) : (s.note x).Passed := h.of_frame (note_frame s x)

theorem State.Passed.sent (r : RadioIx) (m : ControlOut) : (s.send r m).Passed := h.of_frame (send_frame s r m)

/-- One pass replaced by one that succeeds it. -/
theorem State.Passed.replaced {slot : Nat} {p q : Pass} (hslot : s.passes.find slot = some p) (hq : q.Succeeds p s.phase)
    (hm : t.passMap = s.passMap) (hph : t.phase = s.phase) (hsw : t.expirySweep = s.expirySweep) (hw : t.passes.wf = true)
    (hp : ∀ j, t.passes.find j = if j = slot then some q else s.passes.find j) : t.Passed := by
  refine h.succeed hm hph hsw hw (fun j p' => if j = slot then q else p') (fun j => ?_) fun j p' hj => ?_
  · rw [hp]
    split
    next hjs =>
      rw [hjs, hslot]
      rfl
    next => rw [Option.map_id']
  · split
    next hjs =>
      rw [hjs, hslot] at hj
      cases hj
      exact hq
    next => exact h.itself hj

theorem State.Passed.setPass {slot : Nat} {p q : Pass} (hslot : s.passes.find slot = some p) (hq : q.Succeeds p s.phase) :
    (s.setPass slot q).Passed :=
  h.replaced hslot hq rfl rfl rfl (Table.wf_put _ _ h.wf) fun _ => Table.find_put _ _ _ _

/-- Bound lists that lose stations. -/
theorem State.Passed.erased {c : Nat → Prop} [∀ j, Decidable (c j)] {g : List Nat → List Nat} (hg : g [] = [])
    (hm : t.passMap = s.passMap) (hph : t.phase = s.phase) (hsw : t.expirySweep = s.expirySweep) (hw : t.passes.wf = true)
    (hp : ∀ j, t.passes.find j = (s.passes.find j).map fun p => if c j then { p with bound := g p.bound } else p) : t.Passed := by
  refine h.succeed hm hph hsw hw (fun j p => if c j then { p with bound := g p.bound } else p) hp fun j p hj => ?_
  obtain ⟨h1, h2, h3, h4⟩ := h.itself hj
  split
  · exact ⟨h1, h2, fun hf => (congrArg g (h3 hf)).trans hg, h4⟩
  · exact ⟨h1, h2, h3, h4⟩

end kin

/-! ### Passes that end -/

/-- The ranges of a pass's fields, whatever its state (R70). -/
def Pass.FieldsInRange (p : Pass) : Prop :=
  p.tier ≠ .guest ∧ 1 ≤ p.width ∧ p.width ≤ 16 ∧ p.home + p.width ≤ Config.seatBlocks ∧ p.validFrom.value ≤ p.validUntil.value ∧
    p.mismatches ≤ Config.lockoutAt

theorem Pass.InRange.fields {p : Pass} (hp : p.InRange) : p.FieldsInRange := by
  obtain ⟨h1, h2, h3, h4, h5, h6, -⟩ := hp
  exact ⟨h1, h2, h3, h4, h5, h6⟩

/-- A pass in its ranges that ends stays in them, and is overdue no more. -/
theorem ended_succeeds {p q : Pass} (hn : q.number = p.number) (hq : q.FieldsInRange) {e : PassState} (he : e = .revoked ∨ e = .expired)
    (now : Phase) : Pass.Succeeds { q with state := e, bound := [] } p now := by
  obtain ⟨h1, h2, h3, h4, h5, h6⟩ := hq
  rcases he with rfl | rfl
  · exact ⟨hn, ⟨h1, h2, h3, h4, h5, h6, fun hs => (by cases hs), fun hs => (by cases hs)⟩, fun _ => rfl, fun ho => (by cases ho)⟩
  · exact ⟨hn, ⟨h1, h2, h3, h4, h5, h6, fun hs => (by cases hs), fun hs => (by cases hs)⟩, fun _ => rfl, fun ho => (by cases ho)⟩

/-! ### The operations -/

section operations
variable {s : State} (h : s.Passed)
include h

theorem State.Passed.unbind (slot ix : Nat) : (s.unbind slot ix).Passed := by
  have hframe := unbind_frame s slot ix
  exact h.erased (c := fun j => j = slot) (g := fun l => l.erase ix) rfl (hframe .passMap (by decide)) (hframe .phase (by decide))
    (hframe .expirySweep (by decide)) (unbind_passes_wf h.wf) (unbind_passes s slot ix)

theorem State.Passed.unbindAll (slot : Nat) (l : List Nat) : (s.unbindAll slot l).Passed :=
  foldl_induction (P := fun t => State.Passed t) (fun _ ix ht => State.Passed.unbind ht slot ix) _ h

theorem State.Passed.unbindStation (ix : Nat) (st : Station) : (s.unbindStation ix st).Passed := by
  unfold State.unbindStation
  split
  · exact h
  · exact h.unbind _ _

theorem State.Passed.free (ix : Nat) (st : Station) : (s.free ix st).Passed := by
  have hpasses : (s.free ix st).passes = (s.unbindStation ix st).passes := by
    rw [free_eq, State.count_passes]
    show ((State.lowerCounts _ st.place).passes) = _
    rw [lowerCounts_passes]
    show (s.emptied ix st).passes = _
    rw [State.emptied, discardHold_frame _ ix .passes (by decide), endSubscriptions_frame _ ix .passes (by decide)]
  have hframe := free_frame s ix st
  have hustep := unbindStation_frame s ix st
  have hu := h.unbindStation ix st
  generalize s.unbindStation ix st = u at *
  refine hu.congr hpasses ?_ ?_ ?_
  · rw [hframe .passMap (by decide), hustep .passMap (by decide)]
  · rw [hframe .phase (by decide), hustep .phase (by decide)]
  · rw [hframe .expirySweep (by decide), hustep .expirySweep (by decide)]

/-- A pass that ends (R72, R74), whether or not it has been amended at the same event (R79). -/
theorem State.Passed.endPass {slot : Nat} {p q : Pass} (hslot : s.passes.find slot = some p) (hn : q.number = p.number)
    (hq : q.FieldsInRange) {e : PassState} (he : e = .revoked ∨ e = .expired)
    {u : State} (hu : u.passes = s.passes ∨ u.passes = s.passes.put slot q) (hm : u.passMap = s.passMap) (hph : u.phase = s.phase)
    (hsw : u.expirySweep = s.expirySweep) : (u.endPass slot q e).Passed := by
  have hframe := endPass_frame u slot q e
  have huw : u.passes.wf = true := by
    rcases hu with hu | hu
    · exact hu ▸ h.wf
    · exact hu ▸ Table.wf_put _ _ h.wf
  refine h.replaced hslot (ended_succeeds hn hq he s.phase) ((hframe .passMap (by decide)).trans hm) ((hframe .phase (by decide)).trans hph)
    ((hframe .expirySweep (by decide)).trans hsw) ?_ fun j => ?_
  · exact unbindAll_passes_wf (s := u.setPass slot _) (Table.wf_put _ _ huw) q.bound
  · rw [endPass_passes]
    rcases hu with hu | hu
    · rw [hu]
    · rw [hu, Table.find_put]
      split <;> rfl

theorem State.Passed.ends {slot : Nat} {p : Pass} (hslot : s.passes.find slot = some p) {e : PassState} (he : e = .revoked ∨ e = .expired) :
    (s.endPass slot p e).Passed :=
  h.endPass hslot rfl (h.range slot p hslot).fields he (.inl rfl) rfl rfl rfl

end operations

end Sys2Proof.Machine
end

section
/-! PROOFS. Every command keeps the laws of the pass table (O16), and with them those of bindings hold after every step (O9, O15). -/

namespace Sys2Proof.Machine

/- The whole text is elaborated in one process: its proofs in turn, so that their threads' stacks stay within its memory. -/
set_option Elab.async false

/-! ### What a loaded and an amended pass holds (R75, R78) -/

theorem passTierOf_ne_guest {b : Byte} {tier : Tier} (h : passTierOf b = some tier) : tier ≠ .guest := by
  unfold passTierOf at h
  split_ifs at h <;> cases h <;> decide

theorem phaseOf_some {b : Byte} {p : Phase} (h : phaseOf b = some p) : p.value = b.toNat := by
  by_cases hb : 6 < b.toNat
  · rw [phaseOf_none hb] at h
    cases h
  · obtain ⟨q, hq⟩ := exists_phase (b := b) (by omega)
    rw [phaseOf_byte hq] at h
    cases h
    exact hq

theorem changeOf_some {α : Type} {f : List Byte → Option α} {o : Option (List Byte)} {v : Option α} (h : changeOf f o = some v) {x : α}
    (hx : v = some x) : ∃ b, f b = some x := by
  subst hx
  cases o with
  | none => cases h
  | some b =>
    obtain ⟨y, hy, he⟩ := Option.map_eq_some_iff.mp h
    cases he
    exact ⟨b, hy⟩

theorem tierChangeOf_ne_guest {b : List Byte} {tier : Tier} (h : tierChangeOf b = some tier) : tier ≠ .guest := by
  unfold tierChangeOf at h
  split at h
  · exact passTierOf_ne_guest h
  · cases h

theorem zoneChangeOf_some {b : List Byte} {z : Nat × Nat} (h : zoneChangeOf b = some z) :
    1 ≤ z.2 ∧ z.2 ≤ 16 ∧ z.1 + z.2 ≤ Config.seatBlocks := by
  unfold zoneChangeOf at h
  split at h
  · split at h
    next hz =>
      cases h
      exact hz
    next => cases h
  · cases h

theorem windowChangeOf_some {b : List Byte} {w : Phase × Phase} (h : windowChangeOf b = some w) : w.1.value ≤ w.2.value := by
  unfold windowChangeOf at h
  split at h
  · split at h
    · split at h
      next hw =>
        cases h
        exact hw
      next => cases h
    · cases h
  · cases h

/-- The changes of an amendment that R78 accepts lie in their ranges. -/
structure Amendment.Valid (a : Amendment) : Prop where
  tier : ∀ t, a.tier = some t → t ≠ .guest
  zone : ∀ z, a.zone = some z → 1 ≤ z.2 ∧ z.2 ≤ 16 ∧ z.1 + z.2 ≤ Config.seatBlocks
  window : ∀ w, a.window = some w → w.1.value ≤ w.2.value

theorem amendmentOf_valid {params : List Byte} {n : Word} {a : Amendment} (h : amendmentOf params = some (n, a)) : a.Valid := by
  unfold amendmentOf at h
  split at h
  · cases h
  iterate 4
    split at h
    · cases h
  split at h
  · split at h
    next ht hz hw =>
      dsimp only at h
      split at h
      · cases h
      · cases h
        refine ⟨fun t he => ?_, fun z he => ?_, fun w he => ?_⟩
        · obtain ⟨b, hb⟩ := changeOf_some ht he
          exact tierChangeOf_ne_guest hb
        · obtain ⟨b, hb⟩ := changeOf_some hz he
          exact zoneChangeOf_some hb
        · obtain ⟨b, hb⟩ := changeOf_some hw he
          exact windowChangeOf_some hb
    next => cases h
  · cases h

theorem Amendment.Valid.apply {a : Amendment} (h : a.Valid) {p : Pass} (hp : p.FieldsInRange) : (a.apply p).FieldsInRange := by
  obtain ⟨code, tier, zone, mask, window⟩ := a
  obtain ⟨h1, h2, h3, h4, h5, h6⟩ := hp
  obtain ⟨ht, hz, hw⟩ := h
  refine ⟨?_, ?_, ?_, ?_, ?_, h6⟩
  · cases tier with
    | none => exact h1
    | some t => exact ht t rfl
  · cases zone with
    | none => exact h2
    | some z => exact (hz z rfl).1
  · cases zone with
    | none => exact h3
    | some z => exact (hz z rfl).2.1
  · cases zone with
    | none => exact h4
    | some z => exact (hz z rfl).2.2
  · cases window with
    | none => exact h5
    | some w => exact hw w rfl

/-! ### Requests on passes -/

section requests
variable {s : State} (h : s.Passed) (params : List Byte)
include h

theorem State.Passed.loadsPass {p : Pass} (hr : p.InRange) (hb : p.bound = []) (ho : p.overdue s.phase = false) :
    (s.loadPass p).2.Passed := by
  unfold State.loadPass
  split
  · exact h.counted _
  next hnew =>
    split
    · exact h.counted _
    next slot hslot =>
      obtain ⟨hlt, hfree, -⟩ := Table.lowestFree_spec hslot
      have ht : State.Passed { s.setPass slot p with passMap := s.passMap.put p.number.toNat slot } := by
        have hfound {j : Nat} {q : Pass} (hj : (s.passes.put slot p).find j = some q) :
            (j = slot ∧ q = p) ∨ (j ≠ slot ∧ s.passes.find j = some q) := by
          rw [Table.find_put] at hj
          split at hj
          next hjs =>
            cases hj
            exact .inl ⟨hjs, rfl⟩
          next hjs => exact .inr ⟨hjs, hj⟩
        refine ⟨Table.wf_put _ _ h.wf, Table.wf_put _ _ h.mapWf, fun j q hj => ?_, fun j q hj => ?_, fun n j hn => ?_, fun j q hj => ?_,
          fun j q hj hf => ?_, fun j q hj hq => ?_⟩
        · rcases hfound hj with ⟨rfl, rfl⟩ | ⟨-, hj⟩
          · exact hlt
          · exact h.keys j q hj
        · show (s.passMap.put _ _).find _ = _
          rw [Table.find_put]
          rcases hfound hj with ⟨rfl, rfl⟩ | ⟨-, hj⟩
          · rw [if_pos rfl]
          · rw [if_neg fun he => by rw [← he, h.mapped j q hj] at hnew; cases hnew]
            exact h.mapped j q hj
        · show ∃ q, (s.passes.put slot p).find j = some q ∧ _
          rw [Table.find_put] at hn
          split at hn
          next he =>
            cases hn
            exact ⟨p, Table.find_put_same _ _ _, he.symm⟩
          next =>
            obtain ⟨q, h1, h2⟩ := h.named n j hn
            refine ⟨q, ?_, h2⟩
            rw [Table.find_put, if_neg fun he => by rw [he, hfree] at h1; cases h1]
            exact h1
        · rcases hfound hj with ⟨rfl, rfl⟩ | ⟨-, hj⟩
          · exact hr
          · exact h.range j q hj
        · rcases hfound hj with ⟨rfl, rfl⟩ | ⟨-, hj⟩
          · exact hb
          · exact h.idle j q hj hf
        · rcases hfound hj with ⟨rfl, rfl⟩ | ⟨-, hj⟩
          · rw [show (s.setPass j q).phase = s.phase from rfl, ho] at hq
            cases hq
          · exact h.overdue j q hj hq
      dsimp only
      split
      · exact (ht.counted _).counted _
      · exact ht.counted _

theorem State.Passed.ownPassLoad : (ownPassLoad params s).2.Passed := by
  unfold Machine.ownPassLoad
  split
  · split
    · exact h
    next hfault =>
      obtain ⟨h1, h2, h3, h4, h5, h6, h7⟩ := loadFault_none.mp hfault
      split
      next tier from_ until_ ht hf hu =>
        have hwindow : from_.value ≤ until_.value := by
          rw [phaseOf_some hf, phaseOf_some hu]
          exact h7
        have hstate : loadState until_ s.phase = .active ∨ loadState until_ s.phase = .expired := by
          unfold loadState
          split
          · exact .inr rfl
          · exact .inl rfl
        refine h.loadsPass ⟨passTierOf_ne_guest ht, h3, h4, h5, hwindow, Nat.zero_le _, fun hs => ?_, fun _ => Nat.zero_lt_succ _⟩ rfl ?_
        · rcases hstate with he | he <;> rw [show loadState until_ s.phase = .locked from hs] at he <;> cases he
        · show (Pass.inForce _ && Pass.ended _ _) = false
          rw [Bool.and_eq_false_iff]
          by_cases hended : until_.value < s.phase.value
          · left
            rw [Pass.inForce, show loadState until_ s.phase = .expired from if_pos hended]
            rfl
          · exact .inr (decide_eq_false hended)
      next => exact h
  · exact h

theorem State.Passed.amendPass {slot : Nat} {p : Pass} (hp : s.passes.find slot = some p) (hforce : p.inForce = true) {a : Amendment}
    (ha : a.Valid) : (s.amendPass slot p a).2.Passed := by
  have hfields := ha.apply (h.range slot p hp).fields
  unfold State.amendPass
  dsimp only
  split
  next =>
    refine State.Passed.counted (h.endPass hp (q := a.apply p) rfl hfields (.inr rfl) (.inr ?_) ?_ ?_ ?_) _
    · rw [State.count_passes]
      rfl
    · rw [State.count_passMap]
      rfl
    · rw [State.count_phase]
      rfl
    · rw [State.count_expirySweep]
      rfl
  next hx =>
    obtain ⟨h1, h2, h3, h4, h5, h6⟩ := hfields
    obtain ⟨-, -, -, -, -, -, h7, h8⟩ := h.range slot p hp
    have hended : (a.apply p).ended s.phase = false := by
      unfold amendExpires at hx
      rw [Bool.or_eq_true, not_or] at hx
      exact Bool.eq_false_iff.mpr hx.1
    have hset : (s.setPass slot (a.apply p)).Passed := h.setPass hp ⟨rfl, ⟨h1, h2, h3, h4, h5, h6, h7, h8⟩,
      fun hf => absurd (hforce.symm.trans hf) (by decide), fun ho => by
        unfold Pass.overdue at ho
        rw [hended, Bool.and_false] at ho
        cases ho⟩
    exact foldl_induction (P := fun t => State.Passed t) (fun t ix ht => State.Passed.of_frame ht (reload_frame t slot _ ix)) _
      (State.Passed.counted hset _)

theorem State.Passed.ownPassAmend : (ownPassAmend params s).2.Passed := by
  unfold Machine.ownPassAmend
  split
  · exact h
  next n a ha =>
    split
    · exact h
    next slot p hn =>
      split
      next hforce => exact h.amendPass (passNumbered_found hn).2 hforce (amendmentOf_valid ha)
      next => exact h

theorem State.Passed.revokePass {slot : Nat} {p : Pass} (hp : s.passes.find slot = some p) : (s.revokePass slot p).2.Passed := by
  have hr := h.range slot p hp
  obtain ⟨h1, h2, h3, h4, h5, h6⟩ := hr.fields
  have ht : ((if p.inForce then s.endPass slot p .revoked else s.setPass slot { p with state := .revoked }).count
      (.pass .revocations)).Passed := by
    refine State.Passed.counted ?_ _
    split
    · exact h.ends hp (.inl rfl)
    next hf =>
      exact h.setPass hp ⟨rfl, ⟨h1, h2, h3, h4, h5, h6, fun hs => (by cases hs), fun hs => (by cases hs)⟩,
        fun _ => h.idle slot p hp (Bool.eq_false_iff.mpr hf), fun ho => (by cases ho)⟩
  unfold State.revokePass
  dsimp only
  split
  · exact ht.noted _
  · exact ht

theorem State.Passed.ownPassRevoke : (ownPassRevoke params s).2.Passed := by
  unfold Machine.ownPassRevoke
  split
  · exact h
  · split
    · exact h
    next hn => exact h.revokePass (passNumbered_found hn).2

theorem State.Passed.removePass {slot : Nat} {p : Pass} (hp : s.passes.find slot = some p) : (s.removePass slot p).2.Passed := by
  have hu := h.unbindAll slot p.bound
  have hframe := unbindAll_frame s slot p.bound
  have hpu : ∃ q, (s.unbindAll slot p.bound).passes.find slot = some q ∧ q.number = p.number := by
    rw [unbindAll_passes, hp, Option.map_some, if_pos rfl]
    exact ⟨_, rfl, rfl⟩
  obtain ⟨q, hq, hn⟩ := hpu
  refine State.Passed.counted ?_ _
  generalize s.unbindAll slot p.bound = u at *
  have hfound {j : Nat} {x : Pass} (hj : (u.passes.drop slot).find j = some x) : j ≠ slot ∧ u.passes.find j = some x := by
    rw [Table.find_drop] at hj
    split at hj
    · cases hj
    next hne => exact ⟨hne, hj⟩
  refine ⟨Table.wf_drop _ hu.wf, Table.wf_drop _ hu.mapWf, fun j x hj => hu.keys j x (hfound hj).2, fun j x hj => ?_, fun n j hj => ?_,
    fun j x hj => hu.range j x (hfound hj).2, fun j x hj => hu.idle j x (hfound hj).2, fun j x hj => hu.overdue j x (hfound hj).2⟩
  · obtain ⟨hne, hx⟩ := hfound hj
    have hmap := hu.mapped j x hx
    show (u.passMap.drop _).find _ = _
    rw [Table.find_drop, if_neg fun he => ?_]
    · exact hmap
    · rw [he, ← hn, hu.mapped slot q hq] at hmap
      exact hne (Option.some_inj.mp hmap).symm
  · rw [Table.find_drop] at hj
    split at hj
    · cases hj
    next hne =>
      obtain ⟨x, hx, he⟩ := hu.named n j hj
      refine ⟨x, ?_, he⟩
      show (u.passes.drop slot).find j = some x
      rw [Table.find_drop, if_neg fun hjs => ?_]
      · exact hx
      · rw [hjs, hq] at hx
        cases hx
        exact hne (by rw [← he, hn])

theorem State.Passed.ownPassRemove : (ownPassRemove params s).2.Passed := by
  unfold Machine.ownPassRemove
  split
  · exact h
  · split
    · exact h
    next hn => exact h.removePass (passNumbered_found hn).2

theorem State.Passed.ownPassUnlock : (ownPassUnlock params s).2.Passed := by
  unfold Machine.ownPassUnlock
  split
  · exact h
  · split
    · exact h
    next slot p hn =>
      split
      next hlocked =>
        have hp := (passNumbered_found hn).2
        obtain ⟨h1, h2, h3, h4, h5, h6⟩ := (h.range slot p hp).fields
        refine State.Passed.counted (s := s.setPass slot { p with state := .active, mismatches := 0 }) (h.setPass hp
          ⟨rfl, ⟨h1, h2, h3, h4, h5, Nat.zero_le _, fun hs => (by cases hs), fun _ => Nat.zero_lt_succ _⟩, fun hf => (by cases hf),
              fun ho => ?_⟩) _
        unfold Pass.overdue Pass.inForce at ho ⊢
        rw [hlocked]
        exact ho
      next => exact h

/-- PHASE_SET starts the expiry sweep anew, so that any pass may be overdue (R87, R89). -/
theorem State.Passed.ownPhaseSet : (ownPhaseSet params s).2.Passed := by
  unfold Machine.ownPhaseSet
  split
  · split
    · exact h
    next p _ =>
      unfold State.setPhase
      split_ifs
      · exact h.counted _
      · exact h
      · refine State.Passed.counted ?_ _
        have hsweep : ({ s with phase := p }.startExpirySweep).expirySweep = { running := true, cursor := 0 } := by
          unfold State.startExpirySweep
          dsimp only
          split <;> rfl
        have hframe := startExpirySweep_frame { s with phase := p }
        have hpasses : ({ s with phase := p }.startExpirySweep).passes = s.passes := hframe .passes (by decide)
        have hmap : ({ s with phase := p }.startExpirySweep).passMap = s.passMap := hframe .passMap (by decide)
        clear hframe
        generalize State.startExpirySweep _ = t at *
        refine ⟨hpasses ▸ h.wf, hmap ▸ h.mapWf, hpasses ▸ h.keys, ?_, ?_, hpasses ▸ h.range, hpasses ▸ h.idle, fun _ _ _ _ => ?_⟩
        · rw [hpasses, hmap]
          exact h.mapped
        · rw [hpasses, hmap]
          exact h.named
        · rw [hsweep]
          exact ⟨rfl, Nat.zero_le _⟩
  · exact h

omit h in
theorem cleared_passed (s : State) : s.cleared.Passed where
  wf := rfl
  mapWf := rfl
  keys _ _ hp := by cases hp
  mapped _ _ hp := by cases hp
  named _ _ hp := by cases hp
  range _ _ hp := by cases hp
  idle _ _ hp := by cases hp
  overdue _ _ hp := by cases hp

theorem State.Passed.ownMatchClear : (ownMatchClear params s).2.Passed := by
  unfold Machine.ownMatchClear
  split
  · exact (cleared_passed s).counted _
  · exact h

theorem State.Passed.eject (ix : Nat) (a : Option Address) : (s.eject ix a).2.Passed := by
  unfold State.eject
  split
  · split
    · exact h
    next st hf =>
      split
      · exact h
      · exact State.Passed.counted (State.Passed.free (h.of_frame (dropFromRadios_frame s ix st)) ix st) _
  · exact h

theorem State.Passed.ownStationEject : (ownStationEject params s).2.Passed := by
  unfold Machine.ownStationEject
  split
  · split
    · exact h.eject _ _
    · exact h
  · exact h

end requests

end Sys2Proof.Machine
end

section
/-! PROOFS. The laws of bindings and of the pass table after every step (O9, O15, O16). -/

namespace Sys2Proof.Machine

/- The whole text is elaborated in one process: its proofs in turn, so that their threads' stacks stay within its memory. -/
set_option Elab.async false

/-! ### CLAIM, LEAVE and the expiry sweep -/

section claims
variable {s : State} (h : s.Passed)
include h

theorem State.Passed.refuseClaim (r : RadioIx) (ix : Nat) (pass : Word) (result : ClaimResult) :
    (s.refuseClaim r ix pass result).Passed := by
  unfold State.refuseClaim
  refine State.Passed.sent (State.Passed.noted ?_ _) _ _
  split
  · exact h
  · exact h.counted _

theorem State.Passed.mismatch {slot : Nat} {p : Pass} (hp : s.passes.find slot = some p) (hactive : p.state = .active) :
    (s.mismatch slot p).Passed := by
  obtain ⟨h1, h2, h3, h4, h5, h6, h7, h8⟩ := h.range slot p hp
  have hlt := h8 hactive
  have hforce : p.inForce = true := by
    unfold Pass.inForce
    rw [hactive]
    rfl
  have hoverdue {q : Pass} (hu : q.validUntil = p.validUntil) (hs : q.overdue s.phase = true) : p.overdue s.phase = true := by
    unfold Pass.overdue Pass.ended at hs ⊢
    rw [Bool.and_eq_true, hu] at hs
    rw [hforce, hs.2]
    rfl
  have hidle {q : Pass} (hq : q.state = .active ∨ q.state = .locked) (hf : q.inForce = false) : q.bound = [] := by
    unfold Pass.inForce at hf
    rcases hq with hq | hq <;> rw [hq] at hf <;> cases hf
  unfold State.mismatch
  split
  next hlock =>
    refine ((h.setPass (q := { p with mismatches := p.mismatches + 1, state := .locked }) hp
      ⟨rfl, ⟨h1, h2, h3, h4, h5, hlt, fun _ => hlock, fun hs => (by cases hs)⟩, hidle (.inr rfl), hoverdue rfl⟩).counted _).noted _
  next hshort =>
    exact h.setPass hp ⟨rfl, ⟨h1, h2, h3, h4, h5, hlt, fun hs => absurd (hactive.symm.trans hs) (by decide),
      fun _ => lt_of_le_of_ne hlt hshort⟩, hidle (.inl hactive), hoverdue rfl⟩

theorem State.Passed.bindClaim {slot : Nat} {p : Pass} (hp : s.passes.find slot = some p) (hactive : p.state = .active) (r : RadioIx)
    (ix : Nat) (st : Station) : (s.bindClaim r ix st slot p).Passed := by
  have hrebind : (s.rebind ix st).Passed ∧ ∃ q, (s.rebind ix st).passes.find slot = some q ∧ q.state = p.state := by
    unfold State.rebind
    split
    · exact ⟨h, p, hp, rfl⟩
    · refine ⟨(h.unbindStation ix st).counted _, ?_⟩
      rw [State.count_passes, unbindStation_passes, hp, Option.map_some]
      split <;> exact ⟨_, rfl, rfl⟩
  obtain ⟨h1, q, hq, hstate⟩ := hrebind
  unfold State.bindClaim
  generalize s.rebind ix st = u at *
  rw [appendBound_found hq]
  have hq0 := h1.itself hq
  have hset : (u.setPass slot { q with bound := q.bound ++ [ix] }).Passed := h1.setPass hq ⟨rfl, hq0.range, fun hf => ?_, hq0.overdue⟩
  · generalize u.setPass slot _ = v at *
    exact (State.Passed.counted (State.Passed.of_frame hset (loadBinding_frame v slot p ix)) _).sent _ _
  · unfold Pass.inForce at hf
    rw [hstate, hactive] at hf
    cases hf

theorem State.Passed.checkClaim (r : RadioIx) (ix : Nat) (st : Station) (pass : Word) (code : Half) :
    (s.checkClaim r ix st pass code).Passed := by
  unfold State.checkClaim
  split
  · exact h.refuseClaim _ _ _ _
  · split
    · exact h.refuseClaim _ _ _ _
    next slot _ p hp =>
      split
      · exact h.refuseClaim _ _ _ _
      · exact h.refuseClaim _ _ _ _
      · exact h.refuseClaim _ _ _ _
      next hactive =>
        split_ifs
        · exact h.refuseClaim _ _ _ _
        · exact ((h.ends hp (.inr rfl)).counted _).refuseClaim _ _ _ _
        · exact (h.mismatch hp hactive).refuseClaim _ _ _ _
        · exact (h.counted _).sent _ _
        · exact h.refuseClaim _ _ _ _
        · exact h.bindClaim hp hactive r ix st

theorem State.Passed.claim (r : RadioIx) (ix : Nat) (st : Station) (pass : Word) (code : Half) : (s.claim r ix st pass code).Passed := by
  have hc := h.counted (.admission .claimsReceived)
  unfold State.claim
  dsimp only
  split
  · exact hc.checkClaim r ix st pass code
  · exact hc.refuseClaim _ _ _ _

theorem State.Passed.leave (r : RadioIx) (ix : Nat) (st : Station) : (s.leave r ix st).Passed := by
  unfold State.leave
  split
  · exact (h.free ix st).counted _
  next o n d p held _ =>
    split_ifs
    · exact h.of_frame (endReturn_frame s ix st o p held)
    · exact State.Passed.counted (h.of_frame (complete_frame s ix st o n held)) _
    · exact h.of_frame (abandonToOrphan_frame s ix st held)
  · exact (h.counted _).noted _

theorem State.Passed.receive (r : RadioIx) (q : Byte) {owner : State → State} (ho : ∀ v, State.Passed v → (owner v).Passed) :
    (s.receive r q owner).Passed := by
  have hc (c : Counter) : ((s.checkSequence r q).count c).Passed := State.Passed.counted (h.of_frame (checkSequence_frame s r q)) c
  unfold State.receive
  split
  · exact h
  · exact ho _ (hc _)
  · exact hc _
  · exact hc _

theorem State.Passed.screen (r : RadioIx) (field : Half) {owner : Nat → Station → State → State}
    (ho : ∀ ix st, (owner ix st s).Passed) : (s.screen r field owner).Passed := by
  unfold State.screen
  split
  · exact (h.counted _).noted _
  · exact ho _ _

/-- After the sweep's visit no pass is overdue at its slot (R88). -/
theorem State.Passed.expiryVisit (slot : Nat) : (s.expiryVisit slot).Passed ∧
    ∀ p, (s.expiryVisit slot).passes.find slot = some p → p.overdue (s.expiryVisit slot).phase = false := by
  unfold State.expiryVisit
  split
  next hnone => exact ⟨h, fun p hp => by rw [hnone] at hp; cases hp⟩
  next p hp =>
    split
    next =>
      refine ⟨(h.ends hp (.inr rfl)).counted _, fun q hq => ?_⟩
      rw [State.count_passes, endPass_passes, if_pos rfl] at hq
      cases hq
      rfl
    next ho =>
      refine ⟨h, fun q hq => ?_⟩
      rw [hp] at hq
      cases hq
      exact Bool.eq_false_iff.mpr ho

/-- The expiry sweep moved past a slot at which no pass is overdue. -/
theorem State.Passed.moved {slot : Nat} (hdone : ∀ p, s.passes.find slot = some p → p.overdue s.phase = false)
    (hcursor : s.expirySweep.cursor = slot) {w : Sweep}
    (hw : w = { running := true, cursor := slot + 1 } ∨ (¬ slot + 1 < Config.passSlots)) : State.Passed { s with expirySweep := w } := by
  refine ⟨h.wf, h.mapWf, h.keys, h.mapped, h.named, h.range, h.idle, fun j p hj ho => ?_⟩
  obtain ⟨-, hle⟩ := h.overdue j p hj ho
  rw [hcursor] at hle
  have hne : j ≠ slot := fun hjs => by
    have hnot := hdone p (hjs ▸ hj)
    rw [show p.overdue s.phase = true from ho] at hnot
    cases hnot
  rcases hw with rfl | hlast
  · exact ⟨rfl, lt_of_le_of_ne hle (Ne.symm hne)⟩
  · have hkey := h.keys j p hj
    omega

end claims

/-! ### The commands -/

section commands
variable {s t : State} (h : s.Passed)
include h

theorem event_passed {effect : State → State} (he : (effect s).Passed) (ht : event s effect = .next t) : t.Passed :=
  event_holds (P := State.Passed) (fs := noticeFields) (fun _ _ hf hs => State.Passed.of_frame hs hf) (fun _ => id) (fun _ => he) ht h

theorem serve_passed {owner : List Byte → State → Reply × State} {lane : LaneIx} {k : RequestKind}
    (ho : ∀ params s, State.Passed s → (owner params s).2.Passed) (ht : serve lane k owner s = .next t) : t.Passed :=
  serve_holds (P := State.Passed) (fs := serviceFields) (fun _ _ hf hs => State.Passed.of_frame hs hf) (fun _ => id) ho ht h

theorem orphanDeadline_passed {ix : StationIx} (ht : exec (.orphanDeadlineExpiry ix) s = .next t) : t.Passed := by
  dsimp only [exec, execOrphanDeadlineExpiry] at ht
  refine event_passed h ?_ ht
  split
  · exact h
  next st hf =>
    split
    · split
      · exact ((h.free _ st).counted _).noted _
      · exact h
    · exact h

theorem expirySweepVisit_passed (ht : exec .expirySweepVisit s = .next t) : t.Passed := by
  obtain ⟨hv, hdone⟩ := h.expiryVisit s.expirySweep.cursor
  have hcursor : (s.expiryVisit s.expirySweep.cursor).expirySweep = s.expirySweep :=
    expiryVisit_frame s s.expirySweep.cursor .expirySweep (by decide)
  dsimp only [exec, execExpirySweepVisit] at ht
  refine event_passed h ?_ ht
  generalize s.expiryVisit s.expirySweep.cursor = v at *
  split_ifs with hr hlast
  · exact hv.moved hdone (by rw [hcursor]) (.inl rfl)
  · exact ((hv.moved (w := Sweep.stopped) hdone (by rw [hcursor]) (.inr hlast)).counted _).noted _
  · exact h

theorem powerOnReset_passed {e : ResetEvent} (ht : exec (.powerOnReset e) s = .next t) : t.Passed := by
  rcases powerOnReset_cases ht with rfl | ⟨carrier, rfl⟩
  · exact h.congr rfl rfl rfl rfl
  · exact State.Passed.congr (powerOn_inv (carrier := carrier)).passed rfl rfl rfl rfl

/-- Commands that reach no part of the pass table. -/
theorem State.Passed.footprint {i : Instr} (ht : exec i s = .next t)
    (hd : ∀ f ∈ [Field.passes, .passMap, .phase, .expirySweep], f ∉ footprint i) : t.Passed :=
  h.of_frame (everyCommandKeepsToItsFootprint i s t ht) hd

theorem exec_passed {i : Instr} (ht : exec i s = .next t) : t.Passed := by
  cases i with
  | powerOnReset e => exact powerOnReset_passed h ht
  | orphanDeadlineExpiry ix => exact orphanDeadline_passed h ht
  | leave r q ix =>
    dsimp only [exec, execLeave] at ht
    exact event_passed h (h.receive r q fun v hv => hv.screen r ix fun ix st => hv.leave r ix st) ht
  | claim r q ix pass code =>
    dsimp only [exec, execClaim] at ht
    exact event_passed h (h.receive r q fun v hv => hv.screen r ix fun ix st => hv.claim r ix st pass code) ht
  | expirySweepVisit => exact expirySweepVisit_passed h ht
  | stationEject l =>
    dsimp only [exec, execStationEject] at ht
    exact serve_passed h (fun p s hs => State.Passed.ownStationEject hs p) ht
  | phaseSet l =>
    dsimp only [exec, execPhaseSet] at ht
    exact serve_passed h (fun p s hs => State.Passed.ownPhaseSet hs p) ht
  | matchClear l =>
    dsimp only [exec, execMatchClear] at ht
    exact serve_passed h (fun p s hs => State.Passed.ownMatchClear hs p) ht
  | passLoad l =>
    dsimp only [exec, execPassLoad] at ht
    exact serve_passed h (fun p s hs => State.Passed.ownPassLoad hs p) ht
  | passAmend l =>
    dsimp only [exec, execPassAmend] at ht
    exact serve_passed h (fun p s hs => State.Passed.ownPassAmend hs p) ht
  | passRevoke l =>
    dsimp only [exec, execPassRevoke] at ht
    exact serve_passed h (fun p s hs => State.Passed.ownPassRevoke hs p) ht
  | passRemove l =>
    dsimp only [exec, execPassRemove] at ht
    exact serve_passed h (fun p s hs => State.Passed.ownPassRemove hs p) ht
  | passUnlock l =>
    dsimp only [exec, execPassUnlock] at ht
    exact serve_passed h (fun p s hs => State.Passed.ownPassUnlock hs p) ht
  | _ => exact h.footprint ht (by simp [Machine.footprint, exitFields, serviceFields, noticeFields])

end commands

/-! ### After every step -/

/-- What every command keeps of stations, bindings and passes. -/
def State.Sane (s : State) : Prop := s.Housed ∧ s.Bound ∧ s.Passed

theorem step_sane {s t : State} (ht : step s = .next t) (h : s.Inv) : t.Sane := by
  refine step_keeps (P := State.Sane) (fun s rest ⟨⟨up, hu⟩, hb, hp⟩ => ⟨⟨up, hu.congr rfl rfl rfl rfl rfl rfl (.same rfl)⟩,
    hb.congr (.same rfl) rfl rfl rfl, hp.congr rfl rfl rfl rfl⟩) (fun i s t ht ⟨hk, hb, hp⟩ => ?_) ht ⟨⟨_, h.upheld⟩, h.bound, h.passed⟩
  exact ⟨exec_housed ht hk, exec_bound hb hk ht, exec_passed hp ht⟩

/-- Settles O9: the third and fourth law are part of what every command keeps about bindings. -/
theorem bindingLawsKept : Obligations.BindingLawsKept := by
  intro s t h ht
  obtain ⟨⟨_, hu⟩, hb, hp⟩ := step_sane ht h
  exact ⟨State.Bound.bindingLaw hb hu.wf hp.idle, State.Bound.entitlementLaw hb hu.wf⟩

/-- Settles O15, as O9. -/
theorem zoneLawKept : Obligations.ZoneLawKept := by
  intro s t h ht
  obtain ⟨⟨_, hu⟩, hb, -⟩ := step_sane ht h
  exact State.Bound.zoneLaw hb hu.wf

/-- Settles O16: the pass table by what each command that reaches it does to one slot. -/
theorem passTableKept : Obligations.PassTableKept := by
  intro s t h ht
  obtain ⟨-, -, hp⟩ := step_sane ht h
  exact ⟨hp.passMapLaw, hp.passesInRange, hp.overdueLaw⟩

end Sys2Proof.Machine
end

section
/-! PROOFS. The seat map, and the canonical form of every table (O6). -/

namespace Sys2Proof.Machine

/- The whole text is elaborated in one process: its proofs in turn, so that their threads' stacks stay within its memory. -/
set_option Elab.async false

/-! ### The seat map -/

/-- The seat map is a table of seat blocks (R103). -/
def State.SeatMapFormed (s : State) : Prop := s.seatMap.wf = true ∧ ∀ e ∈ s.seatMap, e.1 < Config.seatBlocks

theorem State.SeatMapFormed.of_frame {fs : List Field} {s t : State} (hd : Field.seatMap ∉ fs) (hf : ChangesOnly fs s t)
    (h : s.SeatMapFormed) :
    t.SeatMapFormed := by
  rwa [State.SeatMapFormed, show t.seatMap = s.seatMap from hf .seatMap hd]

theorem writeBlock_formed {m : Table RadioIx} {block : Nat} (hb : block < Config.seatBlocks) (v : Option RadioIx)
    (h : m.wf = true ∧ ∀ e ∈ m, e.1 < Config.seatBlocks) :
    (writeBlock m block v).wf = true ∧ ∀ e ∈ writeBlock m block v, e.1 < Config.seatBlocks := by
  obtain ⟨hw, hk⟩ := h
  cases v with
  | none => exact ⟨Table.wf_drop _ hw, fun e he => hk e (Table.mem_drop.mp he).1⟩
  | some r =>
    refine ⟨Table.wf_put _ _ hw, fun e he => ?_⟩
    rcases Table.mem_put he with rfl | he
    · exact hb
    · exact hk e he

theorem writeBlocks_formed (values : List (Option RadioIx)) : ∀ {m : Table RadioIx} {first : Nat},
    first + values.length ≤ Config.seatBlocks → (m.wf = true ∧ ∀ e ∈ m, e.1 < Config.seatBlocks) →
    (writeBlocks m first values).wf = true ∧ ∀ e ∈ writeBlocks m first values, e.1 < Config.seatBlocks := by
  induction values with
  | nil => exact fun _ h => h
  | cons v rest ih =>
    intro m first hle h
    rw [List.length_cons] at hle
    exact ih (by omega) (writeBlock_formed (by omega) v h)

theorem ownSeatMapWrite_formed (p : List Byte) (s : State) (h : s.SeatMapFormed) : (ownSeatMapWrite p s).2.SeatMapFormed := by
  unfold ownSeatMapWrite
  split
  next b1 b0 n values =>
    split
    next hok =>
      split
      · exact h
      next vs hvs =>
        obtain ⟨hlen, hblocks⟩ := hok
        obtain ⟨-, -, hlast⟩ := (blocksOk_iff _ _).mp hblocks
        have hwritten : (s.writeSeatMap (unsigned [b1, b0]) vs).2.seatMap = writeBlocks s.seatMap (unsigned [b1, b0]) vs :=
          (State.count_seatMap _ _).trans (startZoneSweep_frame _ .seatMap (by decide))
        rw [State.SeatMapFormed, hwritten]
        exact writeBlocks_formed vs (by rw [mapM_entryOf_length hvs, hlen]; exact hlast) h
    next => exact h
  · exact h

theorem exec_seatMapFormed {i : Instr} {s t : State} (ht : exec i s = .next t) (h : s.SeatMapFormed) : t.SeatMapFormed := by
  have same (hd : Field.seatMap ∉ footprint i) : t.SeatMapFormed := h.of_frame hd (everyCommandKeepsToItsFootprint i s t ht)
  cases i with
  | powerOnReset e =>
    rcases powerOnReset_cases ht with rfl | ⟨carrier, rfl⟩
    · exact h
    · exact ⟨rfl, fun e he => absurd he List.not_mem_nil⟩
  | seatMapWrite l =>
    dsimp only [exec, execSeatMapWrite] at ht
    exact serve_holds (P := State.SeatMapFormed) (fs := serviceFields) (fun _ _ hf hs => hs.of_frame (by decide) hf) (fun _ => id)
      ownSeatMapWrite_formed ht h
  | _ => exact same (by simp [footprint, exitFields, freeFields, unbindFields, serviceFields, noticeFields])

/-! ### The counters -/

/-- The counters are a table. -/
def State.CountersFormed (s : State) : Prop := s.counters.wf = true

theorem exec_countersFormed {i : Instr} {s t : State} (ht : exec i s = .next t) (h : s.CountersFormed) : t.CountersFormed := by
  rcases eq_powerOnReset_or i with ⟨e, rfl⟩ | hp
  · rcases powerOnReset_cases ht with rfl | ⟨carrier, rfl⟩
    · exact h
    · rfl
  · exact (exec_lasting hp ht).counters.wf h

/-! ### Every table -/

/-- Settles O6: the tables of stations, groups and passes by what every command keeps of them, the seat map by its one writer, the
counters as what counting leaves. -/
theorem tablesCanonicalKept : Obligations.TablesCanonicalKept := by
  intro s t h ht
  obtain ⟨-, -, -, -, -, -, hcounters⟩ := h.canonical
  obtain ⟨-, -, hblocks, -⟩ := h.keys
  obtain ⟨⟨_, hu⟩, -, hp⟩ := step_sane ht h
  have hmap : t.SeatMapFormed := step_keeps (fun _ _ => id) (fun _ _ _ => exec_seatMapFormed) ht ⟨h.canonical.2.2.2.2.1, hblocks⟩
  have hcount : t.CountersFormed := step_keeps (fun _ _ => id) (fun _ _ _ => exec_countersFormed) ht hcounters
  exact ⟨⟨hu.wf, hu.mapWf, hp.wf, hp.mapWf, hmap.1, hu.formed.wf, hcount⟩,
    (Table.forall_iff hu.wf (P := fun ix _ => ix < _)).mpr hu.keys,
    (Table.forall_iff hp.wf (P := fun slot _ => slot < _)).mpr hp.keys, hmap.2, hu.formed.keys⟩

end Sys2Proof.Machine
end

section
/-! PROOFS. Replay credit and the profiles that bound it (O11). -/

namespace Sys2Proof.Machine

/- The whole text is elaborated in one process: its proofs in turn, so that their threads' stacks stay within its memory. -/
set_option Elab.async false

/-! ### A radio's credit in its profile's range -/

/-- A credit that a profile allows: from minus half its refill to its cap (R135). -/
def Profile.Bears (p : Profile) (credit : Int) : Prop := -((p.refill / 2 : Nat) : Int) ≤ credit ∧ credit ≤ (p.cap : Int)

theorem Profile.bears_clampCredit (p : Profile) (credit : Int) : p.Bears (clampCredit p.refill p.cap credit) := by
  unfold clampCredit
  exact ⟨le_max_left _ _, max_le (by omega) (min_le_left _ _)⟩

/-- A refill takes a credit no higher than the cap (R136). -/
theorem Profile.Bears.refilled {p : Profile} {credit : Int} (h : p.Bears credit) : p.Bears (min (credit + p.refill) p.cap) :=
  ⟨le_min (by have := h.1; omega) (by omega), min_le_right _ _⟩

/-- A charge that is taken leaves a credit in hand, or borrows no deeper than half the refill (R133). -/
theorem Profile.Bears.charged {p : Profile} {credit left : Int} {cls : ReplayClass} {cost : Nat} (h : p.Bears credit)
    (hc : creditAfter p credit cls cost = some left) : p.Bears left := by
  obtain ⟨-, hcap⟩ := h
  unfold creditAfter at hc
  split_ifs at hc with h0 hhand hborrow <;> obtain rfl := Option.some.inj hc
  · exact ⟨by omega, by omega⟩
  · exact ⟨hborrow.2, by omega⟩

theorem appliedProfile_inRange (period limit refill cap bias : Nat) (d : DetectMode) (strict : Bool) :
    (appliedProfile period limit refill cap bias d strict).InRange period := by
  dsimp only [Profile.InRange, appliedProfile, clampTo]
  omega

/-! ### Every radio's -/

/-- Every radio's profile in range, and its credit in that profile's. -/
def State.Budgeted (s : State) : Prop :=
  ∀ r : RadioIx, s.links[r].profile.InRange s.settings.budgetPeriod ∧ s.links[r].profile.Bears s.credit[r]

theorem State.Inv.budgeted {s : State} (h : s.Inv) : s.Budgeted := fun r => ⟨h.profiles r, h.credits r⟩

theorem State.Budgeted.of_frame {fs : List Field} {s t : State} (hd : ∀ f ∈ [Field.links, .credit, .settings], f ∉ fs)
    (hf : ChangesOnly fs s t) (h : s.Budgeted) : t.Budgeted := by
  rwa [State.Budgeted, show t.links = s.links from hf .links (hd _ (by decide)),
    show t.credit = s.credit from hf .credit (hd _ (by decide)),
    show t.settings = s.settings from hf .settings (hd _ (by decide))]

/-- Where profiles and settings stand, the credits decide. -/
theorem State.Budgeted.credited {s t : State} (h : s.Budgeted) (hp : ∀ r : RadioIx, t.links[r].profile = s.links[r].profile)
    (hs : t.settings = s.settings) (hc : ∀ r : RadioIx, t.credit[r] = s.credit[r] ∨ s.links[r].profile.Bears t.credit[r]) :
    t.Budgeted := by
  intro r
  rw [hp, hs]
  refine ⟨(h r).1, ?_⟩
  rcases hc r with hr | hr
  · rw [hr]
    exact (h r).2
  · exact hr

theorem credit_set {s t : State} {r : RadioIx} {c : Int} (ht : t.credit = s.credit.set r c) (hc : s.links[r].profile.Bears c)
    (r' : RadioIx) :
    t.credit[r'] = s.credit[r'] ∨ s.links[r'].profile.Bears t.credit[r'] := by
  rw [ht]
  by_cases he : r' = r
  · subst he
    exact .inr (by rwa [show (s.credit.set r' c)[r'] = c from Vector.getElem_set_self r'.isLt])
  · exact .inl (Vector.getElem_set_ne r.isLt r'.isLt fun hv => he (Fin.ext hv.symm))

section operations
variable {s : State} (h : s.Budgeted)
include h

theorem State.Budgeted.refilled (r : RadioIx) : (s.refilled r).Budgeted :=
  h.credited (fun _ => rfl) rfl (credit_set rfl (h r).2.refilled)

theorem State.Budgeted.decideGroup (r : RadioIx) {c : ChannelIx} {g : Group} (hg : s.group r c = some g) (p : Packet) :
    (s.decideGroup r c g p).Budgeted := by
  have hframe := decideGroup_frame s r c g p
  refine h.credited (decideGroup_steady s r c g p).profiles (hframe .settings (by decide)) fun r' => ?_
  have dropped (n : Counter) (x : Source) : (((s.deliver r c .skipToKey).count n).note x).credit = s.credit :=
    deliver_frame s r c .skipToKey .credit (by decide)
  have same {t : State} (ht : t.credit = s.credit) : t.credit[r'] = s.credit[r'] ∨ s.links[r'].profile.Bears t.credit[r'] :=
    .inl (by rw [ht])
  unfold State.decideGroup
  split_ifs
  · exact same rfl
  · exact same rfl
  · unfold State.decideFor
    dsimp only
    split_ifs
    · exact same (dropped _ _)
    · split
      · exact same (dropped _ _)
      next credit hc => exact credit_set (sendCopies_effect hg _ credit).1 ((h r).2.charged hc) r'

theorem State.Budgeted.setProfile (r : RadioIx) (limit refill cap bias : Nat) (d : DetectMode) (strict : Bool) :
    (s.setProfile r limit refill cap bias d strict).2.Budgeted := by
  unfold State.setProfile
  dsimp only
  split
  · exact h
  next =>
    intro r'
    by_cases he : r' = r
    · subst he
      dsimp only [State.setLink]
      rw [set_link_same, show ∀ c : Int, (s.credit.set r' c)[r'] = c from fun c => Vector.getElem_set_self r'.isLt]
      exact ⟨appliedProfile_inRange _ _ _ _ _ _ _, Profile.bears_clampCredit _ _⟩
    · dsimp only [State.setLink]
      rw [set_link_other _ he, show ∀ c : Int, (s.credit.set r c)[r'] = s.credit[r'] from
        fun c => Vector.getElem_set_ne r.isLt r'.isLt fun hv => he (Fin.ext hv.symm)]
      exact h r'

theorem State.Budgeted.ownRadioProfileSet (p : List Byte) : (ownRadioProfileSet p s).2.Budgeted := by
  unfold Sys2Proof.Machine.ownRadioProfileSet
  split
  · split
    · exact h.setProfile _ _ _ _ _ _ _
    · exact h
  · exact h

/-- A new budget period clamps the refills above it, and their credits with them (R138). -/
theorem State.Budgeted.setBudgetPeriod (value : Nat) : (s.setSector .budgetPeriod value).2.Budgeted := by
  obtain ⟨hset, hsame, hnew⟩ := setSector_budgetPeriod rfl s
  intro r
  rw [hset]
  by_cases he : s.settings.budgetPeriod = Setting.budgetPeriod.clamp value
  · obtain ⟨hl, hc⟩ := hsame he
    rw [hl, hc, ← he]
    exact h r
  · obtain ⟨⟨h1, h2, h3, h4, h5, h6, h7⟩, hb⟩ := h r
    obtain ⟨hle, hlt⟩ := hnew he r
    rcases le_or_gt s.links[r].profile.refill (Setting.budgetPeriod.clamp value * 1000) with hr | hr
    · obtain ⟨hl, hc⟩ := hle hr
      rw [hl, hc]
      exact ⟨⟨h1, h2, hr, h4, h5, h6, h7⟩, hb⟩
    · obtain ⟨hl, hc⟩ := hlt hr
      rw [hl, hc]
      exact ⟨⟨h1, h2, le_rfl, hr.le.trans h4, hr.le.trans h5, h6, h7⟩,
        Profile.bears_clampCredit { s.links[r].profile with refill := Setting.budgetPeriod.clamp value * 1000 } _⟩

theorem State.Budgeted.ownSectorSet (p : List Byte) : (ownSectorSet p s).2.Budgeted := by
  unfold Sys2Proof.Machine.ownSectorSet
  split
  · split
    · exact h
    next k _ =>
      by_cases hk : k = .budgetPeriod
      · subst hk
        exact h.setBudgetPeriod _
      · rw [setSector_other hk rfl]
        have hperiod (n : Nat) : (s.settings.put k n).budgetPeriod = s.settings.budgetPeriod := by
          cases k with
          | budgetPeriod => exact absurd rfl hk
          | _ => rfl
        intro r
        dsimp only [State.count_links, State.count_settings, State.count_credit]
        rw [hperiod]
        exact h r
  · exact h

theorem State.Budgeted.ownMatchClear (p : List Byte) : (ownMatchClear p s).2.Budgeted := by
  unfold Sys2Proof.Machine.ownMatchClear
  split
  · refine State.Budgeted.of_frame (by decide) (count_frame s.cleared _) (h.credited (fun _ => rfl) rfl fun r => .inr ?_)
    obtain ⟨-, -, -, -, hcap, -⟩ := (h r).1
    rw [show s.cleared.credit[r] = (s.links[r].profile.refill : Int) from Vector.getElem_map ..]
    exact ⟨by omega, by omega⟩
  · exact h

end operations

/-! ### The commands -/

section commands
variable {s t : State} (h : s.Budgeted)
include h

/-- Commands that write no profile, no credit and no setting. -/
theorem State.Budgeted.footprint {i : Instr} (hp : ∀ e, i ≠ .powerOnReset e) (hw : writesProfiles i = false) (ht : exec i s = .next t)
    (hd : ∀ f ∈ [Field.credit, .settings], f ∉ footprint i) : t.Budgeted := by
  have hframe := everyCommandKeepsToItsFootprint i s t ht
  refine h.credited (fun r => ?_) (hframe .settings (hd _ (by decide))) fun r => .inl
      (by rw [show t.credit = s.credit from hframe .credit (hd _ (by decide))])
  by_cases hr : ∃ l, i = .rightsSet l
  · obtain ⟨l, rfl⟩ := hr
    rw [show t.links = s.links from hframe .links (by simp [Machine.footprint, serviceFields, noticeFields])]
  · obtain ⟨u, hu, he⟩ := exec_upright hp (fun l hl => hr ⟨l, hl⟩) hw ht
    rw [he, link_congr (settle_frame u s.notices .links (by decide)), hu.2]

theorem exec_budgeted {i : Instr} (ht : exec i s = .next t) : t.Budgeted := by
  have frame : ∀ s t, ChangesOnly serviceFields s t → State.Budgeted s → State.Budgeted t := fun _ _ hf hs => hs.of_frame (by decide) hf
  cases i with
  | powerOnReset e =>
    rcases powerOnReset_cases ht with rfl | ⟨carrier, rfl⟩
    · exact h
    · exact (State.Inv.budgeted (powerOn_inv (carrier := carrier))).credited (fun _ => rfl) rfl fun _ => .inl rfl
  | refill r =>
    dsimp only [exec, execRefill] at ht
    refine event_holds frame (by decide) (fun h => ?_) ht h
    split
    · exact h
    · exact State.Budgeted.refilled (s := { s with refillsDue := _ }) h r
  | groupDecision r c k =>
    dsimp only [exec, execGroupDecision] at ht
    refine event_holds frame (by decide) (fun h => ?_) ht h
    split
    · exact h
    next p rest _ =>
      split
      · exact h
      next g hg => exact State.Budgeted.decideGroup (s := { s with offers := rest }) h r hg p
  | radioProfileSet l => exact serve_holds frame (fun _ => id) (fun p s hs => State.Budgeted.ownRadioProfileSet hs p) ht h
  | sectorSet l => exact serve_holds frame (fun _ => id) (fun p s hs => State.Budgeted.ownSectorSet hs p) ht h
  | matchClear l => exact serve_holds frame (fun _ => id) (fun p s hs => State.Budgeted.ownMatchClear hs p) ht h
  | _ =>
    exact h.footprint (fun _ => by simp) rfl ht
      (by simp [Machine.footprint, exitFields, freeFields, unbindFields, serviceFields, noticeFields])

end commands

/-- Settles O11: profiles by the two requests that write them, credits by these, the refill, the decision and MATCH_CLEAR. -/
theorem creditLawKept : Obligations.CreditLawKept := by
  intro s t h ht
  have hb : t.Budgeted := step_keeps (P := State.Budgeted) (fun _ _ => id) (fun _ _ _ ht hs => exec_budgeted hs ht) ht
    h.budgeted
  exact ⟨fun r => (hb r).1, fun r => (hb r).2⟩

end Sys2Proof.Machine
end
